-- ==== Sys2Proof/Word.lean ====
section
/-! DEFINITION. The words of the line and of the tables: bytes, and the fields that wrap. -/

namespace Sys2Proof

/-- One byte of the Canopy Line (R145) and of every record (R179). -/
abbrev Byte := BitVec 8

/-- The uptime counter and every stored uptime: 32 bits, wrapping (R107). -/
abbrev Uptime := BitVec 32

/-- A 32-bit energy register of a charger or meter, in Wh, wrapping (10.2). -/
abbrev Register := BitVec 32

/-- A bay number, 0 to 31 (conventions of the scope chapter, Names). -/
abbrev BayNo := Fin 32

/-- A canopy string index, 0 to 7. -/
abbrev StringNo := Fin 8

/-- A priority class, 0 to 7, with class 0 the highest. -/
abbrev ClassNo := Fin 8

/-- A station table position, 0 to 63 (R150). -/
abbrev Position := Fin 64

end Sys2Proof
end

