-- ==== Sys2Proof/Syntax.lean ====
section
/-! DEFINITION. The commands of the part: one constructor per row of spec/opcode_table.json, with what arrives from outside
as its operands.  A service of the Management Responder (READ, the writes, the commands) carries none: it serves the request
that stands at the head of the request queue (R164), which a MANAGE_FRAME put there. -/

namespace Sys2Proof

/-- The two ports of the Line Interface (8.1). -/
inductive Port where
  /-- The car-park segment. -/
  | down
  /-- The segment of the site computer and the till. -/
  | up
deriving DecidableEq, Repr

/-- A frame of the Canopy Line, less its length byte and its CRC, which follow from the rest (8.1, R148). -/
structure Frame where
  /-- Destination address, FFh for broadcast. -/
  dest : Byte
  /-- Address of the sender. -/
  source : Byte
  /-- Frame kind code (10.5). -/
  kind : Byte
  /-- The payload, 0 to 96 bytes. -/
  payload : List Byte
deriving DecidableEq, Repr

/-- What a receiver has gathered when an idle period of 2 byte times closes a frame (R146). -/
structure Reception where
  /-- The bytes between the two idle periods, the first one received at the head. -/
  bytes : List Byte
  /-- Whether every byte had its stop bit. -/
  stopped : Bool
deriving DecidableEq, Repr

/-- What makes a warm restart take effect (R171, R176). -/
inductive RestartCause where
  /-- The RESET pin has been held low for 1 ms. -/
  | resetPin
  /-- The transmission of a RESTART answer has ended, or that answer was dropped. -/
  | answerDone
  /-- 250 ms have passed since a RESTART answer was offered. -/
  | answerLate
deriving DecidableEq, Repr

/-- The commands and events the part takes, each whole and indivisible. -/
inductive Instr where
  /-- FRAME_ERROR (R147): `port` closes a frame that is oversize, a fragment or has a bad CRC. -/
  | frameError (port : Port) (r : Reception)
  /-- SAMPLE_FRAME (R30): a good SAMPLE from a measuring station at the Down port. -/
  | sampleFrame (r : Reception)
  /-- DEMAND_FRAME (R4): a good DEMAND from a CHARGER station at the Down port. -/
  | demandFrame (r : Reception)
  /-- LINK_FRAME (R20): a LINK to the own address at the Up port. -/
  | linkFrame (r : Reception)
  /-- MANAGE_FRAME (R164): a MANAGE frame to the own address at the Up port. -/
  | manageFrame (r : Reception)
  /-- UP_LIMIT_SCREEN (R155): a LIMIT or GRANT at the Up port to a known station. -/
  | upLimitScreen (r : Reception)
  /-- FORWARD_UP (R153): a good Down frame that is forwarded and not tapped. -/
  | forwardUp (r : Reception)
  /-- FORWARD_DOWN (R152): a good Up frame that needs no screening, or a broadcast LIMIT or GRANT. -/
  | forwardDown (r : Reception)
  /-- OWN_ADDRESS_DROP (R151, R152): a good frame to the own address that the part does not take. -/
  | ownAddressDrop (port : Port) (r : Reception)
  /-- OWN_SOURCE_DISCARD (R151, R152): a good frame whose source is the own address. -/
  | ownSourceDiscard (port : Port) (r : Reception)
  /-- TRANSMIT_START (R149): an idle transmitter takes the head frame of its queue. -/
  | transmitStart (port : Port)
  /-- READ (R166): the service of a READ request. -/
  | read
  /-- SITE_WRITE (R169): the service of a WRITE to SITE. -/
  | siteWrite
  /-- STATION_WRITE (R150): the service of a WRITE to STATION. -/
  | stationWrite
  /-- BAY_WRITE (R2): the service of a WRITE to BAY. -/
  | bayWrite
  /-- TARIFF_WRITE (R111): the service of a WRITE to TARIFF_A or TARIFF_B. -/
  | tariffWrite
  /-- BATTERY_WRITE (R73): the service of a WRITE to BATTERY. -/
  | batteryWrite
  /-- CANOPY_WRITE (R92): the service of a WRITE to CANOPY. -/
  | canopyWrite
  /-- EVENT_MASK_WRITE (R173): the service of a WRITE to EVENT_MASK. -/
  | eventMaskWrite
  /-- SET_CLOCK (R109): the service of that command. -/
  | setClock
  /-- RESTART (R171): the service of that command. -/
  | restart
  /-- RESUME (R41): the service of that command. -/
  | resume
  /-- SHED_CLEAR (R39): the service of that command. -/
  | shedClear
  /-- TOPUP (R81): the service of that command. -/
  | topUp
  /-- FORCE_CLOSE (R15): the service of that command. -/
  | forceClose
  /-- RELEASE_RECEIPT (R139): the service of that command. -/
  | releaseReceipt
  /-- CLEAR_EVENTS (R175): the service of that command. -/
  | clearEvents
  /-- CLEAR_COUNTERS (R175): the service of that command. -/
  | clearCounters
  /-- UNKNOWN_COMMAND (R170): the service of a request of unknown operation or command code. -/
  | unknownCommand
  /-- WARM_RESTART (R176), with the levels at which the SHED and ISLAND pins stand then (R44). -/
  | warmRestart (cause : RestartCause) (shedHigh islandHigh : Bool)
  /-- SUPPLY_LOSS (R177): the supply falls below 2.90 V. -/
  | supplyLoss
  /-- COLD_RESET (R177): the part leaves reset, with the levels of the two rate straps and of the SHED and ISLAND pins. -/
  | coldReset (strap1 strap2 shedHigh islandHigh : Bool)
  /-- SHED_PIN_LEVEL (R35): a level of the SHED pin has held for 20 ms. -/
  | shedPinLevel (high : Bool)
  /-- ISLAND_PIN_LEVEL (R40): a level of the ISLAND pin has held for 20 ms. -/
  | islandPinLevel (high : Bool)
  /-- METERING_TICK (R108): a second of uptime. -/
  | meteringTick
  /-- MEASURE_AGE_TICK (R31): the ages of a second of uptime. -/
  | measureAgeTick
  /-- RECORD_STALE (R32): the record of position `pos` turns stale, or its never-received wait runs out. -/
  | recordStale (pos : Position)
  /-- SILENCE_EXPIRY (R11). -/
  | silenceExpiry (bay : BayNo)
  /-- SILENT_CLOSE_EXPIRY (R12). -/
  | silentCloseExpiry (bay : BayNo)
  /-- CLOSE_HOLD_EXPIRY (R13). -/
  | closeHoldExpiry (bay : BayNo)
  /-- PENDING_LINK_EXPIRY (R24): the pending entry of `bay` reaches the link lifetime. -/
  | pendingLinkExpiry (bay : BayNo)
  /-- ALLOCATION_PASS_START (R45). -/
  | allocationPassStart
  /-- PUBLICATION (R66). -/
  | publication
  /-- GUARD_EXPIRY (R59). -/
  | guardExpiry (bay : BayNo)
  /-- DWELL_EXPIRY (R55). -/
  | dwellExpiry (cls : ClassNo)
  /-- CANOPY_PASS_START (R94). -/
  | canopyPassStart
  /-- CANOPY_PUBLICATION (R100). -/
  | canopyPublication
  /-- FRAME_TRANSMIT_END (R149): the last byte of the frame under transmission has been sent. -/
  | frameTransmitEnd (port : Port)
  /-- RECEIVER_IDLE_PERIOD (R146): a receiver that was waiting after a reset has seen 2 byte times of idle line. -/
  | receiverIdlePeriod (port : Port)
  /-- RESET_PIN_RETURN_HIGH (R176). -/
  | resetPinReturnHigh
  /-- BAD_TABLE_WRITE (R167): the service of a WRITE of an unknown or read-only table, or of a request too short for its tag
  or operation. -/
  | badTableWrite
deriving DecidableEq, Repr

end Sys2Proof
end

