-- ==== Sys2Proof/Decode.lean ====
section
/-! DEFINITION. The opcode table of this part gives no row any bits ("fields" is empty throughout), so no word spells a
command: commands come by the queue of State alone. -/

namespace Sys2Proof

/-- The command that the low `nbits` bits of `w` spell by the table: none, since the table gives no row bits (log entry 1). -/
def decodeTableWord (_nbits _w : Nat) : Option Instr := none

end Sys2Proof
end

