-- ==== Sys2Proof/Config.lean ====
section
/-! DEFINITION. What the spec leaves open and the machine still produces: free values, constants without a body. -/

namespace Sys2Proof

/-- The index byte of the answer to a WRITE that names its table and ends before its index: R180 gives the answer an index
byte and does not say which.  Free value, whatever it depends on in the request (log entry 3). -/
opaque Config.unstatedIndex (request : List Byte) : Byte

/-- Byte `place` of a `width`-byte field that is to carry a figure outside its range (a solar sum of 2^32 W or more in a
4-byte field, for instance): the spec states no encoding for it.  Free value (log entry 4). -/
opaque Config.unfitByte (width : Nat) (figure : Int) (place : Nat) : Byte

end Sys2Proof
end

