-- ==== Sys2Proof/Machine/Bytes.lean ====
section
/-! DEFINITION. Fields and bytes: every multi-byte field most significant byte first, signed fields in two's complement
(R179). -/

namespace Sys2Proof.Machine

/-- The low `w` bytes of `n`, most significant first. -/
def bytesOf : Nat → Nat → List Byte
  | 0, _ => []
  | w + 1, n => BitVec.ofNat 8 (n / 256 ^ w) :: bytesOf w n

/-- The figure that bytes carry, most significant first. -/
def natOfBytes (bs : List Byte) : Nat :=
  bs.foldl (fun acc b => acc * 256 + b.toNat) 0

/-- A figure that its field cannot carry: the spec states no encoding, so each byte is free (log entry 4). -/
def unfit (w : Nat) (z : Int) : List Byte :=
  (List.range w).map (Config.unfitByte w z)

/-- An unsigned field of `w` bytes (R179). -/
def fieldU (w : Nat) (n : Nat) : List Byte :=
  if n < 256 ^ w then bytesOf w n else unfit w n

/-- A signed field of `w` bytes, two's complement (R179). -/
def fieldI (w : Nat) (z : Int) : List Byte :=
  if -(128 * 256 ^ (w - 1)) ≤ z ∧ z < 128 * 256 ^ (w - 1) then bytesOf w (z % 256 ^ w).toNat else unfit w z

/-- A flag or yes-no byte (R184). -/
def fieldB (b : Bool) : Byte := if b then 1 else 0

/-- The bytes of the field of width `w` at offset `off` of a payload or record. -/
def slice (p : List Byte) (off w : Nat) : List Byte := (p.drop off).take w

/-- The unsigned field of width `w` at offset `off`. -/
def readU (p : List Byte) (off w : Nat) : Nat := natOfBytes (slice p off w)

/-- The signed field of width `w` at offset `off` (R179). -/
def readI (p : List Byte) (off w : Nat) : Int :=
  let n := readU p off w
  if n < 128 * 256 ^ (w - 1) then n else (n : Int) - 256 ^ w

/-- The byte at offset `off`. -/
def readByte (p : List Byte) (off : Nat) : Byte := BitVec.ofNat 8 (readU p off 1)

/-- A 32-bit field, such as a register or an uptime. -/
def field32 (v : BitVec 32) : List Byte := bytesOf 4 v.toNat

/-- A 16-bit field, such as a session id or an event set. -/
def field16 (v : BitVec 16) : List Byte := bytesOf 2 v.toNat

end Sys2Proof.Machine
end

