-- ==== Sys2Proof/Machine/Frame.lean ====
section
/-! DEFINITION. Frames on the line: kind codes, the CRC (R148), the bytes of a frame (8.1) and the judgement of a received
frame (R146, R147). -/

namespace Sys2Proof.Machine

/-- SAMPLE (10.5). -/
def kindSample : Byte := 0x10
/-- DEMAND (10.5). -/
def kindDemand : Byte := 0x20
/-- GRANT (10.5). -/
def kindGrant : Byte := 0x21
/-- LIMIT (10.5). -/
def kindLimit : Byte := 0x30
/-- LINK (10.5). -/
def kindLink : Byte := 0x40
/-- LINK-ANSWER (10.5). -/
def kindLinkAnswer : Byte := 0x41
/-- RECEIPT (10.5). -/
def kindReceipt : Byte := 0x50
/-- STATUS (10.5). -/
def kindStatus : Byte := 0x60
/-- MANAGE (10.5). -/
def kindManage : Byte := 0x70
/-- MANAGE-ANSWER (10.5). -/
def kindManageAnswer : Byte := 0x71
/-- The broadcast address (8.1). -/
def broadcast : Byte := 0xFF

/-- One bit of the CRC register's division by x^16 + x^12 + x^5 + 1 (R148). -/
def crcShift (c : BitVec 16) : BitVec 16 :=
  if c.msb then (c <<< 1) ^^^ 0x1021#16 else c <<< 1

/-- A byte taken into the CRC register, most significant bit first (R148). -/
def crcByte (c : BitVec 16) (b : Byte) : BitVec 16 :=
  crcShift^[8] (c ^^^ (b.setWidth 16 <<< 8))

/-- The CRC register after `bs`, preset to FFFFh and not inverted at the end (R148). -/
def crc (bs : List Byte) : BitVec 16 := bs.foldl crcByte 0xFFFF#16

/-- The bytes of a frame from the destination to the last payload byte (8.1). -/
def frameBody (f : Frame) : List Byte :=
  f.dest :: f.source :: f.kind :: BitVec.ofNat 8 f.payload.length :: f.payload

/-- The bytes of a frame on the line, its CRC last, the high byte first (8.1, R148). -/
def frameBytes (f : Frame) : List Byte :=
  frameBody f ++ field16 (crc (frameBody f))

/-- The outcome of the closing idle period (R147). -/
inductive Verdict where
  /-- A length byte above 96. -/
  | oversize
  /-- A byte without its stop bit, fewer than 6 bytes, or a byte count other than 6 plus the length. -/
  | fragment
  /-- The CRC bytes do not match. -/
  | crcError
  /-- A good frame. -/
  | good (f : Frame)
deriving DecidableEq, Repr

/-- The judgement of a closed frame by the first row of R147 that holds. -/
def judge (r : Reception) : Verdict :=
  match r.bytes with
  | dest :: source :: kind :: len :: rest =>
    if 96 < len.toNat then .oversize
    else if r.stopped = false ∨ r.bytes.length ≠ 6 + len.toNat then .fragment
    else
      let payload := rest.take len.toNat
      if rest.drop len.toNat = field16 (crc (dest :: source :: kind :: len :: payload)) then
        .good ⟨dest, source, kind, payload⟩
      else .crcError
  | _ => .fragment

/-- The good frame of a reception, if it is one. -/
def goodFrame (r : Reception) : Option Frame :=
  match judge r with
  | .good f => some f
  | _ => none

/-- Whether a reception is a good frame of one of `kinds`. -/
def isGoodOf (kinds : List Byte) (r : Reception) : Bool :=
  (goodFrame r).any fun f => kinds.contains f.kind

end Sys2Proof.Machine
end

