-- ==== Sys2Proof/Machine/State.lean ====
section
/-! DEFINITION. The state of the part, block by block as the scope chapter's block overview lists them, and its cold reset
values.  Plain data throughout. -/

namespace Sys2Proof.Machine

/-! ### Stations, measurements and control inputs -/

/-- The role of a station table entry, with the bay or string it serves (R150). -/
inductive Role where
  | charger (bay : BayNo)
  | gridMeter
  | shopMeter
  | pvString (j : StringNo)
  | battery
deriving DecidableEq, Repr

/-- A non-empty station table entry (R150). -/
structure Station where
  /-- The station's own address on the line. -/
  address : Byte
  /-- What the station is, and its index. -/
  role : Role
  /-- The forward divider, 1 to 16. -/
  divider : Nat
deriving DecidableEq, Repr

/-- The stored values of a measurement record, by role (R29). -/
inductive Values where
  /-- Grid power in W, import positive, and the grid energy register. -/
  | grid (power : Int) (register : Register)
  /-- Shop power in W. -/
  | shop (power : Nat)
  /-- String power and reported rating in W. -/
  | pv (power rating : Nat)
  /-- Battery power in W, discharge positive; state of charge in 0.1 %; available charge and discharge in W. -/
  | battery (power : Int) (soc charge discharge : Nat)
deriving DecidableEq, Repr

/-- A measurement record of the SIU (R28, R29). -/
structure MeasRecord where
  /-- The stored values; absent is the never-received mark (R32). -/
  values : Option Values
  /-- The age in seconds, 0 to 255, saturating (R31). -/
  age : Nat
  /-- The uptime at which the record was created or last made never-received (R29). -/
  waitStart : Uptime
  /-- The model's own field: whether the event of the present stale spell has been raised (R32 raises it once). -/
  reported : Bool
deriving DecidableEq, Repr

/-- The sense of a control input (2.2). -/
inductive Sense where
  | levelHigh | levelLow | rising | falling
deriving DecidableEq, Repr

/-- A control input of the SIU (R35, R36). -/
structure Input where
  /-- The taken level of the pin. -/
  high : Bool
  /-- Whether the input is active. -/
  active : Bool
  /-- The latch of an edge sense. -/
  latch : Bool
deriving DecidableEq, Repr

/-! ### Bays -/

/-- Charger states (10.5). -/
inductive ChargerState where
  | available | connected | requesting | ending | ended | fault
deriving DecidableEq, Repr

/-- Session states (R3). -/
inductive SessionState where
  | vacant | connected | active | silent | closing | held | disabled
deriving DecidableEq, Repr

/-- End reasons (R3). -/
inductive EndReason where
  | unplugged | chargerFault | forced | silent | bayDisabled | vehicleLeft
deriving DecidableEq, Repr

/-- Stored phases: 1 or 3 (R4). -/
inductive Phases where
  | one | three
deriving DecidableEq, Repr

/-- Grant outcomes (10.5). -/
inductive GrantOutcome where
  | none | admitted | waitingBudget | waitingGuard | waitingShed | frozen | fallback | disabled
deriving DecidableEq, Repr

/-- A site time while the clock is set (R108). -/
structure SiteTime where
  /-- The day number; day 0 is a Monday. -/
  day : BitVec 16
  /-- The second of day, 0 to 86,399. -/
  second : Nat
deriving DecidableEq, Repr

/-- The charger figures of a bay and the uptime of the DEMAND they came with (R3, R4). -/
structure Figures where
  state : ChargerState
  /-- Requested current, dA. -/
  requested : Nat
  /-- Declared minimum current, dA. -/
  minimum : Nat
  /-- Declared maximum current, dA. -/
  maximum : Nat
  phases : Phases
  /-- Measured power, W, 0 to 100,000. -/
  power : Nat
  register : Register
  /-- Last DEMAND uptime. -/
  takenAt : Uptime
deriving DecidableEq, Repr

/-- The configuration part of a bay record (R2). -/
structure BayConfig where
  enabled : Bool
  cls : ClassNo
  /-- Bay cap in dA; 0 means no cap. -/
  cap : Nat
deriving DecidableEq, Repr

/-- The link of a session: token, allowance linked (Wh) and allowance remaining (J) (R22). -/
structure SessionLink where
  token : BitVec 64
  allowance : Nat
  remaining : Nat
deriving DecidableEq, Repr

/-- The timer start of an open bay (R3), with the model's own mark `due`: the duration had been reached at the last second of
uptime, which is when a timer expires (R10). -/
structure SessionTimer where
  start : Uptime
  due : Bool
deriving DecidableEq, Repr

/-- The session part of a bay record (R3). -/
structure Session where
  state : SessionState
  id : BitVec 16
  startTime : Option SiteTime
  startUptime : Option Uptime
  startRegister : Option Register
  finalRegister : Option Register
  endTime : Option SiteTime
  endUptime : Option Uptime
  endReason : Option EndReason
  timer : Option SessionTimer
  link : Option SessionLink
  restarted : Bool
  blocked : Bool
  figures : Option Figures
deriving DecidableEq, Repr

/-- The two tariff profiles (6.2). -/
inductive ProfileName where
  | a | b
deriving DecidableEq, Repr

/-- A band identity: profile and position (R111). -/
structure BandRef where
  profile : ProfileName
  position : Nat
deriving DecidableEq, Repr

/-- A band entry of a session (R115): band J and cost accumulator in J × tenths of a minor unit per kWh. -/
structure BandEntry where
  band : BandRef
  joules : Nat
  cost : Nat
deriving DecidableEq, Repr

/-- The metering part of a bay record (R115). -/
structure Metering where
  energy : Nat
  solar : Nat
  battery : Nat
  grid : Nat
  free : Nat
  bands : List BandEntry
  merged : Bool
  /-- Peak grant, dA. -/
  peak : Nat
  wait : Nat
  shed : Nat
deriving DecidableEq, Repr

/-- A timer that counts down in seconds of uptime.  `left` is its value.  `due` says that its last second has run, and the step
that stands for its expiry is to take it to 0 (log entry 6). -/
structure Countdown where
  left : Nat
  due : Bool
deriving DecidableEq, Repr

/-- The last GRANT the AE queued for a bay (R68). -/
structure SentGrant where
  grant : Nat
  outcome : GrantOutcome
  sentAt : Uptime
deriving DecidableEq, Repr

/-- The allocation part of a bay record (1.1, R70). -/
structure Alloc where
  outcome : GrantOutcome
  /-- Published grant, dA. -/
  grant : Nat
  sent : Option SentGrant
  /-- Restart guard remaining. -/
  guard : Countdown
deriving DecidableEq, Repr

/-- A bay record: its four parts (1.1). -/
structure Bay where
  config : BayConfig
  session : Session
  metering : Metering
  alloc : Alloc
deriving DecidableEq, Repr

/-- An entry of the pending link table (R23), with the model's own mark `due` as in `SessionTimer` (R24, R10). -/
structure PendingLink where
  bay : BayNo
  token : BitVec 64
  allowance : Nat
  stored : Uptime
  due : Bool
deriving DecidableEq, Repr

/-! ### Line interface -/

/-- What a frame in a transmit queue is (R157, R158). -/
inductive Origin where
  /-- A frame forwarded from the other port. -/
  | forwarded
  /-- An own GRANT, with the bay it was queued for. -/
  | grant (bay : BayNo)
  /-- An own LIMIT of Battery Dispatch or Canopy Control. -/
  | limit
  | receipt
  | linkAnswer
  | status
  | manageAnswer
  /-- The answer to a RESTART command, whose transmission's end makes the restart take effect (R171). -/
  | restartAnswer
deriving DecidableEq, Repr

/-- A frame in a transmit queue. -/
structure Queued where
  frame : Frame
  origin : Origin
deriving DecidableEq, Repr

/-- The line counters of one port (R160). -/
structure PortCounters where
  received : Nat
  crcError : Nat
  oversize : Nat
  fragment : Nat
  drop : Nat
deriving DecidableEq, Repr

/-- One port of the Line Interface (8.1, 8.5). -/
structure PortState where
  /-- The receiver waits for its first idle period after a reset (R146). -/
  waiting : Bool
  /-- The transmit queue, head first. -/
  queue : List Queued
  /-- The frame under transmission. -/
  sending : Option Queued
  counters : PortCounters
deriving DecidableEq, Repr

/-- Line rates (R145). -/
inductive LineRate where
  | r57600 | r115200 | r230400 | r460800
deriving DecidableEq, Repr

/-- The Line Interface. -/
structure LineState where
  rate : LineRate
  down : PortState
  up : PortState
deriving DecidableEq, Repr

/-- The Frame Screen (8.2, R154, R160). -/
structure ScreenState where
  stations : Vector (Option Station) 64
  /-- Forward counts. -/
  counts : Vector Nat 64
  unknownStation : Nat
  ownAddressDrops : Nat
  limitClamps : Nat
  autoBatteryDrops : Nat
deriving DecidableEq, Repr

/-- The Site Input Unit (chapter 2). -/
structure SiuState where
  records : Vector (Option MeasRecord) 64
  shed : Input
  island : Input
  /-- The grant freeze. -/
  freeze : Bool
deriving DecidableEq, Repr

/-! ### The site table -/

/-- The site table (9.3, 10.6). -/
structure SiteTable where
  ownAddress : Byte
  /-- The four manager list entries, FFh for empty. -/
  managers : Vector Byte 4
  alertDest : Byte
  receiptDest : Byte
  maskChargerWh : Bool
  maskPeak : Bool
  maskWait : Bool
  maskShed : Bool
  maskBands : Bool
  registerTolerance : Nat
  highWater : Nat
  silenceTimeout : Nat
  closeHold : Nat
  silentClose : Nat
  linkLifetime : Nat
  holdTime : Nat
  assumedShop : Nat
  shedSense : Sense
  islandSense : Sense
  allocPeriod : Nat
  /-- Nominal phase voltage V. -/
  volts : Nat
  importLimit : Nat
  peakTarget : Nat
  shedTarget : Nat
  fallbackTarget : Nat
  margin : Nat
  trimDecay : Nat
  shedFloor : Nat
  fallbackBudget : Nat
  restartGuard : Nat
  /-- Dwell of each class; 0 means 65,536 s. -/
  dwell : Vector Nat 8
  grantRefresh : Nat
  settleTimeout : Nat
  /-- Weekend mask, bit 0 Monday to bit 6 Sunday. -/
  weekend : BitVec 7
deriving DecidableEq, Repr

/-! ### Allocation Engine -/

/-- The basis of a pass (R47). -/
inductive Basis where
  | normal | frozen | fallback | settle
deriving DecidableEq, Repr

/-- The balance record (R65). -/
structure Balance where
  basis : Basis
  gridFresh : Bool
  shed : Bool
  peak : Bool
  /-- Import target L. -/
  target : Nat
  /-- Import trim Tr. -/
  trim : Nat
  /-- Shop load D. -/
  shop : Nat
  /-- Solar S. -/
  solar : Nat
  /-- A0. -/
  avail : Int
  /-- Discharge offer Bd of the snapshot. -/
  offer : Nat
  /-- Charger budget C. -/
  budget : Nat
  /-- Granted total T. -/
  granted : Nat
  slack : Nat
  batteryCall : Nat
  totalSurplus : Nat
  solarSurplus : Nat
  gridSurplus : Nat
  unmet : Nat
  number : BitVec 16
deriving DecidableEq, Repr

/-- What a pass in flight holds of one bay. -/
structure PassLine where
  /-- Whether the bay was ACTIVE at the snapshot. -/
  active : Bool
  /-- Whether it is a candidate (R51). -/
  candidate : Bool
  /-- Its class at the snapshot. -/
  cls : ClassNo
  /-- The outcome the pass gave it, where it was ACTIVE and enabled. -/
  outcome : GrantOutcome
  /-- The grant the pass gave it. -/
  grant : Nat
  phases : Phases
  /-- Its maximum power at the snapshot (R51). -/
  maxPower : Nat
  /-- The station table position of its CHARGER entry at the snapshot (R67). -/
  charger : Option Position
deriving DecidableEq, Repr

/-- An allocation pass in flight: what it takes from its snapshot to its publication (R46). -/
structure AllocPass where
  basis : Basis
  gridFresh : Bool
  shed : Bool
  peak : Bool
  target : Nat
  trim : Nat
  shop : Nat
  solar : Nat
  avail : Int
  offer : Nat
  budget : Nat
  /-- The snapshot's nominal phase voltage. -/
  volts : Nat
  /-- The snapshot's restart guard. -/
  restartGuard : Nat
  /-- The snapshot's grant refresh. -/
  grantRefresh : Nat
  /-- The rotation lists and rotate marks as the pass found them: what a ROTATION read shows until its publication (R72). -/
  found : Vector (List BayNo × Bool) 8
  lines : Vector PassLine 32
deriving DecidableEq, Repr

/-- The dwell timer and rotate mark of a class (R53, R54). -/
structure Dwell where
  timer : Countdown
  running : Bool
  mark : Bool
deriving DecidableEq, Repr

/-- The Allocation Engine, beside the allocation parts of the bay records. -/
structure AllocState where
  lists : Vector (List BayNo) 8
  dwells : Vector Dwell 8
  trim : Nat
  balance : Balance
  timer : Countdown
  /-- Whether the settle is in force (R69). -/
  settling : Bool
  settleStart : Uptime
  pass : Option AllocPass
deriving DecidableEq, Repr

/-! ### Battery Dispatch -/

/-- Battery control (R73). -/
inductive Control where
  | auto | manual
deriving DecidableEq, Repr

/-- Battery modes (R74). -/
inductive Mode where
  | reserve | shave | full | topUp | island | off | manual
deriving DecidableEq, Repr

/-- Band memory values other than none (R75). -/
inductive Memory where
  | reserve | shave | full
deriving DecidableEq, Repr

/-- The battery table (R73). -/
structure BatteryTable where
  chargeRating : Nat
  dischargeRating : Nat
  reserveEnter : Nat
  reserveExit : Nat
  fullStop : Nat
  fullResume : Nat
  topUpTarget : Nat
  control : Control
  step : Nat
  refresh : Nat
deriving DecidableEq, Repr

/-- The last setpoint sent (R74). -/
structure SentSetpoint where
  power : Int
  sentAt : Uptime
deriving DecidableEq, Repr

/-- Battery Dispatch (R74). -/
structure BatteryState where
  table : BatteryTable
  mode : Mode
  memory : Option Memory
  topUp : Bool
  /-- Discharge offer Bd. -/
  offerBd : Nat
  /-- Charge offer Bc. -/
  offerBc : Nat
  manual : Int
  sent : Option SentSetpoint
  /-- The last state of charge used. -/
  lastSoc : Option Nat
deriving DecidableEq, Repr

/-! ### Canopy Control -/

/-- A string record of the canopy table (R92). -/
structure StringConfig where
  enabled : Bool
  rating : Nat
  floor : Nat
deriving DecidableEq, Repr

/-- The canopy table (R92). -/
structure CanopyTable where
  enabled : Bool
  /-- Export limit L_exp. -/
  limit : Nat
  deadband : Nat
  period : Nat
  strings : Vector StringConfig 8
deriving DecidableEq, Repr

/-- The last cap sent to a string (R93). -/
structure SentCap where
  cap : Nat
  sentAt : Uptime
deriving DecidableEq, Repr

/-- What CC holds of one string (R93). -/
structure StringState where
  /-- Cap in force. -/
  cap : Option Nat
  sent : Option SentCap
  /-- Release mark. -/
  release : Bool
deriving DecidableEq, Repr

/-- A canopy pass in flight (R95 to R99). -/
structure CanopyPass where
  /-- K of step 3. -/
  amount : Nat
  /-- The caps of step 4. -/
  caps : Vector (Option Nat) 8
  /-- The string enables of the snapshot. -/
  enabled : Vector Bool 8
  /-- Target and common cap c, where step 4 formed them. -/
  formed : Option (Int × Nat)
deriving DecidableEq, Repr

/-- Canopy Control (R93). -/
structure CanopyState where
  table : CanopyTable
  /-- Curtailment amount K. -/
  amount : Nat
  strings : Vector StringState 8
  target : Int
  /-- Common cap c. -/
  common : Nat
  timer : Countdown
  pass : Option CanopyPass
deriving DecidableEq, Repr

/-! ### Metering Unit -/

/-- A tariff band (R111). -/
structure Band where
  start : Nat
  gridPrice : Nat
  greenPrice : Nat
  peak : Bool
  cheap : Bool
deriving DecidableEq, Repr

/-- A tariff profile: never without a band (R111). -/
structure Profile where
  first : Band
  rest : List Band
deriving DecidableEq, Repr

/-- The site split of a tick, in J (R118). -/
structure SiteSplit where
  ch : Nat
  pv : Nat
  bd : Nat
  shop : Nat
  pvLeft : Nat
  shopShort : Nat
  batLeft : Nat
  solarCh : Nat
  batteryCh : Nat
  gridCh : Nat
deriving DecidableEq, Repr

/-- The Metering Unit, beside the metering parts of the bay records (6.1, 6.2, R114, R118). -/
structure MeterState where
  uptime : Uptime
  /-- The site clock; absent while unset. -/
  clock : Option SiteTime
  profileA : Profile
  profileB : Profile
  /-- The band in force at the last tick. -/
  lastBand : BandRef
  lastSplit : SiteSplit
deriving DecidableEq, Repr

/-! ### Receipt Queue -/

/-- A band entry of a receipt (R133). -/
structure ReceiptBand where
  band : BandRef
  wh : Nat
  amount : Nat
deriving DecidableEq, Repr

/-- A receipt: every figure, whether or not it is carried outward (R131 to R136). -/
structure Receipt where
  number : BitVec 32
  bay : BayNo
  sessionId : BitVec 16
  endReason : EndReason
  startTime : Option SiteTime
  endTime : Option SiteTime
  duration : Uptime
  solarWh : Nat
  batteryWh : Nat
  gridWh : Nat
  energyWh : Nat
  freeWh : Nat
  bands : List ReceiptBand
  amount : Nat
  token : Option (BitVec 64)
  chargerWh : Option (BitVec 32)
  peak : Nat
  wait : Nat
  shed : Nat
  clockUnset : Bool
  estimated : Bool
  registerMismatch : Bool
  bandMerged : Bool
  restarted : Bool
  /-- The receipt's own field mask: bit 0 token, 1 charger Wh, 2 peak grant, 3 wait, 4 shed, 5 band list (R136, 10.3). -/
  mask : BitVec 6
deriving DecidableEq, Repr

/-- The Receipt Queue (R127). -/
structure ReceiptState where
  receipts : List Receipt
  next : BitVec 32
  high : Bool
deriving DecidableEq, Repr

/-! ### Management Responder -/

/-- A MANAGE request in the request queue (R164). -/
structure Request where
  source : Byte
  payload : List Byte
deriving DecidableEq, Repr

/-- The checks of the plan check (R172). -/
inductive PlanCheck where
  | duplicateAddress | secondRole | sharedIndex | bayNoCharger | batteryOrder | tariffOrder | stringNoStation
deriving DecidableEq, Repr

/-- A failing plan check and the index it reports. -/
structure PlanFault where
  check : PlanCheck
  index : Byte
deriving DecidableEq, Repr

/-- How far a commanded restart has come (R171). -/
inductive RestartPhase where
  /-- None is scheduled. -/
  | idle
  /-- The answer waits or is under transmission. -/
  | answering
  /-- The answer's transmission has ended, or the answer was dropped. -/
  | due
deriving DecidableEq, Repr

/-- The Management Responder (chapter 9). -/
structure ManageState where
  site : SiteTable
  requests : List Request
  /-- The pending set, bit n for the event of code n (R179). -/
  events : BitVec 16
  /-- The event mask. -/
  mask : BitVec 16
  /-- The plan status: absent is OK. -/
  plan : Option PlanFault
  restart : RestartPhase
  /-- The RESET pin can request a restart: it has been high since the last one it requested (R176). -/
  resetArmed : Bool
deriving DecidableEq, Repr

/-- The part. -/
structure State where
  /-- The model's own queue of commands that wait, first in, first out. -/
  pending : List Instr
  /-- Clear while the supply monitor holds the part in reset (R177). -/
  powered : Bool
  li : LineState
  fs : ScreenState
  siu : SiuState
  bays : Vector Bay 32
  /-- The pending link table, oldest first (R23). -/
  links : List PendingLink
  /-- The held list, head first (R17). -/
  held : List BayNo
  ae : AllocState
  bd : BatteryState
  cc : CanopyState
  mu : MeterState
  rq : ReceiptState
  mr : ManageState
deriving DecidableEq, Repr

/-- The reasons a step may stop with a fault: none.  The spec names no condition at which the part stops on a command, and gives
every command an effect or leaves the state as it is. -/
inductive Fault
deriving DecidableEq, Repr

/-- The reasons a command may be refused. -/
inductive Refusal where
  /-- Raised by an arm of `exec` whose command has no meaning yet; no arm is such an arm.  Safe: nothing follows from it. -/
  | notModelled (mnemonic : String)
deriving DecidableEq, Repr

/-! ### Cold reset values -/

/-- A countdown loaded with `n` seconds. -/
def Countdown.load (n : Nat) : Countdown := ⟨n, false⟩

/-- A bay after cold reset (R2, R26, R70, R125). -/
def Bay.cold : Bay where
  config := ⟨false, 0, 0⟩
  session := ⟨.disabled, 0, none, none, none, none, none, none, none, none, none, false, false, none⟩
  metering := ⟨0, 0, 0, 0, 0, [], false, 0, 0, 0⟩
  alloc := ⟨.none, 0, none, Countdown.load 0⟩

/-- The counters of a port after either reset (R162, R163). -/
def PortCounters.zero : PortCounters := ⟨0, 0, 0, 0, 0⟩

/-- A port after either reset but for its counters' clearing, which is the same (R162, R163). -/
def PortState.cold : PortState := ⟨true, [], none, PortCounters.zero⟩

/-- The site table's defaults (9.3, 3.1, 7.1, 1.3, R112). -/
def SiteTable.cold : SiteTable where
  ownAddress := 0xF0
  managers := Vector.replicate 4 0xFF
  alertDest := 0xFF
  receiptDest := 0xFF
  maskChargerWh := true
  maskPeak := true
  maskWait := true
  maskShed := true
  maskBands := true
  registerTolerance := 100
  highWater := 40
  silenceTimeout := 10
  closeHold := 30
  silentClose := 300
  linkLifetime := 900
  holdTime := 5
  assumedShop := 60000
  shedSense := .levelHigh
  islandSense := .levelHigh
  allocPeriod := 2
  volts := 230
  importLimit := 0
  peakTarget := 0
  shedTarget := 0
  fallbackTarget := 0
  margin := 5000
  trimDecay := 1000
  shedFloor := 3
  fallbackBudget := 0
  restartGuard := 60
  dwell := Vector.replicate 8 900
  grantRefresh := 10
  settleTimeout := 10
  weekend := 0x60

/-- The balance record after either reset: basis SETTLE, every other field 0 (R70, R71). -/
def Balance.zero : Balance :=
  ⟨.settle, false, false, false, 0, 0, 0, 0, 0, 0, 0, 0, 0, 0, 0, 0, 0, 0, 0⟩

/-- The Allocation Engine after cold reset (R70). -/
def AllocState.cold : AllocState where
  lists := Vector.replicate 8 []
  dwells := Vector.replicate 8 ⟨Countdown.load 900, false, false⟩
  trim := 0
  balance := Balance.zero
  timer := Countdown.load 2
  settling := true
  settleStart := 0
  pass := none

/-- The battery table's cold reset values (R73). -/
def BatteryTable.cold : BatteryTable := ⟨0, 0, 300, 350, 950, 900, 900, .auto, 500, 10⟩

/-- Battery Dispatch after cold reset with the freeze clear (R90). -/
def BatteryState.cold : BatteryState := ⟨BatteryTable.cold, .off, none, false, 0, 0, 0, none, none⟩

/-- Canopy Control after cold reset (R92, R105). -/
def CanopyState.cold : CanopyState where
  table := ⟨false, 0, 500, 5, Vector.replicate 8 ⟨false, 0, 0⟩⟩
  amount := 0
  strings := Vector.replicate 8 ⟨none, none, false⟩
  target := 0
  common := 0
  timer := Countdown.load 5
  pass := none

/-- A profile after cold reset (R125). -/
def Profile.cold : Profile := ⟨⟨0, 0, 0, false, false⟩, []⟩

/-- The site split after cold reset (R125). -/
def SiteSplit.zero : SiteSplit := ⟨0, 0, 0, 0, 0, 0, 0, 0, 0, 0⟩

/-- The Metering Unit after cold reset (R125). -/
def MeterState.cold : MeterState := ⟨0, none, Profile.cold, Profile.cold, ⟨.a, 0⟩, SiteSplit.zero⟩

/-- The part right after a cold reset with both rate straps low and the SHED and ISLAND pins low: the levels are the model's
choice (log entry 5).  Every field is at the value its chapter gives (R26, R43, R70, R90, R105, R125, R143, R162, R178). -/
def State.reset : State where
  pending := []
  powered := true
  li := ⟨.r115200, PortState.cold, PortState.cold⟩
  fs := ⟨Vector.replicate 64 none, Vector.replicate 64 0, 0, 0, 0, 0⟩
  siu := ⟨Vector.replicate 64 none, ⟨false, false, false⟩, ⟨false, false, false⟩, false⟩
  bays := Vector.replicate 32 Bay.cold
  links := []
  held := []
  ae := AllocState.cold
  bd := BatteryState.cold
  cc := CanopyState.cold
  mu := MeterState.cold
  rq := ⟨[], 1, false⟩
  mr := ⟨SiteTable.cold, [], 0, 0, none, .idle, true⟩

end Sys2Proof.Machine
end

