-- ==== Sys2Proof/Machine/Flags.lean ====
section
/-! DEFINITION. Event flags (9.6), saturating counters (R160) and the line byte of the control inputs (10.3). -/

namespace Sys2Proof.Machine

/-- The 16 events of the part (9.6, 10.5). -/
inductive Event where
  | shedChange | islandOn | meterStale | stringStale | batteryStale | importOver | planFault | baySilent
  | receiptHigh | receiptHeld | curtailActive | curtailFloor | batteryMode | topUpDone | lineError | linkExpired
deriving DecidableEq, Repr

/-- The bit number of an event (10.5). -/
def Event.code : Event → Nat
  | .shedChange => 0
  | .islandOn => 1
  | .meterStale => 2
  | .stringStale => 3
  | .batteryStale => 4
  | .importOver => 5
  | .planFault => 6
  | .baySilent => 7
  | .receiptHigh => 8
  | .receiptHeld => 9
  | .curtailActive => 10
  | .curtailFloor => 11
  | .batteryMode => 12
  | .topUpDone => 13
  | .lineError => 14
  | .linkExpired => 15

/-- The event set that holds one event (R179). -/
def Event.flag (e : Event) : BitVec 16 := 1#16 <<< e.code

/-- A block raises an event: its pending flag is set, masked or not, and no other flag changes (R173). -/
def State.raise (s : State) (e : Event) : State :=
  { s with mr.events := s.mr.events ||| e.flag }

/-- An event is raised where a condition holds. -/
def State.raiseIf (s : State) (c : Bool) (e : Event) : State :=
  if c then s.raise e else s

/-- Whether an event is pending (R173). -/
def State.isPending (s : State) (e : Event) : Bool := s.mr.events &&& e.flag != 0

/-- The unmasked pending set (R173). -/
def State.unmasked (s : State) : BitVec 16 := s.mr.events &&& ~~~ s.mr.mask

/-- The ALERT pin: asserted while the unmasked pending set is non-empty, released while the part is held in reset
(R173, R177). -/
def State.alert (s : State) : Bool := s.powered && s.unmasked != 0

/-- A counter counts and stops at 65,535 (R160). -/
def bump (n : Nat) : Nat := min 65535 (n + 1)

/-- A counter counts `k` occurrences. -/
def bumpBy (k n : Nat) : Nat := min 65535 (n + k)

/-- The line byte of the STATUS frame: bit 0 the grant freeze, bit 1 SHED active (10.3).  DESIGN CHOICE: bits 2 to 7 are 0 (log entry
48). -/
def State.lineByte (s : State) : Byte :=
  (if s.siu.freeze then 1 else 0) ||| (if s.siu.shed.active then 2 else 0)

end Sys2Proof.Machine
end

