-- ==== Sys2Proof/Machine/Ops.lean ====
section
/-! DEFINITION. The named operations that the meanings share: time, ports and transmit queues, stations, bays, and the shape of
one event. -/

namespace Sys2Proof.Machine

/-! ### Time -/

/-- "The present uptime minus" a stored uptime, modulo 2^32 (R107). -/
def elapsed (now start : Uptime) : Nat := (now - start).toNat

/-- The present uptime. -/
def State.now (s : State) : Uptime := s.mu.uptime

/-- A second of uptime in a countdown.  Its last second leaves the value at 1 and makes it due: the step that stands for the
expiry takes it to 0 (log entry 6). -/
def Countdown.tick (t : Countdown) : Countdown :=
  if 2 ≤ t.left then { t with left := t.left - 1 }
  else if t.left = 1 then { t with due := true }
  else t

/-- The site time while the clock is set (R110). -/
def State.siteTime (s : State) : Option SiteTime := s.mu.clock

/-! ### Ports and transmit queues -/

/-- A port of the Line Interface. -/
def State.port (s : State) : Port → PortState
  | .down => s.li.down
  | .up => s.li.up

/-- A port takes a new state. -/
def State.setPort (s : State) (p : Port) (x : PortState) : State :=
  match p with
  | .down => { s with li.down := x }
  | .up => { s with li.up := x }

/-- The number of frames a transmit queue holds (8.5). -/
def queueSize : Nat := 16

/-- The number of receipts the receipt queue holds (R130). -/
def receiptSlots : Nat := 48

/-- Whether an offered own frame replaces a waiting one: an own GRANT one for the same bay, an own LIMIT one with the same
destination (R158). -/
def replaces (new old : Queued) : Bool :=
  match new.origin with
  | .grant b => old.origin == .grant b
  | .limit => old.origin == .limit && old.frame.dest == new.frame.dest
  | _ => false

/-- The queue with the frame that `new` replaces replaced in its place, if it holds one (R158). -/
def replaceIn (new : Queued) : List Queued → Option (List Queued)
  | [] => none
  | old :: rest => if replaces new old then some (new :: rest) else (replaceIn new rest).map (old :: ·)

/-- What becomes of an offer: replaced in place, appended at the tail, or none where it is dropped (R157). -/
def enqueue (queue : List Queued) (new : Queued) : Option (List Queued) :=
  match replaceIn new queue with
  | some q => some q
  | none => if queue.length < queueSize then some (queue ++ [new]) else none

/-- The transmit-queue drops of a port go up by `k` (R157, R160). -/
def State.countDrops (s : State) (p : Port) (k : Nat) : State :=
  s.setPort p { s.port p with counters.drop := bumpBy k (s.port p).counters.drop }

/-- A transmit queue takes new contents. -/
def State.setQueue (s : State) (p : Port) (q : List Queued) : State :=
  s.setPort p { s.port p with queue := q }

/-- A frame is offered to a transmit queue.  The answer says whether it was taken; a drop is counted (R157). -/
def State.offer (s : State) (p : Port) (new : Queued) : State × Bool :=
  match enqueue (s.port p).queue new with
  | some q => (s.setQueue p q, true)
  | none => (s.countDrops p 1, false)

/-- The RECEIPT frames of one receipt are offered: all of them are appended, or none and each is counted as a drop
(R137, R157). -/
def State.offerAll (s : State) (p : Port) (news : List Queued) : State :=
  if (s.port p).queue.length + news.length ≤ queueSize then
    s.setQueue p ((s.port p).queue ++ news)
  else s.countDrops p news.length

/-- The part's own address (R169). -/
def State.own (s : State) : Byte := s.mr.site.ownAddress

/-- A frame of the part's own, from its own address. -/
def State.ownFrame (s : State) (dest kind : Byte) (payload : List Byte) : Frame :=
  ⟨dest, s.own, kind, payload⟩

/-! ### Stations -/

/-- The entry of lowest position that satisfies `p` (R150). -/
def State.findStation (s : State) (p : Station → Bool) : Option (Position × Station) :=
  (List.finRange 64).findSome? fun i =>
    match s.fs.stations[i] with
    | some e => if p e then some (i, e) else none
    | none => none

/-- The entry an address matches: none for the broadcast address (R150). -/
def State.stationOf (s : State) (a : Byte) : Option (Position × Station) :=
  if a = broadcast then none else s.findStation fun e => e.address == a

/-- The entry of lowest position of a role, index included. -/
def State.stationFor (s : State) (role : Role) : Option (Position × Station) :=
  s.findStation fun e => e.role == role

/-- The station address of the battery station, where there is one (chapter 4). -/
def State.batteryAddress (s : State) : Option Byte :=
  (s.stationFor .battery).map fun e => e.2.address

/-! ### Bays -/

/-- A bay record. -/
def State.bay (s : State) (b : BayNo) : Bay := s.bays[b]

/-- A bay record is replaced. -/
def State.setBay (s : State) (b : BayNo) (x : Bay) : State :=
  { s with bays := s.bays.set b x }

/-- The session part of a bay is changed. -/
def State.modSession (s : State) (b : BayNo) (f : Session → Session) : State :=
  s.setBay b { s.bay b with session := f (s.bay b).session }

/-- The allocation part of a bay is changed. -/
def State.modAlloc (s : State) (b : BayNo) (f : Alloc → Alloc) : State :=
  s.setBay b { s.bay b with alloc := f (s.bay b).alloc }

/-- Every bay record is changed. -/
def State.mapBays (s : State) (f : BayNo → Bay → Bay) : State :=
  { s with bays := Vector.ofFn fun b : BayNo => f b s.bays[b] }

/-- Whether a session is open (R3, table of session states). -/
def SessionState.isOpen : SessionState → Bool
  | .connected | .active | .silent | .closing => true
  | .vacant | .held | .disabled => false

/-- Stored phases as a number. -/
def Phases.toNat : Phases → Nat
  | .one => 1
  | .three => 3

/-- The power of a current of `dA` on `ph` phases at V volts, rounded up (R1). -/
def powerOf (dA volts : Nat) (ph : Phases) : Nat := (dA * volts * ph.toNat + 9) / 10

/-! ### The shape of one event -/

/-- Plan check codes (10.5). -/
def PlanCheck.code : PlanCheck → Byte
  | .duplicateAddress => 1
  | .secondRole => 2
  | .sharedIndex => 3
  | .bayNoCharger => 4
  | .batteryOrder => 5
  | .tariffOrder => 6
  | .stringNoStation => 7

/-- Plan status, failing check and check index, each 00h when OK (10.3). -/
def planBytes : Option PlanFault → List Byte
  | none => [0, 0, 0]
  | some f => [1, f.check.code, f.index]

/-- The STATUS frame's payload: the unmasked pending set, the plan status with its failing check and index, and the line byte
(10.3). -/
def State.statusPayload (s : State) : List Byte :=
  field16 s.unmasked ++ planBytes s.mr.plan ++ [s.lineByte]

/-- A STATUS frame is offered to the Up transmit queue, to the alert destination (R174). -/
def State.sendStatus (s : State) : State :=
  (s.offer .up ⟨s.ownFrame s.mr.site.alertDest kindStatus s.statusPayload, .status⟩).1

/-- One event of the part: the work, and at its end a STATUS frame if the unmasked pending set has gone from empty to non-empty
(R174). -/
def inEvent (work : State → State) (s : State) : State :=
  let t := work s
  if s.unmasked = 0 ∧ t.unmasked ≠ 0 then t.sendStatus else t

/-- A command taken while the part runs.  While the supply monitor holds the part in reset it takes nothing (R177). -/
def takeEvent (work : State → State) (s : State) : Host.Outcome State Fault Refusal :=
  .next (if s.powered then inEvent work s else s)

end Sys2Proof.Machine
end

