-- ==== Sys2Proof/Machine/Operands.lean ====
section
/-! DEFINITION. Operands: the payloads the part reads (10.2, R182, R183), the code values of enumerated fields (10.5), and the
taking of a field into its range (R167, R181). -/

namespace Sys2Proof.Machine

/-! ### Codes of 10.5 -/

/-- Charger state of a byte: none above 05h (R183). -/
def chargerStateOf (b : Byte) : Option ChargerState :=
  match b.toNat with
  | 0 => some .available
  | 1 => some .connected
  | 2 => some .requesting
  | 3 => some .ending
  | 4 => some .ended
  | 5 => some .fault
  | _ => none

/-- Charger state code. -/
def ChargerState.code : ChargerState → Byte
  | .available => 0
  | .connected => 1
  | .requesting => 2
  | .ending => 3
  | .ended => 4
  | .fault => 5

/-- Grant outcome code. -/
def GrantOutcome.code : GrantOutcome → Byte
  | .none => 0
  | .admitted => 1
  | .waitingBudget => 2
  | .waitingGuard => 3
  | .waitingShed => 4
  | .frozen => 5
  | .fallback => 6
  | .disabled => 7

/-- End reason code. -/
def EndReason.code : EndReason → Byte
  | .unplugged => 1
  | .chargerFault => 2
  | .forced => 3
  | .silent => 4
  | .bayDisabled => 5
  | .vehicleLeft => 6

/-- Session state code (R184). -/
def SessionState.code : SessionState → Byte
  | .vacant => 0
  | .connected => 1
  | .active => 2
  | .silent => 3
  | .closing => 4
  | .held => 5
  | .disabled => 6

/-- Station role code. -/
def Role.code : Role → Byte
  | .charger _ => 1
  | .gridMeter => 2
  | .shopMeter => 3
  | .pvString _ => 4
  | .battery => 5

/-- The index byte of a role; 0 where it is not used (10.6). -/
def Role.index : Role → Nat
  | .charger b => b.val
  | .pvString j => j.val
  | .gridMeter | .shopMeter | .battery => 0

/-- Whether a role is a measuring role: every role but CHARGER (R28). -/
def Role.measures : Role → Bool
  | .charger _ => false
  | .gridMeter | .shopMeter | .pvString _ | .battery => true

/-- Input sense of a byte. -/
def senseOf (b : Byte) : Option Sense :=
  match b.toNat with
  | 0 => some .levelHigh
  | 1 => some .levelLow
  | 2 => some .rising
  | 3 => some .falling
  | _ => none

/-- Input sense code. -/
def Sense.code : Sense → Byte
  | .levelHigh => 0
  | .levelLow => 1
  | .rising => 2
  | .falling => 3

/-- A yes-no field of a byte. -/
def yesNoOf (b : Byte) : Option Bool :=
  match b.toNat with
  | 0 => some false
  | 1 => some true
  | _ => none

/-- Battery control of a byte. -/
def controlOf (b : Byte) : Option Control :=
  match b.toNat with
  | 0 => some .auto
  | 1 => some .manual
  | _ => none

/-- Battery control code. -/
def Control.code : Control → Byte
  | .auto => 0
  | .manual => 1

/-- Battery mode code (R184). -/
def Mode.code : Mode → Byte
  | .reserve => 0
  | .shave => 1
  | .full => 2
  | .topUp => 3
  | .island => 4
  | .off => 5
  | .manual => 6

/-- Band memory code, FFh for none (R184). -/
def memoryCode : Option Memory → Byte
  | some .reserve => 0
  | some .shave => 1
  | some .full => 2
  | none => 0xFF

/-- Basis code (R184). -/
def Basis.code : Basis → Byte
  | .normal => 0
  | .frozen => 1
  | .fallback => 2
  | .settle => 3

/-- A band identity: bit 4 the profile, bits 0 to 2 the position (R179). -/
def BandRef.code (r : BandRef) : Byte :=
  (match r.profile with | .a => 0x00 | .b => 0x10) ||| BitVec.ofNat 8 r.position

/-- Answer statuses (10.5). -/
inductive Status where
  | ok | clamped | busy | badTable | badIndex | badLength | readOnly | refusedState | notManager | notOldest | unknownCommand
deriving DecidableEq, Repr

/-- Answer status code. -/
def Status.code : Status → Byte
  | .ok => 0
  | .clamped => 1
  | .busy => 2
  | .badTable => 3
  | .badIndex => 4
  | .badLength => 5
  | .readOnly => 6
  | .refusedState => 7
  | .notManager => 8
  | .notOldest => 9
  | .unknownCommand => 10

/-! ### Payloads the part takes -/

/-- The length of a role's SAMPLE payload (10.2). -/
def sampleLength : Role → Nat
  | .gridMeter => 8
  | .shopMeter => 4
  | .pvString _ => 8
  | .battery => 14
  | .charger _ => 0

/-- The values of a SAMPLE by the role of its source, with the limits of R29; none where the payload is short (R30) or the role
does not measure. -/
def readSample (role : Role) (p : List Byte) : Option Values :=
  if p.length < sampleLength role then none
  else
    match role with
    | .gridMeter => some (.grid (readI p 0 4) (BitVec.ofNat 32 (readU p 4 4)))
    | .shopMeter => some (.shop (readI p 0 4).toNat)
    | .pvString _ => some (.pv (readI p 0 4).toNat (readI p 4 4).toNat)
    | .battery =>
      some (.battery (readI p 0 4) (min 1000 (readU p 4 2)) (readI p 6 4).toNat (readI p 10 4).toNat)
    | .charger _ => none

/-- The length of a DEMAND payload (10.2). -/
def demandLength : Nat := 16

/-- The charger figures of a DEMAND taken at `now`, after the handling of R4; none where the payload is short (R182) or its
charger state is above 05h (R183). -/
def readDemand (p : List Byte) (now : Uptime) : Option Figures :=
  if p.length < demandLength then none
  else
    (chargerStateOf (readByte p 0)).map fun state =>
      let minimum := min 800 (readU p 3 2)
      let maximum := max minimum (min 800 (readU p 5 2))
      { state
        requested := min maximum (min 800 (readU p 1 2))
        minimum
        maximum
        phases := if readByte p 7 = 1 then .one else .three
        power := min 100000 (readI p 8 4).toNat
        register := BitVec.ofNat 32 (readU p 12 4)
        takenAt := now }

/-- The length of a LINK payload (10.2). -/
def linkLength : Nat := 11

/-! ### Fields taken into their ranges (R167, R181) -/

/-- A numeric field outside its range is taken as the nearer end; the flag says that it was changed. -/
def takeNat (lo hi n : Nat) : Nat × Bool :=
  (max lo (min hi n), decide (max lo (min hi n) ≠ n))

/-- An enumerated field with a code not listed is taken as the value held before; the flag says so. -/
def takeCode {α : Type} (read : Option α) (held : α) : α × Bool :=
  match read with
  | some a => (a, false)
  | none => (held, true)

/-- A station address that may not be FFh: it is taken as FEh (R169, R181). -/
def takeAddress (b : Byte) : Byte × Bool :=
  if b = broadcast then (0xFE, true) else (b, false)

end Sys2Proof.Machine
end

