-- ==== Sys2Proof/Machine/Figures.lean ====
section
/-! DEFINITION. What the other blocks read of the Site Input Unit and the Metering Unit: freshness and the degraded values
(R31, R34), and the tariff band in force (R112, R113). -/

namespace Sys2Proof.Machine

/-- A measurement record in the never-received state, from uptime `now` (R32). -/
def MeasRecord.never (now : Uptime) : MeasRecord := ⟨none, 255, now, false⟩

/-- A record is fresh while it is not never-received and its age is at most the hold time (R31). -/
def MeasRecord.fresh (r : MeasRecord) (hold : Nat) : Bool :=
  r.values.isSome && decide (r.age ≤ hold)

/-- The record that stands for a role: that of the entry of lowest position (R34). -/
def State.recordFor (s : State) (role : Role) : Option MeasRecord :=
  (s.stationFor role).bind fun e => s.siu.records[e.1]

/-- The values of a role while its record is fresh (R34). -/
def State.freshValues (s : State) (role : Role) : Option Values :=
  match s.recordFor role with
  | some r => if r.fresh s.mr.site.holdTime then r.values else none
  | none => none

/-- The grid power P_grid while it is fresh; none is the stale mark (R34). -/
def State.gridPower (s : State) : Option Int :=
  match s.freshValues .gridMeter with
  | some (.grid p _) => some p
  | _ => none

/-- Whether the shop record is fresh (R46). -/
def State.shopFresh (s : State) : Bool := (s.freshValues .shopMeter).isSome

/-- The shop load D (R34). -/
def State.shopLoad (s : State) : Nat :=
  match s.freshValues .shopMeter with
  | some (.shop p) => p
  | _ => s.mr.site.assumedShop

/-- The per-string power P_j (R34). -/
def State.stringPower (s : State) (j : StringNo) : Nat :=
  match s.freshValues (.pvString j) with
  | some (.pv p _) => p
  | _ => 0

/-- The solar sum S (R34). -/
def State.solarSum (s : State) : Nat := ((List.finRange 8).map s.stringPower).sum

/-- The battery figures while they are fresh (R34). -/
structure BatteryFigures where
  power : Int
  soc : Nat
  charge : Nat
  discharge : Nat
deriving DecidableEq, Repr

/-- The battery figures; none is the stale mark, or no BATTERY entry (R34). -/
def State.batteryFigures (s : State) : Option BatteryFigures :=
  match s.freshValues .battery with
  | some (.battery p soc c d) => some ⟨p, soc, c, d⟩
  | _ => none

/-! ### The band in force -/

/-- The bands of a profile in position order (R111). -/
def Profile.bands (p : Profile) : List Band := p.first :: p.rest

/-- A profile by its name. -/
def State.profile (s : State) : ProfileName → Profile
  | .a => s.mu.profileA
  | .b => s.mu.profileB

/-- The profile of a day: B on the weekdays set in the weekend mask, A on the others (R112). -/
def profileOfDay (weekend : BitVec 7) (day : BitVec 16) : ProfileName :=
  if weekend.getLsbD (day.toNat % 7) then .b else .a

/-- The position found for minute of day `m`: the highest whose start is at or below `m`, else the last one (R113). -/
def positionAt (bands : List Band) (m : Nat) : Nat :=
  match (bands.zipIdx.filter fun x => decide (x.1.start ≤ m)).getLast? with
  | some x => x.2
  | none => bands.length - 1

/-- The identity of the band in force (R113). -/
def State.bandRef (s : State) : BandRef :=
  match s.mu.clock with
  | none => ⟨.a, 0⟩
  | some t =>
    let p := profileOfDay s.mr.site.weekend t.day
    ⟨p, positionAt (s.profile p).bands (t.second / 60)⟩

/-- The band in force (R113, R114). -/
def State.bandInForce (s : State) : Band :=
  (s.profile s.bandRef.profile).bands.getD s.bandRef.position (s.profile s.bandRef.profile).first

end Sys2Proof.Machine
end

