-- ==== Sys2Proof/Machine/Battery.lean ====
section
/-! DEFINITION. Battery Dispatch (chapter 4): mode evaluation, offer, withdrawal, the BD pass, up-side battery limits and the
TOPUP command. -/

namespace Sys2Proof.Machine

/-- The new band memory from state of charge `soc` and the memory before, by the first row of R75 that holds. -/
def nextMemory (t : BatteryTable) (soc : Nat) (old : Option Memory) : Memory :=
  if soc < t.reserveEnter then .reserve
  else if t.fullStop ≤ soc then .full
  else if old = some .reserve ∧ soc < t.reserveExit then .reserve
  else if old = some .full ∧ t.fullResume < soc then .full
  else .shave

/-- A band memory as a mode (R76). -/
def Memory.mode : Memory → Mode
  | .reserve => .reserve
  | .shave => .shave
  | .full => .full

/-- The battery offer, discharge Bd and charge Bc (R80). -/
def offerOf (t : BatteryTable) (mode : Mode) (manual : Int) (figures : Option BatteryFigures) : Nat × Nat :=
  let discharge := match figures with | some f => min t.dischargeRating f.discharge | none => 0
  let charge := match figures with | some f => min t.chargeRating f.charge | none => 0
  match mode with
  | .reserve => (0, charge)
  | .shave => (discharge, charge)
  | .full => (discharge, 0)
  | .topUp => (0, charge)
  | .island => (0, 0)
  | .off => (0, 0)
  | .manual => (manual.toNat, 0)

/-- The top-up flag after an evaluation, and whether TOPUP_DONE is raised: cleared without it by the freeze under AUTO (R78)
and by stale figures (R77), cleared with it at the target (R82). -/
def topUpAfter (t : BatteryTable) (frozen : Bool) (figures : Option BatteryFigures) (flag : Bool) : Bool × Bool :=
  if frozen ∧ t.control = .auto then (false, false)
  else
    match figures with
    | none => (false, false)
    | some f => if flag ∧ t.topUpTarget ≤ f.soc then (false, true) else (flag, false)

/-- The mode of an evaluation by the first row of R76 that holds. -/
def modeOf (t : BatteryTable) (frozen : Bool) (memory : Option Memory) (flag : Bool) : Mode :=
  if t.control = .manual then .manual
  else if frozen then .island
  else
    match memory with
    | none => .off
    | some m => if flag then .topUp else m.mode

/-- The modes on whose entry BD withdraws the battery's LIMIT frames (R79). -/
def Mode.withdraws : Mode → Bool
  | .reserve | .topUp | .island | .off => true
  | .shave | .full | .manual => false

/-- Every waiting LIMIT to one of `addresses`, own or forwarded, leaves the Down queue; none is counted as a drop (R159). -/
def State.withdraw (s : State) (addresses : List Byte) : State :=
  s.setQueue .down
    (s.li.down.queue.filter fun q => !(q.frame.kind == kindLimit && addresses.contains q.frame.dest))

/-- One evaluation of the battery mode (R75 to R80, R82).  `also` are addresses, beside the battery station's present one, from
which an entry into a withdrawing mode withdraws (log entry 9). -/
def State.evaluateWith (s : State) (also : List Byte) : State :=
  let t := s.bd.table
  let figures := s.batteryFigures
  let memory := figures.map fun f => nextMemory t f.soc s.bd.memory
  let (flag, done) := topUpAfter t s.siu.freeze figures s.bd.topUp
  let mode := modeOf t s.siu.freeze memory flag
  let offer := offerOf t mode s.bd.manual figures
  let changed := mode != s.bd.mode
  let bd : BatteryState :=
    { s.bd with
      mode
      memory
      topUp := flag
      offerBd := offer.1
      offerBc := offer.2
      sent := if mode = .off ∨ mode = .island then none else s.bd.sent
      lastSoc := match figures with | some f => some f.soc | none => s.bd.lastSoc }
  let s := { s with bd }
  let s := (s.raiseIf done .topUpDone).raiseIf changed .batteryMode
  if changed && mode.withdraws then s.withdraw (s.batteryAddress.toList ++ also) else s

/-- An evaluation at any event but a STATION write (R76). -/
def State.evaluate (s : State) : State := s.evaluateWith []

/-! ### The BD pass -/

/-- The setpoint of a BD pass, discharge positive (R84). -/
def setpoint (mode : Mode) (bc : Nat) (b : Balance) (cheap : Bool) : Int :=
  match mode with
  | .shave => if 0 < b.batteryCall then b.batteryCall else -(min bc b.solarSurplus : Nat)
  | .full => b.batteryCall
  | .reserve => -(min bc (b.solarSurplus + if cheap then b.gridSurplus else 0) : Nat)
  | .topUp => -(min bc b.totalSurplus : Nat)
  | .island | .off | .manual => 0

/-- Whether a BD pass sends its setpoint (R85). -/
def setpointDue (bd : BatteryState) (now : Uptime) (p : Int) : Bool :=
  match bd.sent with
  | none => true
  | some last =>
    (p != last.power && decide (bd.table.step ≤ (p - last.power).natAbs)) ||
      decide (bd.table.refresh ≤ elapsed now last.sentAt)

/-- A LIMIT frame's payload (10.2). -/
def limitPayload (v : Int) : List Byte := fieldI 4 v

/-- BD queues its setpoint; the last setpoint sent follows the frame if it is taken (R86). -/
def State.sendSetpoint (s : State) (p : Int) : State :=
  match s.batteryAddress with
  | none => s
  | some a =>
    let (t, taken) := s.offer .down ⟨s.ownFrame a kindLimit (limitPayload p), .limit⟩
    if taken then { t with bd.sent := some ⟨p, s.now⟩ } else t

/-- A BD pass on the balance record just published (R83).  DESIGN CHOICE: the pass stops by its mode alone, so on a record published as
FROZEN whose freeze a RESUME has cleared before the publication it forms a setpoint from that record, by the mode of its own evaluation
(log entry 41). -/
def State.batteryPass (s : State) : State :=
  let s := s.evaluate
  match s.bd.mode with
  | .manual | .island | .off => s
  | mode =>
    let p := setpoint mode s.bd.offerBc s.ae.balance s.bandInForce.cheap
    if setpointDue s.bd s.now p then s.sendSetpoint p else s

/-! ### Commands and writes -/

/-- The TOPUP command: whether it is taken, and its effect (R81). -/
def State.topUp (s : State) : State × Status :=
  let modeAllows := s.bd.mode = .reserve ∨ s.bd.mode = .shave ∨ s.bd.mode = .full
  if s.bd.table.control = .auto ∧ modeAllows then
    (({ s with bd.topUp := true } : State).evaluate, .ok)
  else (s, .refusedState)

/-- A new battery table stands: a change of the control field acts as R87 gives, and BD evaluates in the same event (R73). -/
def State.takeBatteryTable (s : State) (t : BatteryTable) : State :=
  let old := s.bd.table.control
  let s : State := { s with bd.table := t }
  let s : State :=
    if old = t.control then s
    else
      let s : State := { s with bd.topUp := false, bd.manual := 0, bd.sent := none }
      if t.control = .auto then s.withdraw s.batteryAddress.toList else s
  s.evaluate

end Sys2Proof.Machine
end

