-- ==== Sys2Proof/Machine/Receipt.lean ====
section
/-! DEFINITION. The Receipt Queue (chapter 7): forming a receipt, its frames, building, the high condition and the removal of
the oldest receipt. -/

namespace Sys2Proof.Machine

/-- round-half-up(a / b): floor of the quotient plus one half (R1). -/
def roundHalfUp (a b : Nat) : Nat := (2 * a + b) / (2 * b)

/-- J to whole Wh (R132). -/
def whOf (j : Nat) : Nat := roundHalfUp j 3600

/-- A band entry on the receipt (R133). -/
def receiptBand (e : BandEntry) : ReceiptBand := ⟨e.band, whOf e.joules, roundHalfUp e.cost 36000000⟩

/-- The receipt's own field mask (R136, 10.3). -/
def receiptMask (site : SiteTable) (hasToken hasRegister : Bool) : BitVec 6 :=
  (if hasToken then 1 else 0) ||| (if site.maskChargerWh && hasRegister then 2 else 0) |||
    (if site.maskPeak then 4 else 0) ||| (if site.maskWait then 8 else 0) |||
    (if site.maskShed then 16 else 0) ||| (if site.maskBands then 32 else 0)

/-- Whether the charger's count and the part's count differ by more than the tolerance (R134). -/
def registersDiffer (tolerance energyWh : Nat) : Option (BitVec 32) → Bool
  | some w => decide (tolerance < ((w.toNat : Int) - energyWh).natAbs)
  | none => false

/-- A receipt formed from the session part and metering part of a finalised session (R130 to R136). -/
def formReceipt (site : SiteTable) (number : BitVec 32) (b : BayNo) (x : Bay) : Receipt :=
  let solarWh := whOf x.metering.solar
  let batteryWh := whOf x.metering.battery
  let gridWh := whOf x.metering.grid
  let energyWh := solarWh + batteryWh + gridWh
  let bands := x.metering.bands.map receiptBand
  let chargerWh := x.session.finalRegister.map fun final => final - x.session.startRegister.getD 0
  { number
    bay := b
    sessionId := x.session.id
    endReason := x.session.endReason.getD .unplugged
    startTime := x.session.startTime
    endTime := x.session.endTime
    duration := x.session.endUptime.getD 0 - x.session.startUptime.getD 0
    solarWh
    batteryWh
    gridWh
    energyWh
    freeWh := min (whOf x.metering.free) energyWh
    bands
    amount := (bands.map (·.amount)).sum
    token := x.session.link.map (·.token)
    chargerWh
    peak := x.metering.peak
    wait := x.metering.wait
    shed := x.metering.shed
    clockUnset := x.session.startTime.isNone || x.session.endTime.isNone
    estimated := x.session.finalRegister.isNone
    registerMismatch := registersDiffer site.registerTolerance energyWh chargerWh
    bandMerged := x.metering.merged
    restarted := x.session.restarted
    mask := receiptMask site x.session.link.isSome x.session.finalRegister.isSome }

/-! ### Frames and records -/

/-- A site time: day 2 bytes, second of day 3; absent as day 0000h, second FFFFFFh (R179). -/
def siteTimeBytes : Option SiteTime → List Byte
  | some t => field16 t.day ++ fieldU 3 t.second
  | none => bytesOf 2 0 ++ bytesOf 3 0xFFFFFF

/-- A shopper token's 8 bytes. -/
def tokenBytes (t : BitVec 64) : List Byte := bytesOf 8 t.toNat

/-- A field carried only where a condition holds. -/
def carried (c : Bool) (bs : List Byte) : List Byte := if c then bs else []

/-- The flags byte of a receipt (10.3).  DESIGN CHOICE: bits 5 to 7 are 0 (log entry 48). -/
def receiptFlags (r : Receipt) : Byte :=
  (if r.clockUnset then 1 else 0) ||| (if r.estimated then 2 else 0) ||| (if r.registerMismatch then 4 else 0) |||
    (if r.bandMerged then 8 else 0) ||| (if r.restarted then 16 else 0)

/-- Part 1 of a receipt (10.3).  DESIGN CHOICE: bits 6 and 7 of the field mask are 0 (log entry 48). -/
def receiptPart1 (r : Receipt) : List Byte :=
  field32 r.number ++ [1, BitVec.ofNat 8 r.bay.val] ++ field16 r.sessionId ++ [r.endReason.code, receiptFlags r] ++
    siteTimeBytes r.startTime ++ siteTimeBytes r.endTime ++ field32 r.duration ++
    fieldU 4 r.energyWh ++ fieldU 4 r.solarWh ++ fieldU 4 r.batteryWh ++ fieldU 4 r.gridWh ++ fieldU 4 r.freeWh ++
    fieldU 4 r.amount ++ [r.mask.setWidth 8] ++
    carried (r.mask.getLsbD 0) (tokenBytes (r.token.getD 0)) ++
    carried (r.mask.getLsbD 1) (field32 (r.chargerWh.getD 0)) ++
    carried (r.mask.getLsbD 2) (fieldU 2 r.peak) ++
    carried (r.mask.getLsbD 3) (fieldU 4 r.wait) ++
    carried (r.mask.getLsbD 4) (fieldU 4 r.shed)

/-- Part 2 of a receipt: its band list (10.3). -/
def receiptPart2 (r : Receipt) : List Byte :=
  field32 r.number ++ [2] ++ fieldU 1 r.bands.length ++
    (r.bands.map fun e => e.band.code :: (fieldU 4 e.wh ++ fieldU 4 e.amount)).flatten

/-- Whether a receipt carries its band list (R136). -/
def Receipt.hasBands (r : Receipt) : Bool := r.mask.getLsbD 5

/-- The records of a receipt, and the payloads of its frames: part 1, and part 2 where it carries its band list
(R137, R138). -/
def receiptParts (r : Receipt) : List (List Byte) :=
  receiptPart1 r :: if r.hasBands then [receiptPart2 r] else []

/-! ### Building and releasing -/

/-- The RECEIPT frames of a receipt, to the receipt destination (R137). -/
def State.receiptFrames (s : State) (r : Receipt) : List Queued :=
  (receiptParts r).map fun p => ⟨s.ownFrame s.mr.site.receiptDest kindReceipt p, .receipt⟩

/-- The receipt that the RQ would build now for a bay. -/
def State.receiptOf (s : State) (b : BayNo) : Receipt :=
  formReceipt s.mr.site s.rq.next b (s.bay b)

/-- The RQ builds the receipt of a bay's finished session: numbered, appended at the tail, its frames offered to the Up queue
(R129, R130, R137). -/
def State.buildReceipt (s : State) (b : BayNo) : State :=
  let r := s.receiptOf b
  ({ s with rq.receipts := s.rq.receipts ++ [r], rq.next := s.rq.next + 1 } : State).offerAll .up (s.receiptFrames r)

/-- The high condition is evaluated on the count of receipts; RECEIPT_HIGH is raised when it goes from clear to set (R141). -/
def State.evalHigh (s : State) : State :=
  let set := decide (s.mr.site.highWater ≤ s.rq.receipts.length)
  ({ s with rq.high := set } : State).raiseIf (set && !s.rq.high) .receiptHigh

end Sys2Proof.Machine
end

