-- ==== Sys2Proof/Machine/Session.lean ====
section
/-! DEFINITION. The Session Manager (chapter 1): opening, finalisation, the held list, DEMAND and LINK, timers, force-close and
the enabled field. -/

namespace Sys2Proof.Machine

/-- The first CHARGER entry of a bay (R18, R67). -/
def State.chargerOf (s : State) (b : BayNo) : Option (Position × Station) := s.stationFor (.charger b)

/-- A GRANT frame's payload; the guard remaining and the publication number are read as they stand (10.2). -/
def State.grantPayload (s : State) (b : BayNo) (grant : Nat) (outcome : GrantOutcome) : List Byte :=
  BitVec.ofNat 8 b.val :: (fieldI 2 grant ++ [outcome.code] ++ field16 (s.bay b).session.id ++
    fieldU 2 (s.bay b).alloc.guard.left ++ field16 s.ae.balance.number)

/-- The GRANT of 0 with outcome NONE that a blocked plug queues to the bay's charger (R18). -/
def State.blockedGrant (s : State) (b : BayNo) : State :=
  match s.chargerOf b with
  | some (_, e) => (s.offer .down ⟨s.ownFrame e.address kindGrant (s.grantPayload b 0 .none), .grant b⟩).1
  | none => s

/-- Whether charger figures report a vehicle plugged in (R18, R5). -/
def Figures.plugged (f : Figures) : Bool := f.state == .connected || f.state == .requesting

/-- The state in which a session with these figures is open: ACTIVE for REQUESTING with a requested current above 0, else
CONNECTED (R6). -/
def Figures.openState (f : Figures) : SessionState :=
  if f.state = .requesting ∧ 0 < f.requested then .active else .connected

/-- A timer starts at the present uptime (R10). -/
def State.newTimer (s : State) : SessionTimer := ⟨s.now, false⟩

/-- A link as a session holds it when it enters (R22). -/
def enterLink (token : BitVec 64) (allowance : Nat) : SessionLink := ⟨token, allowance, allowance * 3600⟩

/-- A session opens at a bay from charger figures: the session part, the pending link and the metering part (R6, R22, R25,
R116). -/
def State.openSession (s : State) (b : BayNo) (f : Figures) : State :=
  let x := s.bay b
  let link := (s.links.find? fun e => e.bay == b).map fun e => enterLink e.token e.allowance
  let session : Session :=
    { state := f.openState
      id := x.session.id + 1
      startTime := s.siteTime
      startUptime := some s.now
      startRegister := some f.register
      finalRegister := none
      endTime := none
      endUptime := none
      endReason := none
      timer := some s.newTimer
      link
      restarted := false
      blocked := false
      figures := x.session.figures }
  let metering : Metering := ⟨0, 0, 0, 0, 0, [⟨s.bandRef, 0, 0⟩], false, 0, 0, 0⟩
  { s.setBay b { x with session, metering } with links := s.links.filter fun e => e.bay != b }

/-- The state of a bay without a session: VACANT if it is enabled, DISABLED if not (R14, R19). -/
def Bay.restState (x : Bay) : SessionState := if x.config.enabled then .vacant else .disabled

/-- Finalisation of the open session of a bay with an end reason and, after ENDED, a final register (R14, R17, R18, R129). -/
def State.finalise (s : State) (b : BayNo) (reason : EndReason) (final : Option Register) : State :=
  let s := s.modSession b fun x =>
    { x with
      finalRegister := final
      endTime := s.siteTime
      endUptime := some s.now
      endReason := some reason
      timer := none }
  if s.rq.receipts.length < receiptSlots then
    let s := (s.buildReceipt b).evalHigh
    s.modSession b fun x => { x with state := (s.bay b).restState }
  else
    let was := (s.bay b).session.blocked
    let blocked := (s.bay b).session.figures.any Figures.plugged
    let s := s.modSession b fun x => { x with state := .held, blocked }
    let s := ({ s with held := s.held ++ [b] } : State).raise .receiptHeld
    if blocked && !was then s.blockedGrant b else s

/-- The bay enters CLOSING with an end reason, its timer starting now (R7, R15, R16). -/
def State.close (s : State) (b : BayNo) (reason : EndReason) : State :=
  s.modSession b fun x => { x with state := .closing, endReason := some reason, timer := some s.newTimer }

/-- A DEMAND at a CONNECTED, ACTIVE or SILENT bay (R7, R8). -/
def State.demandRunning (s : State) (b : BayNo) (f : Figures) : State :=
  match f.state with
  | .connected | .requesting =>
    s.modSession b fun x => { x with state := f.openState, timer := some s.newTimer }
  | .ending => s.close b .unplugged
  | .ended => s.finalise b .unplugged (some f.register)
  | .available => s.finalise b .vehicleLeft none
  | .fault => s.finalise b .chargerFault none

/-- A DEMAND at a CLOSING bay (R9). -/
def State.demandClosing (s : State) (b : BayNo) (f : Figures) : State :=
  let held := (s.bay b).session.endReason.getD .unplugged
  match f.state with
  | .connected | .requesting | .ending => s
  | .ended => s.finalise b held (some f.register)
  | .available => s.finalise b held none
  | .fault => s.finalise b .chargerFault none

/-- A DEMAND at a HELD bay sets or clears the blocked-plug flag; when it goes from clear to set, a GRANT of 0 is queued (R18). -/
def State.demandHeld (s : State) (b : BayNo) (f : Figures) : State :=
  let was := (s.bay b).session.blocked
  let s := s.modSession b fun x => { x with blocked := f.plugged }
  if f.plugged && !was then s.blockedGrant b else s

/-- A DEMAND taken by the SM: the figures are replaced whatever the state, then the rule of the state applies (R4, R5, R7, R8,
R9, R18). -/
def State.demand (s : State) (b : BayNo) (f : Figures) : State :=
  let s := s.modSession b fun x => { x with figures := some f }
  match (s.bay b).session.state with
  | .vacant => if f.plugged then s.openSession b f else s
  | .disabled => s
  | .connected | .active | .silent => s.demandRunning b f
  | .closing => s.demandClosing b f
  | .held => s.demandHeld b f

/-! ### Session timers -/

/-- Whether the running timer of a bay has expired: its duration, read now, had been reached at the last second of uptime and is
reached still (R10). -/
def State.timerExpired (s : State) (b : BayNo) (duration : Nat) : Bool :=
  match (s.bay b).session.timer with
  | some t => t.due && decide (duration ≤ elapsed s.now t.start)
  | none => false

/-- The duration of the timer that runs in a session state (1.3). -/
def SiteTable.durationIn (site : SiteTable) : SessionState → Option Nat
  | .connected | .active => some site.silenceTimeout
  | .silent => some site.silentClose
  | .closing => some site.closeHold
  | .vacant | .held | .disabled => none

/-- At a second of uptime, the mark of a timer whose duration has been reached (R10). -/
def SessionTimer.tick (t : SessionTimer) (now : Uptime) (duration : Option Nat) : SessionTimer :=
  { t with due := duration.any fun d => decide (d ≤ elapsed now t.start) }

/-- The silence timer expires: SILENT, and BAY_SILENT is raised (R11). -/
def State.goSilent (s : State) (b : BayNo) : State :=
  (s.modSession b fun x => { x with state := .silent, timer := some s.newTimer }).raise .baySilent

/-! ### Held list -/

/-- The slot of a released receipt goes to the head of the held list: its receipt is built, and a new session opens or the bay
is freed (R19, R140 steps 2 to 4). -/
def State.handOver (s : State) (b : BayNo) (rest : List BayNo) : State :=
  let s := ({ s with held := rest } : State).buildReceipt b
  let x := s.bay b
  match x.session.figures with
  | some f =>
    if x.config.enabled && x.session.blocked then s.openSession b f
    else s.modSession b fun y => { y with state := x.restState, blocked := false }
  | none => s.modSession b fun y => { y with state := x.restState, blocked := false }

/-- The oldest receipt is released and its slot is handed on; the high condition is evaluated at the end (R139, R140). -/
def State.releaseOldest (s : State) : State :=
  let s : State := { s with rq.receipts := s.rq.receipts.tail }
  match s.held with
  | [] => s.evalHigh
  | b :: rest => (s.handOver b rest).evalHigh

/-- The RELEASE_RECEIPT command (R139). -/
def State.release (s : State) (number : BitVec 32) : State × Status :=
  match s.rq.receipts with
  | [] => (s, .badIndex)
  | oldest :: others =>
    if oldest.number = number then (s.releaseOldest, .ok)
    else if others.any (fun r => r.number == number) then (s, .notOldest)
    else (s, .badIndex)

/-! ### Links -/

/-- Link outcomes (R21). -/
inductive LinkOutcome where
  | applied | alreadyLinked | late | pending | tableFull | badBay
deriving DecidableEq, Repr

/-- Link outcome code (10.5). -/
def LinkOutcome.code : LinkOutcome → Byte
  | .applied => 0
  | .alreadyLinked => 1
  | .late => 2
  | .pending => 3
  | .tableFull => 4
  | .badBay => 5

/-- The number of entries the pending link table holds (R23). -/
def linkSlots : Nat := 16

/-- A LINK for a VACANT or DISABLED bay is stored, or the table is full (R21, R23). -/
def State.storeLink (s : State) (b : BayNo) (token : BitVec 64) (allowance : Nat) : State × LinkOutcome :=
  let others := s.links.filter fun e => e.bay != b
  if s.links.any (fun e => e.bay == b) || decide (s.links.length < linkSlots) then
    ({ s with links := others ++ [⟨b, token, allowance, s.now, false⟩] }, .pending)
  else (s, .tableFull)

/-- A LINK taken by the SM: its effect and outcome (R21, R22). -/
def State.takeLink (s : State) (bay : Nat) (token : BitVec 64) (allowance : Nat) : State × LinkOutcome :=
  if h : bay < 32 then
    let b : BayNo := ⟨bay, h⟩
    match (s.bay b).session.state with
    | .connected | .active | .silent =>
      if (s.bay b).session.link.isSome then (s, .alreadyLinked)
      else (s.modSession b fun x => { x with link := some (enterLink token allowance) }, .applied)
    | .closing | .held => (s, .late)
    | .vacant | .disabled => s.storeLink b token allowance
  else (s, .badBay)

/-- A pending entry is removed at its expiry, and LINK_EXPIRED is raised (R24). -/
def State.expireLink (s : State) (b : BayNo) : State :=
  ({ s with links := s.links.filter fun e => e.bay != b } : State).raise .linkExpired

/-! ### Commands and writes -/

/-- The FORCE_CLOSE command (R15). -/
def State.forceClose (s : State) (bay : Nat) : State × Status :=
  if h : bay < 32 then
    let b : BayNo := ⟨bay, h⟩
    match (s.bay b).session.state with
    | .connected | .active | .silent => (s.close b .forced, .ok)
    | .vacant | .closing | .held | .disabled => (s, .refusedState)
  else (s, .badIndex)

/-- The effect of a changed enabled field on the session state (R16). -/
def State.changeEnabled (s : State) (b : BayNo) (enabled : Bool) : State :=
  match (s.bay b).session.state, enabled with
  | .vacant, false => s.modSession b fun x => { x with state := .disabled }
  | .connected, false | .active, false | .silent, false => s.close b .bayDisabled
  | .disabled, true => s.modSession b fun x => { x with state := .vacant }
  | .vacant, true | .connected, true | .active, true | .silent, true | .disabled, false | .closing, _ | .held, _ => s

/-- A bay's configuration part is replaced, and a change of the enabled field acts on the session (R2, R16). -/
def State.takeBayConfig (s : State) (b : BayNo) (c : BayConfig) : State :=
  let was := (s.bay b).config.enabled
  let s := s.setBay b { s.bay b with config := c }
  if was = c.enabled then s else s.changeEnabled b c.enabled

end Sys2Proof.Machine
end

