-- ==== Sys2Proof/Machine/Alloc.lean ====
section
/-! DEFINITION. The Allocation Engine (chapter 3): snapshot, target, trim, budget, candidates, rotation lists, admission, fill,
fallback, publication and the GRANT frames. -/

namespace Sys2Proof.Machine

/-- The greatest `x` from 0 to `n` that satisfies `p`; 0 where none above 0 does. -/
def greatest (p : Nat → Bool) : Nat → Nat
  | 0 => 0
  | n + 1 => if p (n + 1) then n + 1 else greatest p n

/-! ### Target, trim and budget -/

/-- The import target L (R48). -/
def importTarget (site : SiteTable) (peak shed gridFresh : Bool) : Nat :=
  let l := if peak then site.peakTarget else site.importLimit
  let l := if shed then min l site.shedTarget else l
  if gridFresh then l else min l site.fallbackTarget

/-- Whether the grid power exceeds the target, so that the trim grows and IMPORT_OVER is raised (R49). -/
def importOver (target : Nat) : Option Int → Bool
  | some p => decide ((target : Int) < p)
  | none => false

/-- The import trim Tr after its update (R49). -/
def nextTrim (site : SiteTable) (target trim : Nat) (grid : Option Int) : Nat :=
  let grown :=
    match grid with
    | some p => if (target : Int) < p then min target (trim + (p - target).toNat) else trim - site.trimDecay
    | none => trim - site.trimDecay
  min grown target

/-! ### Candidates -/

/-- A candidate's currents and powers (R51). -/
structure Candidate where
  bay : BayNo
  cls : ClassNo
  imin : Nat
  imax : Nat
  phases : Phases
deriving DecidableEq, Repr

/-- The minimum power m_i (R51). -/
def Candidate.minPower (c : Candidate) (volts : Nat) : Nat := powerOf c.imin volts c.phases

/-- The maximum power (R51). -/
def Candidate.maxPower (c : Candidate) (volts : Nat) : Nat := powerOf c.imax volts c.phases

/-- The gap (R57). -/
def Candidate.gap (c : Candidate) : Nat := c.imax - c.imin

/-- A grant raised by `x` dA above the minimum, at most to the maximum (R57). -/
def Candidate.raised (c : Candidate) (x : Nat) : Nat := c.imin + min c.gap x

/-- Imax from the charger figures and the bay cap (R51). -/
def maxCurrent (f : Figures) (cap : Nat) : Nat :=
  let bound := min f.requested f.maximum
  max f.minimum (if cap = 0 then bound else min bound cap)

/-- Where a bay stands at the snapshot (R51, R60). -/
inductive Standing where
  /-- Not ACTIVE, or not enabled. -/
  | out
  /-- ACTIVE and enabled, its restart guard running. -/
  | guarded
  /-- ACTIVE, enabled and not under guard, its class above the shed floor while SHED is active. -/
  | shed
  | candidate (c : Candidate)
deriving DecidableEq, Repr

/-- The standing of a bay (R51, R60). -/
def State.standing (s : State) (b : BayNo) : Standing :=
  let x := s.bay b
  if x.session.state ≠ .active ∨ x.config.enabled = false then .out
  else if 0 < x.alloc.guard.left then .guarded
  else if s.siu.shed.active ∧ s.mr.site.shedFloor < x.config.cls.val then .shed
  else
    match x.session.figures with
    | some f => .candidate ⟨b, x.config.cls, f.minimum, maxCurrent f x.config.cap, f.phases⟩
    | none => .out

/-- The candidate of a standing. -/
def Standing.candidate? : Standing → Option Candidate
  | .candidate c => some c
  | .out | .guarded | .shed => none

/-! ### Rotation lists -/

/-- Whether a bay belongs in the list of a class: ACTIVE, and of that class (R52). -/
def State.belongs (s : State) (k : ClassNo) (b : BayNo) : Bool :=
  (s.bay b).session.state == .active && (s.bay b).config.cls == k

/-- Removal and append at a snapshot (R52). -/
def State.maintained (s : State) (k : ClassNo) : List BayNo :=
  let kept := s.ae.lists[k].filter (s.belongs k)
  kept ++ (List.finRange 32).filter fun b => s.belongs k b && !kept.contains b

/-- A list turned by its rotate mark: the bays ADMITTED at the last publication go to the tail (R53).  DESIGN CHOICE: the outcome alone
decides, so a bay ADMITTED at the last publication that a BAY write moved to another class, and that this snapshot appended to its new
list, goes to the tail too, though R53 counts the appended bays among those that come to the head (log entry 46). -/
def State.turned (s : State) (l : List BayNo) : List BayNo :=
  let admitted (b : BayNo) : Bool := (s.bay b).alloc.outcome == .admitted
  l.filter (fun b => !admitted b) ++ l.filter admitted

/-- Removal and append on all eight lists (R52). -/
def State.maintainLists (s : State) : State :=
  { s with ae.lists := Vector.ofFn s.maintained }

/-- The set rotate marks are applied and cleared (R53). -/
def State.applyMarks (s : State) : State :=
  { s with
    ae.lists := Vector.ofFn fun k : ClassNo => if s.ae.dwells[k].mark then s.turned s.ae.lists[k] else s.ae.lists[k]
    ae.dwells := s.ae.dwells.map fun d => { d with mark := false } }

/-! ### Admission and fill -/

/-- The walk of admission against the remainder R: first fit (R56). -/
def admitWalk (volts : Nat) : List Candidate → Nat → List Candidate × Nat
  | [], r => ([], r)
  | c :: cs, r =>
    if c.minPower volts ≤ r then
      let (admitted, left) := admitWalk volts cs (r - c.minPower volts)
      (c :: admitted, left)
    else admitWalk volts cs r

/-- The power of a class's admitted bays at step `x`, each rounded up on its own (R57). -/
def stepPower (volts : Nat) (cs : List Candidate) (x : Nat) : Nat :=
  (cs.map fun c => powerOf (c.raised x) volts c.phases).sum

/-- The cost of a step: the increase in power over the minimums (R57). -/
def stepCost (volts : Nat) (cs : List Candidate) (x : Nat) : Nat :=
  stepPower volts cs x - (cs.map fun c => c.minPower volts).sum

/-- The largest gap of a class's admitted bays (R57). -/
def maxGap (cs : List Candidate) : Nat := (cs.map Candidate.gap).foldl max 0

/-- The step of a class: the greatest from 0 to the maximum gap whose cost is within the remainder (R57). -/
def classStep (volts : Nat) (cs : List Candidate) (r : Nat) : Nat :=
  greatest (fun x => decide (stepCost volts cs x ≤ r)) (maxGap cs)

/-- The fill: class by class, until a class does not reach its maximum gap.  The answer pairs each admitted bay with its grant
(R57, R58). -/
def fill (volts : Nat) : List (List Candidate) → Nat → List (Candidate × Nat)
  | [], _ => []
  | cs :: rest, r =>
    let x := classStep volts cs r
    let granted := cs.map fun c => (c, c.raised x)
    if x = maxGap cs then granted ++ fill volts rest (r - stepCost volts cs x)
    else granted ++ rest.flatten.map fun c => (c, c.imin)

/-- The admitted bays of each class, class 0 first. -/
def byClass (admitted : List Candidate) : List (List Candidate) :=
  (List.finRange 8).map fun k => admitted.filter fun c => c.cls == k

/-- Admission and fill of a NORMAL pass: the admitted bays with their grants (R56 to R58). -/
def allocate (volts budget : Nat) (walk : List Candidate) : List (Candidate × Nat) :=
  let (admitted, r) := admitWalk volts walk budget
  fill volts (byClass admitted) r

/-- The candidates that admission of a NORMAL pass considers, classes 0 to 7, each list from head to tail (R56). -/
def State.walkOrder (s : State) : List Candidate :=
  s.ae.lists.toList.flatten.filterMap fun b => (s.standing b).candidate?

/-- The candidates in ascending bay number (R61). -/
def State.bayOrder (s : State) : List Candidate :=
  (List.finRange 32).filterMap fun b => (s.standing b).candidate?

/-- Fallback admission: minimums within the fallback budget, no fill (R61). -/
def fallbackGrants (volts budget : Nat) (walk : List Candidate) : List (Candidate × Nat) :=
  (admitWalk volts walk budget).1.map fun c => (c, c.imin)

/-! ### The pass -/

/-- The settle ends at this snapshot: both meters are fresh, or the timeout has run (R69). -/
def State.settleEnds (s : State) : Bool :=
  (s.gridPower.isSome && s.shopFresh) || decide (s.mr.site.settleTimeout ≤ elapsed s.now s.ae.settleStart)

/-- The basis by the first row of R47 that holds. -/
def State.passBasis (s : State) : Basis :=
  if s.ae.settling then .settle
  else if s.siu.freeze then .frozen
  else if s.mr.plan.isSome then .fallback
  else .normal

/-- The outcome a pass gives a bay that is ACTIVE and enabled (R56, R61, R64). -/
def lineOutcome (basis : Basis) (standing : Standing) (admitted : Bool) : GrantOutcome :=
  match standing with
  | .out => .none
  | .guarded => .waitingGuard
  | .shed => .waitingShed
  | .candidate _ =>
    match basis with
    | .fallback => .fallback
    | _ => if admitted then .admitted else .waitingBudget

/-- What the pass in flight holds of a bay, given the grants it formed. -/
def State.passLine (s : State) (basis : Basis) (granted : List (Candidate × Nat)) (b : BayNo) : PassLine :=
  let x := s.bay b
  let standing := s.standing b
  let mine := granted.find? fun g => g.1.bay == b
  { active := x.session.state == .active
    candidate := (basis == .normal || basis == .fallback) && standing.candidate?.isSome
    cls := x.config.cls
    outcome := lineOutcome basis standing mine.isSome
    grant := match mine with | some g => g.2 | none => 0
    phases := match x.session.figures with | some f => f.phases | none => .one
    maxPower := match standing.candidate? with | some c => c.maxPower s.mr.site.volts | none => 0
    charger := (s.chargerOf b).map (·.1) }

/-- The figures of target, trim and budget of a pass in flight of basis NORMAL or FROZEN (R48 to R50). -/
def State.budgetedPass (s : State) (basis : Basis) (trim : Nat) (found : Vector (List BayNo × Bool) 8)
    (lines : Nat → Vector PassLine 32) : AllocPass :=
  let site := s.mr.site
  let peak := s.bandInForce.peak
  let target := importTarget site peak s.siu.shed.active s.gridPower.isSome
  let avail : Int := (target : Int) - site.margin - trim - s.shopLoad + s.solarSum
  let budget := (avail + s.bd.offerBd).toNat
  { basis, gridFresh := s.gridPower.isSome, shed := s.siu.shed.active, peak, target, trim
    shop := s.shopLoad, solar := s.solarSum, avail, offer := s.bd.offerBd, budget
    volts := site.volts, restartGuard := site.restartGuard, grantRefresh := site.grantRefresh, found
    lines := lines budget }

/-- A pass in flight that forms no target and no trim, with the budget given: SETTLE with 0, FALLBACK with F (R50, R61). -/
def State.unbudgetedPass (s : State) (basis : Basis) (budget : Nat) (found : Vector (List BayNo × Bool) 8)
    (lines : Vector PassLine 32) : AllocPass :=
  { basis, gridFresh := s.gridPower.isSome, shed := s.siu.shed.active, peak := s.bandInForce.peak, target := 0
    trim := s.ae.trim, shop := 0, solar := 0, avail := 0, offer := 0, budget
    volts := s.mr.site.volts, restartGuard := s.mr.site.restartGuard, grantRefresh := s.mr.site.grantRefresh
    found, lines }

/-- The trim's update in a pass of basis NORMAL or FROZEN, with IMPORT_OVER where it grows (R49). -/
def State.updateTrim (s : State) : State :=
  let target := importTarget s.mr.site s.bandInForce.peak s.siu.shed.active s.gridPower.isSome
  ({ s with ae.trim := nextTrim s.mr.site target s.ae.trim s.gridPower } : State).raiseIf
    (importOver target s.gridPower) .importOver

/-- The lines of a pass in flight, from the grants it formed. -/
def State.passLines (s : State) (basis : Basis) (granted : List (Candidate × Nat)) : Vector PassLine 32 :=
  Vector.ofFn (s.passLine basis granted)

/-- The rotation lists and rotate marks as they stand. -/
def State.rotations (s : State) : Vector (List BayNo × Bool) 8 :=
  Vector.ofFn fun k : ClassNo => (s.ae.lists[k], s.ae.dwells[k].mark)

/-- The stages of a pass by its basis, on lists already maintained (R47). -/
def State.runPass (s : State) (found : Vector (List BayNo × Bool) 8) : State :=
  match s.passBasis with
  | .settle => { s with ae.pass := some (s.unbudgetedPass .settle 0 found (s.passLines .settle [])) }
  | .frozen =>
    let s := s.updateTrim
    { s with ae.pass := some (s.budgetedPass .frozen s.ae.trim found fun _ => s.passLines .frozen []) }
  | .fallback =>
    let budget := s.mr.site.fallbackBudget
    let granted := fallbackGrants s.mr.site.volts budget s.bayOrder
    { s with ae.pass := some (s.unbudgetedPass .fallback budget found (s.passLines .fallback granted)) }
  | .normal =>
    let s := s.applyMarks.updateTrim
    let lines (budget : Nat) := s.passLines .normal (allocate s.mr.site.volts budget s.walkOrder)
    { s with ae.pass := some (s.budgetedPass .normal s.ae.trim found lines) }

/-- An allocation pass begins: its snapshot is taken and everything before publication is worked out from it (R45 to R61, R69). -/
def State.startPass (s : State) : State :=
  let s : State := { s with ae.timer := Countdown.load 0, ae.settling := s.ae.settling && !s.settleEnds }
  s.maintainLists.runPass s.rotations

/-! ### Publication -/

/-- The basis as published (R63). -/
def State.publishedBasis (s : State) (p : AllocPass) : Basis :=
  match p.basis with
  | .settle => .settle
  | b => if s.siu.freeze then .frozen else b

/-- The grant and outcome of a bay at publication, by the first row of R64 that holds. -/
def State.row (s : State) (p : AllocPass) (b : BayNo) : Nat × GrantOutcome :=
  let line := p.lines[b]
  let state := (s.bay b).session.state
  if p.basis = .settle then (0, .none)
  else if state = .disabled then (0, .disabled)
  else if s.publishedBasis p = .frozen then (0, .frozen)
  else if line.active = false ∨ state ≠ .active then (0, .none)
  else (line.grant, line.outcome)

/-- The granted total T over the published grants, at the voltage and phases of the snapshot (R65). -/
def State.grantedTotal (s : State) (p : AllocPass) : Nat :=
  ((List.finRange 32).map fun b => powerOf (s.row p b).1 p.volts p.lines[b].phases).sum

/-- The unmet demand: the maximum powers of the candidates still ACTIVE, less T; 0 in a pass published as FROZEN (R65). -/
def State.unmetDemand (s : State) (p : AllocPass) : Nat :=
  if s.publishedBasis p = .frozen then 0
  else
    ((List.finRange 32).map fun b =>
      if p.lines[b].candidate && (s.bay b).session.state == .active then p.lines[b].maxPower else 0).sum
      - s.grantedTotal p

/-- The balance record of a publication (R65, R61, R69). -/
def State.newBalance (s : State) (p : AllocPass) : Balance :=
  let number := s.ae.balance.number + 1
  if p.basis = .settle then { Balance.zero with number }
  else
    let granted := s.grantedTotal p
    let total := (p.avail - granted).toNat
    let solar := min total ((p.solar : Int) - p.shop - granted).toNat
    { basis := s.publishedBasis p, gridFresh := p.gridFresh, shed := p.shed, peak := p.peak
      target := p.target, trim := p.trim, shop := p.shop, solar := p.solar, avail := p.avail, offer := p.offer
      budget := p.budget, granted, slack := p.budget - granted
      batteryCall := min p.offer ((granted : Int) - p.avail).toNat
      totalSurplus := total, solarSurplus := solar, gridSurplus := total - solar
      unmet := s.unmetDemand p, number }

/-- The allocation part of a bay after a publication gave it a grant and outcome, its guard loaded where the grant fell to 0
(R59, R66). -/
def Alloc.publish (a : Alloc) (guard : Nat) (row : Nat × GrantOutcome) : Alloc :=
  { a with
    grant := row.1
    outcome := row.2
    guard := if row.1 = 0 ∧ 0 < a.grant then Countdown.load guard else a.guard }

/-- A class's dwell value from the site table; 0 is loaded as 65,536 s (R54). -/
def SiteTable.dwellOf (site : SiteTable) (k : ClassNo) : Nat :=
  if site.dwell[k] = 0 then 65536 else site.dwell[k]

/-- Whether a bay of the class has outcome WAITING_BUDGET in the grant table just published (R54). -/
def State.classWaits (s : State) (p : AllocPass) (k : ClassNo) : Bool :=
  (List.finRange 32).any fun b => p.lines[b].cls == k && (s.bay b).alloc.outcome == .waitingBudget

/-- The dwell timer of a class is decided at a publication (R54). -/
def State.decideDwell (s : State) (p : AllocPass) (k : ClassNo) : Dwell :=
  let d := s.ae.dwells[k]
  if s.classWaits p k then { d with running := true }
  else { d with running := false, timer := Countdown.load (s.mr.site.dwellOf k) }

/-- The address a GRANT goes to: the present address of the bay's CHARGER entry of the snapshot, or of its present entry where
that one serves it no more (R67, R185; log entry 12). -/
def State.grantAddress (s : State) (b : BayNo) (p : Position) : Option Byte :=
  match s.fs.stations[p] with
  | some e => if e.role = .charger b then some e.address else (s.chargerOf b).map fun e => e.2.address
  | none => (s.chargerOf b).map fun e => e.2.address

/-- Whether a GRANT is due for a bay (R67). -/
def grantDue (a : Alloc) (now : Uptime) (refresh : Nat) : Bool :=
  match a.sent with
  | none => true
  | some last => last.grant != a.grant || last.outcome != a.outcome || decide (refresh ≤ elapsed now last.sentAt)

/-- The AE queues a bay's GRANT where it is due; the last sent grant follows it if it is taken (R67, R68). -/
def State.sendGrant (p : AllocPass) (s : State) (b : BayNo) : State :=
  let a := (s.bay b).alloc
  match p.lines[b].charger.bind (s.grantAddress b) with
  | some address =>
    if grantDue a s.now p.grantRefresh then
      let frame := s.ownFrame address kindGrant (s.grantPayload b a.grant a.outcome)
      let (t, taken) := s.offer .down ⟨frame, .grant b⟩
      if taken then t.modAlloc b fun a => { a with sent := some ⟨a.grant, a.outcome, s.now⟩ } else t
    else s
  | none => s

/-- Steps 1 and 2 of a publication: the grant table, the balance record and the guards (R66). -/
def State.publishTable (s : State) (p : AllocPass) : State :=
  { s.mapBays fun b x => { x with alloc := x.alloc.publish p.restartGuard (s.row p b) } with
    ae.balance := s.newBalance p
    ae.pass := none }

/-- Step 3: the dwell timers (R66, R54). -/
def State.publishDwells (s : State) (p : AllocPass) : State :=
  { s with ae.dwells := Vector.ofFn (s.decideDwell p) }

/-- Step 4: the GRANT frames, in ascending bay number (R66, R67). -/
def State.publishGrants (s : State) (p : AllocPass) : State :=
  (List.finRange 32).foldl (State.sendGrant p) s

/-- A publication, its six steps in order (R66). -/
def State.publish (s : State) (p : AllocPass) : State :=
  let s := (((s.publishTable p).publishDwells p).publishGrants p).batteryPass
  { s with ae.timer := Countdown.load s.mr.site.allocPeriod }

/-! ### Other events -/

/-- A dwell timer reaches 0: the rotate mark is set and the timer is loaded again (R55). -/
def State.expireDwell (s : State) (k : ClassNo) : State :=
  { s with
    ae.dwells := s.ae.dwells.set k
      { s.ae.dwells[k] with mark := true, timer := Countdown.load (s.mr.site.dwellOf k) } }

/-- A guard reaches 0 (R59). -/
def State.expireGuard (s : State) (b : BayNo) : State :=
  s.modAlloc b fun a => { a with guard := Countdown.load 0 }

/-- The rotation list of a class as a restart rebuilds it: its ACTIVE bays in ascending bay number (R71). -/
def State.rebuilt (s : State) (k : ClassNo) : List BayNo := (List.finRange 32).filter (s.belongs k)

end Sys2Proof.Machine
end

