-- ==== Sys2Proof/Machine/Canopy.lean ====
section
/-! DEFINITION. Canopy Control (chapter 5): the curtailment amount K, the common cap, publication, string LIMITs and the canopy
table. -/

namespace Sys2Proof.Machine

/-- The sum of the ratings of the strings enabled by `on` (R98). -/
def ratingSum (t : CanopyTable) (on : StringNo → Bool) : Nat :=
  ((List.finRange 8).map fun j => if on j then t.strings[j].rating else 0).sum

/-- The string enables of the canopy table. -/
def CanopyTable.on (t : CanopyTable) (j : StringNo) : Bool := t.strings[j].enabled

/-- Step 1: curtailment given back against the unmet demand (R96). -/
def releaseForCars (k unmet : Nat) : Nat := k - unmet

/-- Step 2: the correction against the measured export, by the first row of R97 that holds. -/
def correctExport (t : CanopyTable) (k1 : Nat) (grid : Option Int) : Nat :=
  match grid with
  | none => k1
  | some p =>
    let exported := (-p).toNat
    if t.limit < exported then k1 + (exported - t.limit)
    else if 0 < p then k1 - ((t.limit - t.deadband) + p.toNat)
    else if (exported : Int) < (t.limit : Int) - t.deadband then k1 - (t.limit - t.deadband - exported)
    else k1

/-- Step 3: the bound on K (R98). -/
def boundAmount (t : CanopyTable) (k2 : Nat) : Nat :=
  if t.enabled then min k2 (ratingSum t t.on) else 0

/-- The sum over the enabled strings that the common cap c gives (R99). -/
def capSum (t : CanopyTable) (power : StringNo → Nat) (c : Nat) : Nat :=
  ((List.finRange 8).map fun j => if t.on j then max t.strings[j].floor (min (power j) c) else 0).sum

/-- S_en: the sum of P_j over the enabled strings (R95). -/
def enabledPower (t : CanopyTable) (power : StringNo → Nat) : Nat :=
  ((List.finRange 8).map fun j => if t.on j then power j else 0).sum

/-- The greatest power of a string, beyond which a cap changes no sum (R99). -/
def topPower (power : StringNo → Nat) : Nat := ((List.finRange 8).map power).foldl max 0

/-- The common cap: the greatest multiple of 10 W whose sum does not exceed the target; 0 where even c = 0 gives more (R99). -/
def commonCap (t : CanopyTable) (power : StringNo → Nat) (target : Int) : Nat :=
  10 * greatest (fun n => decide ((capSum t power (10 * n) : Int) ≤ target)) (topPower power / 10)

/-- Whether the floors of the enabled strings together exceed the target (R99). -/
def floorsExceed (t : CanopyTable) (power : StringNo → Nat) (target : Int) : Bool :=
  decide (target < (capSum t power 0 : Int))

/-- The amount K that steps 1 to 3 form (R96 to R98). -/
def State.passAmount (s : State) : Nat :=
  boundAmount s.cc.table
    (correctExport s.cc.table (releaseForCars s.cc.amount s.ae.balance.unmet) s.gridPower)

/-- A canopy pass begins: its snapshot is taken and steps 1 to 4 are worked out from it (R94 to R99). -/
def State.startCanopyPass (s : State) : State :=
  let t := s.cc.table
  let amount := s.passAmount
  let enabled : Vector Bool 8 := Vector.ofFn t.on
  let s : State := { s with cc.timer := Countdown.load 0 }
  if amount = 0 then
    { s with cc.pass := some ⟨0, Vector.replicate 8 none, enabled, none⟩ }
  else
    let target : Int := (enabledPower t s.stringPower : Int) - amount
    let c := commonCap t s.stringPower target
    let caps : Vector (Option Nat) 8 :=
      Vector.ofFn fun j : StringNo => if t.on j then some (max t.strings[j].floor c) else none
    ({ s with cc.pass := some ⟨amount, caps, enabled, some (target, c)⟩ } : State).raiseIf
      (floorsExceed t s.stringPower target) .curtailFloor

/-! ### Release marks -/

/-- Whether the last cap sent to a string is present and differs from its rating (R92, R100). -/
def StringState.offRating (x : StringState) (rating : Nat) : Bool :=
  match x.sent with
  | some last => last.cap != rating
  | none => false

/-- Whether a string's last cap sent is absent or differs from its rating (R102). -/
def StringState.unreleased (x : StringState) (rating : Nat) : Bool :=
  match x.sent with
  | some last => last.cap != rating
  | none => true

/-- The PV_STRING entry of a string index, at the lowest position (R101). -/
def State.stringEntry (s : State) (j : StringNo) : Option (Position × Station) := s.stationFor (.pvString j)

/-- The strings marked for release when K goes from above 0 to 0, and when a string that was enabled in `was` is disabled now
(R92, R100, R102).  DESIGN CHOICE: the rating compared is that of the canopy table as it stands, not the snapshot's (log entry 42). -/
def State.markReleases (s : State) (kEnded : Bool) (was : StringNo → Bool) : State :=
  let t := s.cc.table
  { s with
    cc.strings := Vector.ofFn fun j : StringNo =>
      let x := s.cc.strings[j]
      let ended := kEnded && (s.stringEntry j).isSome && x.unreleased t.strings[j].rating
      let disabled := was j && !t.on j && x.offRating t.strings[j].rating
      { x with release := x.release || ended || disabled } }

/-! ### Publication -/

/-- CC queues a LIMIT to a string; last cap sent and release mark follow the frame if it is taken (R101, R102). -/
def State.sendCap (s : State) (j : StringNo) (address : Byte) (cap : Nat) : State :=
  let (t, taken) := s.offer .down ⟨s.ownFrame address kindLimit (limitPayload cap), .limit⟩
  if taken then
    { t with
      cc.strings := t.cc.strings.set j { t.cc.strings[j] with sent := some ⟨cap, s.now⟩, release := false } }
  else t

/-- The LIMIT of a string at a publication: its cap where R101 asks for it, else its rating where it is marked (R101, R102).  DESIGN
CHOICE: the PV_STRING entry and its address are those of the station table as it stands at the publication (log entry 38), and a marked
string whose cap LIMIT is offered and dropped is not offered its release besides (log entry 39); and a release carries the rating of the
canopy table as it stands at the publication (log entry 42). -/
def State.sendString (s : State) (j : StringNo) : State :=
  let x := s.cc.strings[j]
  let cfg := s.cc.table.strings[j]
  match s.stringEntry j with
  | none => s
  | some (_, e) =>
    let owed := if 0 < s.cc.amount ∧ cfg.enabled then x.cap else none
    match owed with
    | some cap =>
      if x.sent.map (·.cap) ≠ some cap then s.sendCap j e.address cap
      else if x.release then s.sendCap j e.address cfg.rating
      else s
    | none => if x.release then s.sendCap j e.address cfg.rating else s

/-- Step 1 of a canopy publication: K and the caps in force against the table as it stands now (R100). -/
def State.publishCaps (s : State) (p : CanopyPass) : State :=
  let t := s.cc.table
  let amount := if t.enabled then min p.amount (ratingSum t t.on) else 0
  let (target, common) := p.formed.getD (s.cc.target, s.cc.common)
  { s with
    cc.amount := amount
    cc.target := target
    cc.common := common
    cc.pass := none
    cc.strings := Vector.ofFn fun j : StringNo =>
      { s.cc.strings[j] with cap := if amount = 0 ∨ t.on j = false then none else p.caps[j] } }

/-- A canopy publication, its five steps in order (R100). -/
def State.publishCanopy (s : State) (p : CanopyPass) : State :=
  let before := s.cc.amount
  let s := s.publishCaps p
  let s := s.raiseIf (before == 0 && s.cc.amount != 0) .curtailActive
  let s := s.markReleases (before != 0 && s.cc.amount == 0) fun j => p.enabled[j]
  let s := (List.finRange 8).foldl State.sendString s
  { s with cc.timer := Countdown.load s.cc.table.period }

/-! ### The canopy table -/

/-- A new canopy table stands: K is bounded, strings are marked for release, and caps in force are removed (R92). -/
def State.takeCanopyTable (s : State) (t : CanopyTable) : State :=
  let old := s.cc.table
  let before := s.cc.amount
  let amount := if t.enabled then min before (ratingSum t t.on) else 0
  let s : State := { s with cc.table := t, cc.amount := amount }
  let s := s.markReleases (before != 0 && amount == 0) old.on
  { s with
    cc.strings := Vector.ofFn fun j : StringNo =>
      let x := s.cc.strings[j]
      { x with cap := if amount = 0 ∨ t.on j = false then none else x.cap } }

/-- A STATION write touches a string index: its last cap sent becomes absent and its release mark is cleared (R103). -/
def State.forgetCap (s : State) (j : StringNo) : State :=
  { s with cc.strings := s.cc.strings.set j { s.cc.strings[j] with sent := none, release := false } }

end Sys2Proof.Machine
end

