-- ==== Sys2Proof/Machine/Meter.lean ====
section
/-! DEFINITION. The Metering Unit (chapter 6): the second of uptime, the site clock, the site split, the shares, the allowance, the
band entries and the waiting figures. -/

namespace Sys2Proof.Machine

/-! ### The site clock -/

/-- The site clock one second on (R108). -/
def SiteTime.next (t : SiteTime) : SiteTime :=
  if t.second < 86399 then ⟨t.day, t.second + 1⟩ else ⟨t.day + 1, 0⟩

/-- The SET_CLOCK command: the clock is set, the second clamped (R109). -/
def State.setSiteClock (s : State) (day : BitVec 16) (second : Nat) : State × Status :=
  let t := takeNat 0 86399 second
  ({ s with mu.clock := some ⟨day, t.1⟩ }, if t.2 then .clamped else .ok)

/-! ### The site split and the shares -/

/-- The tick energy e_i of a bay in J (R117). -/
def Bay.tickEnergy (x : Bay) : Nat :=
  match x.session.state with
  | .connected | .active | .closing => match x.session.figures with | some f => f.power | none => 0
  | .silent | .vacant | .held | .disabled => 0

/-- The site split of a tick (R118). -/
def siteSplit (ch pv bd shop : Nat) : SiteSplit :=
  let pvLeft := pv - shop
  let shopShort := shop - pv
  let batLeft := bd - shopShort
  let solarCh := min ch pvLeft
  let batteryCh := min (ch - solarCh) batLeft
  { ch, pv, bd, shop, pvLeft, shopShort, batLeft, solarCh, batteryCh, gridCh := ch - solarCh - batteryCh }

/-- The battery's discharge of a tick, E_bd (R118). -/
def State.batteryDischarge (s : State) : Nat :=
  match s.batteryFigures with
  | some f => f.power.toNat
  | none => 0

/-- The site split that a tick forms now (R118). -/
def State.tickSplit (s : State) : SiteSplit :=
  siteSplit (((List.finRange 32).map fun b => (s.bay b).tickEnergy).sum) s.solarSum s.batteryDischarge s.shopLoad

/-- The floor share of a weight `w` in `total`, of the weights' sum `sum`; 0 where the sum is 0 (R119). -/
def floorShare (total sum w : Nat) : Nat := total * w / sum

/-- The remainder of that share (R119). -/
def shareRest (total sum w : Nat) : Nat := total * w % sum

/-- How many bays come before `b` when the difference is handed out: larger remainders first, ties to the lower bay number
(R119). -/
def bayRank (rest : Vector Nat 32) (b : BayNo) : Nat :=
  ((List.finRange 32).filter fun c =>
    decide (rest[b] < rest[c]) || (rest[c] == rest[b] && decide (c < b))).length

/-- The shares of `total` in proportion to `weights`, in whole J, the difference given by largest remainder (R119, R120). -/
def shares (total : Nat) (weights : Vector Nat 32) : Vector Nat 32 :=
  let sum := weights.toList.sum
  if sum = 0 then Vector.replicate 32 0
  else
    let floors : Vector Nat 32 := weights.map (floorShare total sum)
    let rest : Vector Nat 32 := weights.map (shareRest total sum)
    let difference := total - floors.toList.sum
    Vector.ofFn fun b : BayNo => floors[b] + if bayRank rest b < difference then 1 else 0

/-! ### The accounts of one bay -/

/-- The energies that a tick gives one bay (R117, R119, R120). -/
structure TickShare where
  energy : Nat
  solar : Nat
  battery : Nat
  grid : Nat
deriving DecidableEq, Repr

/-- The free grid energy f_g and free green energy f_n of a tick (R121). -/
def freeOf (link : Option SessionLink) (t : TickShare) : Nat × Nat :=
  match link with
  | some l =>
    let fg := min t.grid l.remaining
    (fg, min (t.solar + t.battery) (l.remaining - fg))
  | none => (0, 0)

/-- The cost of a tick (R123). -/
def tickCost (band : Band) (t : TickShare) (free : Nat × Nat) : Nat :=
  (t.grid - free.1) * band.gridPrice + (t.solar + t.battery - free.2) * band.greenPrice

/-- The number of band entries a session holds (R122). -/
def bandSlots : Nat := 8

/-- The last entry of a list is changed. -/
def addToLast (joules cost : Nat) : List BandEntry → List BandEntry
  | [] => []
  | [e] => [{ e with joules := e.joules + joules, cost := e.cost + cost }]
  | e :: rest => e :: addToLast joules cost rest

/-- A tick's energy and cost go to the entry of its band, a new one at the tail, or the eighth with the merged flag (R122). -/
def accumulate (entries : List BandEntry) (merged : Bool) (band : BandRef) (joules cost : Nat) : List BandEntry × Bool :=
  if entries.any fun e => e.band == band then
    (entries.map fun e =>
      if e.band = band then { e with joules := e.joules + joules, cost := e.cost + cost } else e, merged)
  else if entries.length < bandSlots then (entries ++ [⟨band, joules, cost⟩], merged)
  else (addToLast joules cost entries, true)

/-- Whether an outcome counts as waiting (R124). -/
def GrantOutcome.waits : GrantOutcome → Bool
  | .waitingBudget | .waitingGuard | .waitingShed => true
  | .none | .admitted | .frozen | .fallback | .disabled => false

/-- A seconds count that saturates at 4,294,967,295 (R115). -/
def countSecond (c : Bool) (n : Nat) : Nat := if c then min 4294967295 (n + 1) else n

/-- The metering part of a metered bay after a tick (R120 to R124). -/
def Bay.meterWith (x : Bay) (ref : BandRef) (band : Band) (t : TickShare) : Bay :=
  let m := x.metering
  let free := freeOf x.session.link t
  let account := accumulate m.bands m.merged ref t.energy (tickCost band t free)
  { x with
    session := { x.session with link := x.session.link.map fun l => { l with remaining := l.remaining - (free.1 + free.2) } }
    metering :=
      { energy := m.energy + t.energy
        solar := m.solar + t.solar
        battery := m.battery + t.battery
        grid := m.grid + t.grid
        free := m.free + (free.1 + free.2)
        bands := account.1
        merged := account.2
        peak := max m.peak x.alloc.grant
        wait := countSecond x.alloc.outcome.waits m.wait
        shed := countSecond (x.alloc.outcome == .waitingShed) m.shed } }

/-- The metering tick (R117 to R124). -/
def State.tick (s : State) : State :=
  let split := s.tickSplit
  let energies : Vector Nat 32 := Vector.ofFn fun b : BayNo => (s.bay b).tickEnergy
  let solar := shares split.solarCh energies
  let rest : Vector Nat 32 := Vector.ofFn fun b : BayNo => energies[b] - solar[b]
  let battery := shares split.batteryCh rest
  let ref := s.bandRef
  let band := s.bandInForce
  let s := s.mapBays fun b x =>
    if x.session.state.isOpen then x.meterWith ref band ⟨energies[b], solar[b], battery[b], rest[b] - battery[b]⟩ else x
  { s with mu.lastBand := ref, mu.lastSplit := split }

/-! ### The second of uptime -/

/-- The timers that count in seconds of uptime count one: the restart guards (R59), the running dwell timers (R54), the pass timers
(R45, R94), and the marks of session timers and pending links whose duration has been reached (R10, R24). -/
def State.countTimers (s : State) : State :=
  let now := s.now
  let site := s.mr.site
  let s := s.mapBays fun _ x =>
    { x with
      alloc := { x.alloc with guard := x.alloc.guard.tick }
      session := { x.session with timer := x.session.timer.map fun t => t.tick now (site.durationIn x.session.state) } }
  { s with
    ae.dwells := s.ae.dwells.map fun d => if d.running then { d with timer := d.timer.tick } else d
    ae.timer := s.ae.timer.tick
    cc.timer := s.cc.timer.tick
    links := s.links.map fun e => { e with due := decide (site.linkLifetime ≤ elapsed now e.stored) } }

/-- The MU's step of a second of uptime: uptime advances, the second is counted in every timer, the site clock advances if it is
set, and the metering tick is taken (R107, R108).  DESIGN CHOICE: a timer that runs out at this second is only marked here, and its
expiry is a step after this one, so the tick meters the bay in the state before the expiry, where R117 lets either be taken first (log
entry 47). -/
def State.second (s : State) : State :=
  let s := ({ s with mu.uptime := s.mu.uptime + 1 } : State).countTimers
  let s : State := { s with mu.clock := s.mu.clock.map SiteTime.next }
  s.tick

end Sys2Proof.Machine
end

