-- ==== Sys2Proof/Machine/Siu.lean ====
section
/-! DEFINITION. The Site Input Unit (chapter 2): taps, ages, stale turns, the SHED and ISLAND inputs, the grant freeze and the
commands SHED_CLEAR and RESUME. -/

namespace Sys2Proof.Machine

/-! ### Measurement records -/

/-- A position's measurement record is replaced. -/
def State.setRecord (s : State) (pos : Position) (r : Option MeasRecord) : State :=
  { s with siu.records := s.siu.records.set pos r }

/-- A SAMPLE is tapped: its values replace the record's, which is then fresh, and a battery sample is handed to BD; a short
payload is not taken (R30). -/
def State.tapSample (s : State) (pos : Position) (role : Role) (payload : List Byte) : State :=
  match readSample role payload, s.siu.records[pos] with
  | some v, some r =>
    let s := s.setRecord pos (some { r with values := some v, age := 0, reported := false })
    if role = .battery then s.evaluate else s
  | _, _ => s

/-- One second of age, saturating at 255 (R31). -/
def MeasRecord.older (r : MeasRecord) : MeasRecord := { r with age := min 255 (r.age + 1) }

/-- Every record ages by one second (R31). -/
def State.ageRecords (s : State) : State :=
  { s with siu.records := s.siu.records.map fun r => r.map MeasRecord.older }

/-- Whether the stale event of a record is due and not yet raised: its age is past the hold time, or its never-received wait
is (R32). -/
def MeasRecord.staleDue (r : MeasRecord) (now : Uptime) (hold : Nat) : Bool :=
  !r.reported && match r.values with
    | some _ => decide (hold < r.age)
    | none => decide (hold < elapsed now r.waitStart)

/-- The stale event of a role (R32). -/
def Role.staleEvent : Role → Option Event
  | .gridMeter | .shopMeter => some .meterStale
  | .pvString _ => some .stringStale
  | .battery => some .batteryStale
  | .charger _ => none

/-- A record turns stale, or its never-received wait runs out: the role's event is raised once, and a battery record is handed to
BD (R32). -/
def State.turnStale (s : State) (pos : Position) : State :=
  match s.siu.records[pos], s.fs.stations[pos] with
  | some r, some e =>
    if r.staleDue s.now s.mr.site.holdTime then
      let s := s.setRecord pos (some { r with reported := true })
      let s := match e.role.staleEvent with | some ev => s.raise ev | none => s
      if e.role = .battery then s.evaluate else s
    else s
  | _, _ => s

/-- A record that a lengthened hold time makes fresh again may raise its event at its next turn (R32, R33). -/
def MeasRecord.refreshed (r : MeasRecord) (hold : Nat) : MeasRecord :=
  if r.fresh hold then { r with reported := false } else r

/-- A changed hold time acts on every record at the write (R33). -/
def State.holdChanged (s : State) : State :=
  let s : State :=
    { s with siu.records := s.siu.records.map fun r => r.map fun r => r.refreshed s.mr.site.holdTime }
  (List.finRange 64).foldl State.turnStale s

/-! ### Control inputs -/

/-- Whether a sense is a level sense (2.2). -/
def Sense.isLevel : Sense → Bool
  | .levelHigh | .levelLow => true
  | .rising | .falling => false

/-- Whether a taken level is the active one of a level sense (R35). -/
def Sense.levelActive : Sense → Bool → Bool
  | .levelHigh, high => high
  | .levelLow, high => !high
  | .rising, _ | .falling, _ => false

/-- Whether a change of taken level is the edge of an edge sense (R36). -/
def Sense.edge : Sense → Bool → Bool → Bool
  | .rising, was, now => !was && now
  | .falling, was, now => was && !now
  | .levelHigh, _, _ | .levelLow, _, _ => false

/-- An input formed anew from its taken level: its latch clear, active only under a level sense (R37, R43, R44). -/
def Input.formed (sense : Sense) (high : Bool) : Input := ⟨high, sense.levelActive high, false⟩

/-- An input after a pin level is taken (R35, R36). -/
def Input.take (i : Input) (sense : Sense) (high : Bool) : Input :=
  if sense.isLevel then Input.formed sense high
  else
    let latch := i.latch || sense.edge i.high high
    ⟨high, latch, latch⟩

/-- An input with its latch cleared: an edge-sense input becomes inactive (R36, R39, R41). -/
def Input.cleared (i : Input) (sense : Sense) : Input :=
  { i with latch := false, active := if sense.isLevel then i.active else false }

/-- SHED takes a new state; SHED_CHANGE is raised when it changes between inactive and active (R38). -/
def State.setShed (s : State) (i : Input) : State :=
  ({ s with siu.shed := i } : State).raiseIf (i.active != s.siu.shed.active) .shedChange

/-- The grant freeze changes, and BD is told: it evaluates its mode at each change (R42, R76). -/
def State.setFreeze (s : State) (frozen : Bool) : State :=
  if s.siu.freeze = frozen then s else ({ s with siu.freeze := frozen } : State).evaluate

/-- ISLAND takes a new state; when it becomes active, ISLAND_ON is raised and the freeze is set (R40). -/
def State.setIsland (s : State) (i : Input) : State :=
  let becomes := i.active && !s.siu.island.active
  let s : State := { s with siu.island := i }
  if becomes then (s.raise .islandOn).setFreeze true else s

/-- A SITE write that changes a sense: each changed input is formed again under the new one (R37). -/
def State.sensesChanged (s : State) (oldShed oldIsland : Sense) : State :=
  let site := s.mr.site
  let s := if oldShed = site.shedSense then s else s.setShed (Input.formed site.shedSense s.siu.shed.high)
  if oldIsland = site.islandSense then s else s.setIsland (Input.formed site.islandSense s.siu.island.high)

/-- The SHED_CLEAR command (R39). -/
def State.shedClear (s : State) : State × Status :=
  if s.mr.site.shedSense.isLevel then (s, .refusedState)
  else (s.setShed (s.siu.shed.cleared s.mr.site.shedSense), .ok)

/-- The RESUME command (R41). -/
def State.resume (s : State) : State × Status :=
  let sense := s.mr.site.islandSense
  if sense.levelActive s.siu.island.high then (s, .refusedState)
  else (({ s with siu.island := s.siu.island.cleared sense } : State).setFreeze false, .ok)

end Sys2Proof.Machine
end

