-- ==== Sys2Proof/Machine/Records.lean ====
section
/-! DEFINITION. The records of every table as a READ returns them (R166, R184, 10.6). -/

namespace Sys2Proof.Machine

/-- Table codes (10.5). -/
inductive TableName where
  | site | station | bay | tariffA | tariffB | battery | canopy | eventMask | measure | balance | grant | session | rotation
  | pendingLinks | held | receipt | status | identity
deriving DecidableEq, Repr

/-- The table of a code (10.5). -/
def tableOf (b : Byte) : Option TableName :=
  match b.toNat with
  | 1 => some .site
  | 2 => some .station
  | 3 => some .bay
  | 4 => some .tariffA
  | 5 => some .tariffB
  | 6 => some .battery
  | 7 => some .canopy
  | 8 => some .eventMask
  | 9 => some .measure
  | 10 => some .balance
  | 11 => some .grant
  | 12 => some .session
  | 13 => some .rotation
  | 14 => some .pendingLinks
  | 15 => some .held
  | 16 => some .receipt
  | 17 => some .status
  | 18 => some .identity
  | _ => none

/-- A byte of a small number. -/
def byteOf (n : Nat) : Byte := BitVec.ofNat 8 n

/-! ### Writable tables (10.6) -/

/-- The receipt field mask byte, bits 1 to 5 (10.6).  DESIGN CHOICE: its other bits read back as 0 (log entry 44). -/
def fieldMaskByte (t : SiteTable) : Byte :=
  (if t.maskChargerWh then 2 else 0) ||| (if t.maskPeak then 4 else 0) ||| (if t.maskWait then 8 else 0) |||
    (if t.maskShed then 16 else 0) ||| (if t.maskBands then 32 else 0)

/-- The SITE record (10.6).  DESIGN CHOICE: bit 7 of the weekend mask reads back as 0 (log entry 44). -/
def siteRecord (t : SiteTable) : List Byte :=
  [t.ownAddress] ++ t.managers.toList ++ [t.alertDest, t.receiptDest, fieldMaskByte t] ++
    fieldU 2 t.registerTolerance ++ fieldU 1 t.highWater ++ fieldU 1 t.silenceTimeout ++ fieldU 2 t.closeHold ++
    fieldU 2 t.silentClose ++ fieldU 2 t.linkLifetime ++ fieldU 1 t.holdTime ++ fieldU 4 t.assumedShop ++
    [t.shedSense.code, t.islandSense.code] ++ fieldU 1 t.allocPeriod ++ fieldU 2 t.volts ++ fieldU 4 t.importLimit ++
    fieldU 4 t.peakTarget ++ fieldU 4 t.shedTarget ++ fieldU 4 t.fallbackTarget ++ fieldU 4 t.margin ++
    fieldU 4 t.trimDecay ++ fieldU 1 t.shedFloor ++ fieldU 4 t.fallbackBudget ++ fieldU 2 t.restartGuard ++
    (t.dwell.toList.map (fieldU 2)).flatten ++ fieldU 1 t.grantRefresh ++ fieldU 1 t.settleTimeout ++
    [t.weekend.setWidth 8]

/-- The STATION record of a position (10.6). -/
def stationRecord : Option Station → List Byte
  | some e => [e.address, e.role.code, byteOf e.role.index, byteOf e.divider]
  | none => [0xFF, 0, 0, 1]

/-- The BAY record (10.6). -/
def bayRecord (c : BayConfig) : List Byte := [fieldB c.enabled, byteOf c.cls.val] ++ fieldU 2 c.cap

/-- The flags byte of a band: bit 0 PEAK, bit 1 CHEAP (10.6).  DESIGN CHOICE: its other bits read back as 0 (log entry 44). -/
def bandFlags (b : Band) : Byte := (if b.peak then 1 else 0) ||| (if b.cheap then 2 else 0)

/-- A TARIFF record (10.6). -/
def tariffRecord (p : Profile) : List Byte :=
  fieldU 1 p.bands.length ++
    (p.bands.map fun b => fieldU 2 b.start ++ fieldU 2 b.gridPrice ++ fieldU 2 b.greenPrice ++ [bandFlags b]).flatten

/-- The BATTERY record (10.6). -/
def batteryRecord (t : BatteryTable) : List Byte :=
  fieldU 4 t.chargeRating ++ fieldU 4 t.dischargeRating ++ fieldU 2 t.reserveEnter ++ fieldU 2 t.reserveExit ++
    fieldU 2 t.fullStop ++ fieldU 2 t.fullResume ++ fieldU 2 t.topUpTarget ++ [t.control.code] ++
    fieldU 2 t.step ++ fieldU 1 t.refresh

/-- The CANOPY record as it is read: the 82 written bytes, then the station address of each string (10.6). -/
def State.canopyRecord (s : State) : List Byte :=
  let t := s.cc.table
  [fieldB t.enabled] ++ fieldU 4 t.limit ++ fieldU 4 t.deadband ++ fieldU 1 t.period ++
    (t.strings.toList.map fun c => fieldB c.enabled :: (fieldU 4 c.rating ++ fieldU 4 c.floor)).flatten ++
    (List.finRange 8).map fun j => match s.stringEntry j with | some (_, e) => e.address | none => 0xFF

/-! ### Read-only tables (R184) -/

/-- The stored values of a record in the layout of its role's SAMPLE, 14 bytes (R184). -/
def valueBytes : Option Values → List Byte
  | some (.grid p r) => fieldI 4 p ++ field32 r ++ bytesOf 6 0
  | some (.shop p) => fieldI 4 p ++ bytesOf 10 0
  | some (.pv p r) => fieldI 4 p ++ fieldI 4 r ++ bytesOf 6 0
  | some (.battery p soc c d) => fieldI 4 p ++ fieldU 2 soc ++ fieldI 4 c ++ fieldI 4 d
  | none => bytesOf 14 0

/-- MEASURE, positions 0 to 63 (R184, R28). -/
def State.measureRecord (s : State) (pos : Position) : List Byte :=
  match s.fs.stations[pos], s.siu.records[pos] with
  | some e, some r =>
    if e.role.measures then
      [e.role.code, e.address, byteOf e.role.index, fieldB r.values.isNone, byteOf r.age] ++ field32 r.waitStart ++
        valueBytes r.values
    else [0, 0xFF] ++ bytesOf 21 0
  | _, _ => [0, 0xFF] ++ bytesOf 21 0

/-- MEASURE, record 64: the line state (R184, R35).  DESIGN CHOICE: bit 7 is 0 (log entry 48). -/
def State.lineState (s : State) : Byte :=
  (if s.siu.shed.high then 1 else 0) ||| (if s.siu.shed.active then 2 else 0) ||| (if s.siu.shed.latch then 4 else 0) |||
    (if s.siu.island.high then 8 else 0) ||| (if s.siu.island.active then 16 else 0) |||
    (if s.siu.island.latch then 32 else 0) ||| (if s.siu.freeze then 64 else 0)

/-- BALANCE (R184).  DESIGN CHOICE: bits 3 to 7 of the flags are 0 (log entry 48). -/
def balanceRecord (b : Balance) : List Byte :=
  [b.basis.code, (if b.gridFresh then 1 else 0) ||| (if b.shed then 2 else 0) ||| (if b.peak then 4 else 0)] ++
    fieldU 4 b.target ++ fieldU 4 b.trim ++ fieldU 4 b.shop ++ fieldU 4 b.solar ++ fieldI 4 b.avail ++ fieldU 4 b.offer ++
    fieldU 4 b.budget ++ fieldU 4 b.granted ++ fieldU 4 b.slack ++ fieldU 4 b.batteryCall ++ fieldU 4 b.totalSurplus ++
    fieldU 4 b.solarSurplus ++ fieldU 4 b.gridSurplus ++ fieldU 4 b.unmet ++ field16 b.number

/-- GRANT (R184, R72). -/
def grantRecord (a : Alloc) : List Byte :=
  fieldU 2 a.grant ++ [a.outcome.code] ++
    (match a.sent with
      | some x => [1] ++ fieldU 2 x.grant ++ [x.outcome.code] ++ field32 x.sentAt
      | none => bytesOf 8 0) ++
    fieldU 2 a.guard.left

/-- An optional 32-bit field, 0 while absent (R184). -/
def opt32 (v : Option (BitVec 32)) : List Byte := field32 (v.getD 0)

/-- Charger figures in the layout of the DEMAND payload, 0 while absent (R184). -/
def figureBytes : Option Figures → List Byte
  | some f =>
    [f.state.code] ++ fieldU 2 f.requested ++ fieldU 2 f.minimum ++ fieldU 2 f.maximum ++ [byteOf f.phases.toNat] ++
      fieldI 4 f.power ++ field32 f.register
  | none => bytesOf 16 0

/-- SESSION, record 4 × b: the session part (R184).  DESIGN CHOICE: bits 6 and 7 of the present fields and bits 2 to 7 of the flags
are 0 (log entry 48). -/
def sessionRecord (x : Session) : List Byte :=
  [x.state.code] ++ field16 x.id ++
    [(if x.startUptime.isSome then 1 else 0) ||| (if x.finalRegister.isSome then 2 else 0) |||
        (if x.endUptime.isSome then 4 else 0) ||| (if x.timer.isSome then 8 else 0) |||
        (if x.link.isSome then 16 else 0) ||| (if x.figures.isSome then 32 else 0),
      (if x.restarted then 1 else 0) ||| (if x.blocked then 2 else 0)] ++
    siteTimeBytes x.startTime ++ siteTimeBytes x.endTime ++ opt32 x.startUptime ++ opt32 x.startRegister ++
    opt32 x.finalRegister ++ opt32 x.endUptime ++ [match x.endReason with | some r => r.code | none => 0] ++
    opt32 (x.timer.map (·.start)) ++
    (match x.link with
      | some l => tokenBytes l.token ++ fieldU 2 l.allowance ++ fieldU 4 l.remaining
      | none => bytesOf 14 0) ++
    figureBytes x.figures ++ opt32 (x.figures.map (·.takenAt))

/-- SESSION, record 4 × b + 1: the figures of the metering part (R184). -/
def meteringRecord (m : Metering) : List Byte :=
  fieldU 8 m.energy ++ fieldU 8 m.solar ++ fieldU 8 m.battery ++ fieldU 8 m.grid ++ fieldU 8 m.free ++ fieldU 2 m.peak ++
    fieldU 4 m.wait ++ fieldU 4 m.shed ++ fieldU 1 m.bands.length ++ [fieldB m.merged]

/-- SESSION, records 4 × b + 2 and 4 × b + 3: band entries (R184). -/
def bandEntriesRecord (es : List BandEntry) : List Byte :=
  (es.map fun e => e.band.code :: (fieldU 8 e.joules ++ fieldU 10 e.cost)).flatten

/-- The four SESSION records of a bay (R184). -/
def sessionRecords (x : Bay) : List (List Byte) :=
  [sessionRecord x.session, meteringRecord x.metering, bandEntriesRecord (x.metering.bands.take 4),
    bandEntriesRecord ((x.metering.bands.drop 4).take 4)]

/-- The rotation list and rotate mark of a class as a read shows them: while a pass is in flight, what it has done to them does not
show before its publication (R72; log entry 27). -/
def State.rotationShown (s : State) (k : ClassNo) : List BayNo × Bool :=
  match s.ae.pass with
  | some p => (p.found[k].1, p.found[k].2 || s.ae.dwells[k].mark)
  | none => (s.ae.lists[k], s.ae.dwells[k].mark)

/-- ROTATION (R184, R72). -/
def State.rotationRecord (s : State) (k : ClassNo) : List Byte :=
  let d := s.ae.dwells[k]
  let (list, mark) := s.rotationShown k
  fieldU 1 list.length ++ [fieldB mark, fieldB d.running] ++ fieldU 4 d.timer.left ++ list.map fun b => byteOf b.val

/-- PENDING_LINKS (R184). -/
def linkRecord (e : PendingLink) : List Byte :=
  [byteOf e.bay.val] ++ tokenBytes e.token ++ fieldU 2 e.allowance ++ field32 e.stored

/-- The line rate in bit/s (R145). -/
def LineRate.bits : LineRate → Nat
  | .r57600 => 57600
  | .r115200 => 115200
  | .r230400 => 230400
  | .r460800 => 460800

/-- The counters of a port (R184). -/
def portCounterBytes (c : PortCounters) : List Byte :=
  fieldU 2 c.received ++ fieldU 2 c.crcError ++ fieldU 2 c.oversize ++ fieldU 2 c.fragment ++ fieldU 2 c.drop

/-- The site split in its STATUS order (R184). -/
def splitBytes (x : SiteSplit) : List Byte :=
  fieldU 4 x.ch ++ fieldU 4 x.pv ++ fieldU 4 x.bd ++ fieldU 4 x.shop ++ fieldU 4 x.pvLeft ++ fieldU 4 x.shopShort ++
    fieldU 4 x.batLeft ++ fieldU 4 x.solarCh ++ fieldU 4 x.batteryCh ++ fieldU 4 x.gridCh

/-- The release marks, bit j for string j (R184). -/
def State.releaseByte (s : State) : Byte :=
  byteOf (((List.finRange 8).map fun j => if s.cc.strings[j].release then 2 ^ j.val else 0).sum)

/-- The seven parts of STATUS (R166, R184). -/
def State.statusRecords (s : State) : List (List Byte) :=
  [ field16 s.mr.events ++ field16 s.mr.mask ++ planBytes s.mr.plan ++ [s.lineByte],
    fieldU 4 s.li.rate.bits ++ portCounterBytes s.li.down.counters ++ portCounterBytes s.li.up.counters ++
      fieldU 2 s.fs.unknownStation ++ fieldU 2 s.fs.ownAddressDrops ++ fieldU 2 s.fs.limitClamps ++
      fieldU 2 s.fs.autoBatteryDrops,
    field32 s.mu.uptime ++ siteTimeBytes s.mu.clock ++ [s.mu.lastBand.code] ++ splitBytes s.mu.lastSplit,
    [s.bd.table.control.code, s.bd.mode.code, memoryCode s.bd.memory, fieldB s.bd.topUp] ++ fieldU 4 s.bd.offerBd ++
      fieldU 4 s.bd.offerBc ++ fieldI 4 s.bd.manual ++
      (match s.bd.sent with
        | some x => [1] ++ fieldI 4 x.power ++ field32 x.sentAt
        | none => bytesOf 9 0) ++
      fieldU 2 (s.bd.lastSoc.getD 0xFFFF),
    fieldU 4 s.cc.amount ++ fieldI 4 s.cc.target ++ fieldU 4 s.cc.common ++ fieldU 1 s.cc.timer.left ++ [s.releaseByte] ++
      (s.cc.strings.toList.map fun x => fieldU 4 (x.cap.getD 0xFFFFFFFF)).flatten,
    fieldU 1 s.rq.receipts.length ++ opt32 (s.rq.receipts.head?.map (·.number)) ++
      opt32 (s.rq.receipts.getLast?.map (·.number)) ++ field32 s.rq.next ++ [fieldB s.rq.high],
    (s.cc.strings.toList.map fun x =>
        match x.sent with | some c => fieldU 4 c.cap | none => bytesOf 4 0xFFFFFFFF).flatten ++
      (s.cc.strings.toList.map fun x => opt32 (x.sent.map (·.sentAt))).flatten ]

/-- IDENTITY: family code 5C32h, revision 01h and the capacities of the scope chapter (R166, R184). -/
def identityRecord : List Byte := [0x5C, 0x32, 0x01, 64, 32, 8, 48, 32, 16, 8, 16, 4, 8, 8, 96]

/-- The records of a table in index order; those of RECEIPT are read by number and part instead (R166, R138). -/
def State.tableRecords (s : State) : TableName → List (List Byte)
  | .site => [siteRecord s.mr.site]
  | .station => s.fs.stations.toList.map stationRecord
  | .bay => s.bays.toList.map fun x => bayRecord x.config
  | .tariffA => [tariffRecord s.mu.profileA]
  | .tariffB => [tariffRecord s.mu.profileB]
  | .battery => [batteryRecord s.bd.table]
  | .canopy => [s.canopyRecord]
  | .eventMask => [field16 s.mr.mask]
  | .measure => (List.finRange 64).map s.measureRecord ++ [[s.lineState]]
  | .balance => [balanceRecord s.ae.balance]
  | .grant => s.bays.toList.map fun x => grantRecord x.alloc
  | .session => (s.bays.toList.map sessionRecords).flatten
  | .rotation => (List.finRange 8).map s.rotationRecord
  | .pendingLinks => s.links.map linkRecord
  | .held => s.held.map fun b => [byteOf b.val]
  | .receipt => []
  | .status => s.statusRecords
  | .identity => [identityRecord]

/-- The RECEIPT records from a receipt number and part onward, in queue order; none where that record is not in the queue
(R138).  DESIGN CHOICE: a number that has left the queue is answered as any other that is not in it, though R138's last sentence has
such a READ return the receipts from the oldest onward (log entry 40). -/
def recordsFrom (number : Nat) (part : Byte) : List Receipt → Option (List (List Byte))
  | [] => none
  | r :: rest =>
    if r.number.toNat = number then
      if part = 1 then some ((receiptParts r) ++ (rest.map receiptParts).flatten)
      else if part = 2 ∧ r.hasBands then some (receiptPart2 r :: (rest.map receiptParts).flatten)
      else none
    else recordsFrom number part rest

/-- The records a READ may return, from its first index on; none is BAD_INDEX (R166, R138, R183).  PENDING_LINKS and HELD read at
index 0 while empty give no records. -/
def State.readRecords (s : State) (table : TableName) (first : Nat) (part : Byte) : Option (List (List Byte)) :=
  match table with
  | .receipt => recordsFrom first part s.rq.receipts
  | .pendingLinks | .held =>
    let rs := s.tableRecords table
    if first < rs.length ∨ (first = 0 ∧ rs = []) then some (rs.drop first) else none
  | .site | .station | .bay | .tariffA | .tariffB | .battery | .canopy | .eventMask | .measure | .balance | .grant | .session
  | .rotation | .status | .identity =>
    let rs := s.tableRecords table
    if first < rs.length then some (rs.drop first) else none

/-- As many whole records as fit in `room` bytes, each preceded by its length (R166, R180). -/
def packRecords : Nat → List (List Byte) → List (List Byte)
  | _, [] => []
  | room, r :: rest =>
    if r.length + 1 ≤ room then (byteOf r.length :: r) :: packRecords (room - (r.length + 1)) rest else []

end Sys2Proof.Machine
end

