-- ==== Sys2Proof/Machine/Manage.lean ====
section
/-! DEFINITION. The Management Responder (chapter 9): the service a request asks for, the manager check, the taking of records, the
plan check, the writes, the commands and the answers. -/

namespace Sys2Proof.Machine

/-! ### Requests -/

/-- The number of requests the request queue holds (R164). -/
def requestSlots : Nat := 4

/-- The services of the MR, one for each row of the table of operations. -/
inductive Service where
  | read | siteWrite | stationWrite | bayWrite | tariffWrite | batteryWrite | canopyWrite | eventMaskWrite
  | setClock | restart | resume | shedClear | topUp | forceClose | releaseReceipt | clearEvents | clearCounters
  | unknownCommand | badTableWrite
deriving DecidableEq, Repr

/-- The tag of a request, 00h where it is missing (R164, R180). -/
def requestTag (p : List Byte) : Byte := p.getD 0 0

/-- The operation of a request, 00h where it is missing (R180). -/
def requestOp (p : List Byte) : Byte := p.getD 1 0

/-- READ (10.4). -/
def opRead : Byte := 1
/-- WRITE (10.4). -/
def opWrite : Byte := 2
/-- COMMAND (10.4). -/
def opCommand : Byte := 3

/-- The service of a WRITE by its table code (10.5). -/
def writeService (table : Byte) : Service :=
  match tableOf table with
  | some .site => .siteWrite
  | some .station => .stationWrite
  | some .bay => .bayWrite
  | some .tariffA | some .tariffB => .tariffWrite
  | some .battery => .batteryWrite
  | some .canopy => .canopyWrite
  | some .eventMask => .eventMaskWrite
  | some .measure | some .balance | some .grant | some .session | some .rotation | some .pendingLinks | some .held
  | some .receipt | some .status | some .identity | none => .badTableWrite

/-- The service of a COMMAND by its code (10.5, R170). -/
def commandService (code : Byte) : Service :=
  match code.toNat with
  | 1 => .setClock
  | 2 => .restart
  | 3 => .resume
  | 4 => .shedClear
  | 5 => .topUp
  | 6 => .forceClose
  | 7 => .releaseReceipt
  | 8 => .clearEvents
  | 9 => .clearCounters
  | _ => .unknownCommand

/-- The service that a request asks for, from its operation, table code and command code (R164, 10.4). -/
def serviceOf (p : List Byte) : Service :=
  match p with
  | _ :: op :: fields =>
    if op = opRead then .read
    else if op = opWrite then
      match fields with
      | table :: _ :: _ => writeService table
      | _ => .badTableWrite
    else if op = opCommand then
      match fields with
      | code :: _ => commandService code
      | [] => .badTableWrite
    else .unknownCommand
  | _ => .badTableWrite

/-- Whether a request may write or command: the manager list is empty, or holds its source (R165). -/
def State.passesManagers (s : State) (source : Byte) : Bool :=
  let managers := s.mr.site.managers.toList.filter (· != broadcast)
  managers.isEmpty || managers.contains source

/-! ### Answers -/

/-- The tag, operation and status that every answer begins with (R180). -/
def answerHead (p : List Byte) (status : Status) : List Byte := [requestTag p, requestOp p, status.code]

/-- The answer to a request other than a READ: a WRITE's table code, index and plan status, a COMMAND's code; it ends after the
status where the request names no table or command, and for an unknown operation (R180). -/
def answerOf (p : List Byte) (status : Status) (plan : Option PlanFault) : List Byte :=
  answerHead p status ++
    if requestOp p = opWrite then
      match p.drop 2 with
      | table :: fields => [table, fields.headD (Config.unstatedIndex p)] ++ planBytes plan
      | [] => []
    else if requestOp p = opCommand then (p.drop 2).take 1
    else []

/-- An answer frame to `source`, from the own address as it stands (R164). -/
def State.answerFrame (s : State) (source : Byte) (payload : List Byte) (origin : Origin) : Queued :=
  ⟨s.ownFrame source kindManageAnswer payload, origin⟩

/-- An answer is offered to the Up transmit queue; if it finds the queue full it is dropped and counted (R164). -/
def State.answer (s : State) (source : Byte) (payload : List Byte) : State :=
  (s.offer .up (s.answerFrame source payload .manageAnswer)).1

/-- The service of the request at the head of the queue, where it is of the row given and the MR serves (R164, R171): `work` takes
the effect and answers; then the request is removed. -/
def State.serve (row : Service) (work : Request → State → State) (s : State) : State :=
  match s.mr.requests with
  | r :: rest =>
    if s.mr.restart = .idle ∧ serviceOf r.payload = row then
      { work r s with mr.requests := rest }
    else s
  | [] => s

/-- A WRITE or COMMAND behind the manager check: NOT_MANAGER without effect, or the effect and its status; then the answer
(R165, R167, R170). -/
def checked (work : List Byte → State → State × Status) (r : Request) (s : State) : State :=
  if s.passesManagers r.source then
    let (t, status) := work r.payload s
    t.answer r.source (answerOf r.payload status t.mr.plan)
  else s.answer r.source (answerOf r.payload .notManager s.mr.plan)

/-! ### READ -/

/-- The fixed fields of a READ: table code, first index, part, count (10.4). -/
def readFields : Nat := 7

/-- The bytes a READ answer has for records and their length bytes (R180). -/
def recordRoom : Nat := 91

/-- The answer to a READ that is not OK: the table code as requested and no records (R180). -/
def readRefusal (p : List Byte) (status : Status) : List Byte :=
  answerHead p status ++
    match p.drop 2 with
    | table :: _ => [table, 0]
    | [] => []

/-- The answer to a READ (R166, R180). -/
def State.readAnswer (s : State) (p : List Byte) : List Byte :=
  if p.length < 2 + readFields then readRefusal p .badLength
  else
    match tableOf (readByte p 2) with
    | none => readRefusal p .badTable
    | some table =>
      match s.readRecords table (readU p 3 4) (readByte p 7) with
      | none => readRefusal p .badIndex
      | some records =>
        let carried := packRecords recordRoom (records.take (readU p 8 1))
        answerHead p .ok ++ [readByte p 2, byteOf carried.length] ++ carried.flatten

/-- The service of a READ: no manager check, and no state changes but for the answer (R165, R166). -/
def State.serveRead (s : State) : State :=
  s.serve .read fun r t => t.answer r.source (t.readAnswer r.payload)

/-! ### Taking a record (R167, R181) -/

/-- The status of a write that is taken. -/
def takenStatus (clamped : Bool) : Status := if clamped then .clamped else .ok

/-- The SITE record (9.3, 10.6, R169). -/
def takeSite (old : SiteTable) (p : List Byte) : SiteTable × Bool :=
  let u1 (off lo hi : Nat) := takeNat lo hi (readU p off 1)
  let u2 (off lo hi : Nat) := takeNat lo hi (readU p off 2)
  let u4 (off lo hi : Nat) := takeNat lo hi (readU p off 4)
  let own := takeAddress (readByte p 0)
  let mask := readByte p 7
  let highWater := u1 10 1 48
  let silenceTimeout := u1 11 2 60
  let closeHold := u2 12 5 300
  let silentClose := u2 14 30 3600
  let linkLifetime := u2 16 60 7200
  let holdTime := u1 18 1 60
  let assumedShop := u4 19 0 2000000
  let shedSense := takeCode (senseOf (readByte p 23)) old.shedSense
  let islandSense := takeCode (senseOf (readByte p 24)) old.islandSense
  let allocPeriod := u1 25 1 10
  let volts := u2 26 100 277
  let importLimit := u4 28 0 2000000
  let peakTarget := u4 32 0 2000000
  let shedTarget := u4 36 0 2000000
  let fallbackTarget := u4 40 0 2000000
  let margin := u4 44 0 100000
  let trimDecay := u4 48 0 50000
  let shedFloor := u1 52 0 7
  let fallbackBudget := u4 53 0 2000000
  let restartGuard := u2 57 0 600
  let grantRefresh := u1 75 2 60
  let settleTimeout := u1 76 2 60
  ({ ownAddress := own.1
     managers := Vector.ofFn fun i : Fin 4 => readByte p (1 + i.val)
     alertDest := readByte p 5
     receiptDest := readByte p 6
     maskChargerWh := mask.getLsbD 1
     maskPeak := mask.getLsbD 2
     maskWait := mask.getLsbD 3
     maskShed := mask.getLsbD 4
     maskBands := mask.getLsbD 5
     registerTolerance := readU p 8 2
     highWater := highWater.1
     silenceTimeout := silenceTimeout.1
     closeHold := closeHold.1
     silentClose := silentClose.1
     linkLifetime := linkLifetime.1
     holdTime := holdTime.1
     assumedShop := assumedShop.1
     shedSense := shedSense.1
     islandSense := islandSense.1
     allocPeriod := allocPeriod.1
     volts := volts.1
     importLimit := importLimit.1
     peakTarget := peakTarget.1
     shedTarget := shedTarget.1
     fallbackTarget := fallbackTarget.1
     margin := margin.1
     trimDecay := trimDecay.1
     shedFloor := shedFloor.1
     fallbackBudget := fallbackBudget.1
     restartGuard := restartGuard.1
     dwell := Vector.ofFn fun k : Fin 8 => readU p (59 + 2 * k.val) 2
     grantRefresh := grantRefresh.1
     settleTimeout := settleTimeout.1
     weekend := (readByte p 77).setWidth 7 },
   [own.2, highWater.2, silenceTimeout.2, closeHold.2, silentClose.2, linkLifetime.2, holdTime.2, assumedShop.2,
     shedSense.2, islandSense.2, allocPeriod.2, volts.2, importLimit.2, peakTarget.2, shedTarget.2, fallbackTarget.2,
     margin.2, trimDecay.2, shedFloor.2, fallbackBudget.2, restartGuard.2, grantRefresh.2, settleTimeout.2].any id)

/-- The role code of a STATION record: an undefined one is taken as the role held before, 00h where the position is empty
(R181). -/
def takeRoleCode (old : Option Station) (b : Byte) : Byte × Bool :=
  if b.toNat ≤ 5 then (b, false) else ((old.map fun e => e.role.code).getD 0, true)

/-- The role of a role code and an index byte, the index taken into its range and not examined where it is not used; none is an
empty position (10.5, 10.6). -/
def takeRole (code index : Byte) : Option (Role × Bool) :=
  match code.toNat with
  | 1 => some (.charger (Fin.ofNat 32 (takeNat 0 31 index.toNat).1), (takeNat 0 31 index.toNat).2)
  | 2 => some (.gridMeter, false)
  | 3 => some (.shopMeter, false)
  | 4 => some (.pvString (Fin.ofNat 8 (takeNat 0 7 index.toNat).1), (takeNat 0 7 index.toNat).2)
  | 5 => some (.battery, false)
  | _ => none

/-- The STATION record; an empty role leaves its other bytes unexamined (10.6, R181). -/
def takeStation (old : Option Station) (p : List Byte) : Option Station × Bool :=
  let code := takeRoleCode old (readByte p 1)
  match takeRole code.1 (readByte p 2) with
  | none => (none, code.2)
  | some role =>
    let address := takeAddress (readByte p 0)
    let divider := takeNat 1 16 (readU p 3 1)
    (some ⟨address.1, role.1, divider.1⟩, code.2 || role.2 || address.2 || divider.2)

/-- The BAY record (R2, 10.6). -/
def takeBay (old : BayConfig) (p : List Byte) : BayConfig × Bool :=
  let enabled := takeCode (yesNoOf (readByte p 0)) old.enabled
  let cls := takeNat 0 7 (readU p 1 1)
  let cap := takeNat 0 800 (readU p 2 2)
  (⟨enabled.1, Fin.ofNat 8 cls.1, cap.1⟩, enabled.2 || cls.2 || cap.2)

/-- The count of a TARIFF record (R111). -/
def takeCount (p : List Byte) : Nat × Bool := takeNat 1 8 (readU p 0 1)

/-- The band at a position of a TARIFF record (R111, 10.6). -/
def takeBand (p : List Byte) (i : Nat) : Band × Bool :=
  let off := 1 + 7 * i
  let start := takeNat 0 1439 (readU p off 2)
  let flags := readByte p (off + 6)
  (⟨start.1, readU p (off + 2) 2, readU p (off + 4) 2, flags.getLsbD 0, flags.getLsbD 1⟩, start.2)

/-- A TARIFF record long enough for its count: the profile, and whether the count or a start minute was changed (R111). -/
def takeProfile (p : List Byte) : Profile × Bool :=
  let count := takeCount p
  let rest := (List.range (count.1 - 1)).map fun i => takeBand p (i + 1)
  (⟨(takeBand p 0).1, rest.map (·.1)⟩, count.2 || (takeBand p 0).2 || rest.any (·.2))

/-- Whether a TARIFF record's length fits its count (R181). -/
def tariffFits (p : List Byte) : Bool :=
  decide (1 + 7 * (takeCount p).1 ≤ p.length) && decide (p.length ≤ 57)

/-- The BATTERY record (R73, 10.6). -/
def takeBattery (old : BatteryTable) (p : List Byte) : BatteryTable × Bool :=
  let u4 (off hi : Nat) := takeNat 0 hi (readU p off 4)
  let u2 (off hi : Nat) := takeNat 0 hi (readU p off 2)
  let chargeRating := u4 0 500000
  let dischargeRating := u4 4 500000
  let reserveEnter := u2 8 1000
  let reserveExit := u2 10 1000
  let fullStop := u2 12 1000
  let fullResume := u2 14 1000
  let topUpTarget := u2 16 1000
  let control := takeCode (controlOf (readByte p 18)) old.control
  let step := u2 19 10000
  let refresh := takeNat 2 60 (readU p 21 1)
  (⟨chargeRating.1, dischargeRating.1, reserveEnter.1, reserveExit.1, fullStop.1, fullResume.1, topUpTarget.1, control.1,
    step.1, refresh.1⟩,
   [chargeRating.2, dischargeRating.2, reserveEnter.2, reserveExit.2, fullStop.2, fullResume.2, topUpTarget.2, control.2,
     step.2, refresh.2].any id)

/-- A string's part of the CANOPY record, its floor bounded by its rating (R92, R167). -/
def takeString (old : StringConfig) (p : List Byte) (off : Nat) : StringConfig × Bool :=
  let enabled := takeCode (yesNoOf (readByte p off)) old.enabled
  let rating := takeNat 0 500000 (readU p (off + 1) 4)
  let floor := takeNat 0 rating.1 (readU p (off + 5) 4)
  (⟨enabled.1, rating.1, floor.1⟩, enabled.2 || rating.2 || floor.2)

/-- The CANOPY record (R92, 10.6). -/
def takeCanopy (old : CanopyTable) (p : List Byte) : CanopyTable × Bool :=
  let enabled := takeCode (yesNoOf (readByte p 0)) old.enabled
  let limit := takeNat 0 1000000 (readU p 1 4)
  let deadband := takeNat 0 100000 (readU p 5 4)
  let period := takeNat 2 60 (readU p 9 1)
  let strings (j : Fin 8) := takeString old.strings[j] p (10 + 9 * j.val)
  (⟨enabled.1, limit.1, deadband.1, period.1, Vector.ofFn fun j => (strings j).1⟩,
   enabled.2 || limit.2 || deadband.2 || period.2 || (List.finRange 8).any fun j => (strings j).2)

/-! ### The plan check (R172) -/

/-- The lowest position whose entry stands, by `same`, in one pair with an entry at a lower position (R172). -/
def State.secondOf (s : State) (same : Station → Station → Bool) : Option Position :=
  (List.finRange 64).find? fun j =>
    (List.finRange 64).any fun i =>
      decide (i < j) &&
        match s.fs.stations[i], s.fs.stations[j] with
        | some a, some b => same a b
        | _, _ => false

/-- Two entries of one role of which the site has one (R172). -/
def sameSingleRole (a b : Station) : Bool :=
  match a.role with
  | .gridMeter | .shopMeter | .battery => a.role == b.role
  | .charger _ | .pvString _ => false

/-- Two entries of one role that name one bay or one string (R172). -/
def sameIndex (a b : Station) : Bool :=
  match a.role with
  | .charger _ | .pvString _ => a.role == b.role
  | .gridMeter | .shopMeter | .battery => false

/-- The position of the first band whose start is not above the start before it (R172). -/
def firstDescent : List Band → Nat → Option Nat
  | a :: b :: rest, k => if b.start ≤ a.start then some (k + 1) else firstDescent (b :: rest) (k + 1)
  | _, _ => none

/-- The pair of battery thresholds that stand in the wrong order (R172). -/
def batteryOrder (t : BatteryTable) : Option Byte :=
  if t.reserveExit ≤ t.reserveEnter then some 0
  else if t.fullStop ≤ t.fullResume then some 1
  else none

/-- The first band out of order, profile A before profile B (R172). -/
def State.tariffOrder (s : State) : Option Byte :=
  match firstDescent s.mu.profileA.bands 0 with
  | some k => some (BandRef.code ⟨.a, k⟩)
  | none => (firstDescent s.mu.profileB.bands 0).map fun k => BandRef.code ⟨.b, k⟩

/-- What each check finds: the index it reports, where it fails (R172). -/
def State.checkFinds (s : State) : PlanCheck → Option Byte
  | .duplicateAddress => (s.secondOf fun a b => a.address == b.address).map fun p => byteOf p.val
  | .secondRole => (s.secondOf sameSingleRole).map fun p => byteOf p.val
  | .sharedIndex => (s.secondOf sameIndex).map fun p => byteOf p.val
  | .bayNoCharger =>
    ((List.finRange 32).find? fun b => (s.bay b).config.enabled && (s.chargerOf b).isNone).map fun b => byteOf b.val
  | .batteryOrder => batteryOrder s.bd.table
  | .tariffOrder => s.tariffOrder
  | .stringNoStation =>
    ((List.finRange 8).find? fun j => s.cc.table.on j && (s.stringEntry j).isNone).map fun j => byteOf j.val

/-- The checks in their order (R172). -/
def planOrder : List PlanCheck :=
  [.duplicateAddress, .secondRole, .sharedIndex, .bayNoCharger, .batteryOrder, .tariffOrder, .stringNoStation]

/-- The first check that fails, with its index (R172). -/
def State.planFault (s : State) : Option PlanFault :=
  planOrder.findSome? fun c => (s.checkFinds c).map fun i => ⟨c, i⟩

/-- The plan check: the plan status is set, and PLAN_FAULT raised at every FAULT (R172). -/
def State.planCheck (s : State) : State :=
  ({ s with mr.plan := s.planFault } : State).raiseIf s.planFault.isSome .planFault

/-! ### Writes -/

/-- The index of a WRITE (10.4). -/
def writeIndex (p : List Byte) : Nat := readU p 3 1

/-- The record of a WRITE (10.4). -/
def writeRecord (p : List Byte) : List Byte := p.drop 4

/-- A WRITE to a table of one record: index and length are examined, then `take` takes the record, and the plan check follows
(R167, R172). -/
def writeWhole (fits : List Byte → Bool) (take : List Byte → State → State × Bool) (p : List Byte) (s : State) :
    State × Status :=
  if writeIndex p ≠ 0 then (s, .badIndex)
  else if !fits (writeRecord p) then (s, .badLength)
  else
    let (t, clamped) := take (writeRecord p) s
    (t.planCheck, takenStatus clamped)

/-- A SITE record is taken: the table is replaced, and changed senses, a changed hold time and a changed high-water mark act at the
write (R37, R33, R141). -/
def State.takeSiteRecord (record : List Byte) (s : State) : State × Bool :=
  let old := s.mr.site
  let (site, clamped) := takeSite old record
  let t := ({ s with mr.site := site } : State).sensesChanged old.shedSense old.islandSense
  let t := if old.holdTime = site.holdTime then t else t.holdChanged
  let t := if old.highWater = site.highWater then t else t.evalHigh
  (t, clamped)

/-- A WRITE to SITE (R169). -/
def State.writeSite (p : List Byte) (s : State) : State × Status :=
  writeWhole (fun r => r.length == 78) State.takeSiteRecord p s

/-- The bay that a CHARGER entry serves. -/
def Role.bay? : Role → Option BayNo
  | .charger b => some b
  | .gridMeter | .shopMeter | .pvString _ | .battery => none

/-- The string that a PV_STRING entry serves. -/
def Role.string? : Role → Option StringNo
  | .pvString j => some j
  | .charger _ | .gridMeter | .shopMeter | .battery => none

/-- Whether a STATION write is refused: the position holds the CHARGER entry of a bay with an open or held session, and the write
would change its role or index or empty it (R168). -/
def State.stationRefused (s : State) (pos : Position) (new : Option Station) : Bool :=
  match s.fs.stations[pos] with
  | some e =>
    match e.role with
    | .charger b =>
      ((s.bay b).session.state.isOpen || (s.bay b).session.state == .held) && new.map (·.role) != some e.role
    | .gridMeter | .shopMeter | .pvString _ | .battery => false
  | none => false

/-- Address, role and index of an entry: what a write that changes the forward divider alone keeps (R28, R103, R185). -/
def Station.identity (e : Station) : Byte × Role := (e.address, e.role)

/-- The measurement record of a position after a STATION write (R28). -/
def recordAfter (now : Uptime) (old new : Option Station) (record : Option MeasRecord) : Option MeasRecord :=
  match new with
  | some e =>
    if e.role.measures then
      if old.map Station.identity = some e.identity then record else some (MeasRecord.never now)
    else none
  | none => none

/-- The bays, or strings, that a STATION write touches: those the position named before and those it names after, where address,
role or index changes (R185, R103).  DESIGN CHOICE: a write that repeats the address, role and index of a PV_STRING entry touches no
string, and so leaves the last cap sent and the release mark as they are (log entry 45). -/
def touched {α : Type} (named : Role → Option α) (old new : Option Station) : List α :=
  if old.map Station.identity = new.map Station.identity then []
  else (old.bind fun e => named e.role).toList ++ (new.bind fun e => named e.role).toList

/-- Whether a STATION write creates or discards a BATTERY entry (R76). -/
def batteryMoves (old new : Option Station) : Bool :=
  (old.map (·.role) == some .battery) != (new.map (·.role) == some .battery)

/-- The last sent grant of a bay becomes absent (R185). -/
def State.forgetGrant (s : State) (b : BayNo) : State := s.modAlloc b fun a => { a with sent := none }

/-- A position takes a new entry or becomes empty: forward count, measurement record, strings, grants and the battery follow
(R150, R28, R103, R185, R76). -/
def State.placeStation (s : State) (pos : Position) (new : Option Station) : State :=
  let old := s.fs.stations[pos]
  let t : State :=
    { s with
      fs.stations := s.fs.stations.set pos new
      fs.counts := s.fs.counts.set pos 0
      siu.records := s.siu.records.set pos (recordAfter s.now old new s.siu.records[pos]) }
  let t := (touched Role.string? old new).foldl State.forgetCap t
  let t := (touched Role.bay? old new).foldl State.forgetGrant t
  if batteryMoves old new then t.evaluateWith s.batteryAddress.toList else t

/-- A WRITE to STATION (R150, R167, R168). -/
def State.writeStation (p : List Byte) (s : State) : State × Status :=
  if h : writeIndex p < 64 then
    let pos : Position := ⟨writeIndex p, h⟩
    if (writeRecord p).length ≠ 4 then (s, .badLength)
    else
      let (new, clamped) := takeStation s.fs.stations[pos] (writeRecord p)
      if s.stationRefused pos new then (s, .refusedState)
      else ((s.placeStation pos new).planCheck, takenStatus clamped)
  else (s, .badIndex)

/-- A WRITE to BAY (R2, R16, R167). -/
def State.writeBay (p : List Byte) (s : State) : State × Status :=
  if h : writeIndex p < 32 then
    let b : BayNo := ⟨writeIndex p, h⟩
    if (writeRecord p).length ≠ 4 then (s, .badLength)
    else
      let (config, clamped) := takeBay (s.bay b).config (writeRecord p)
      ((s.takeBayConfig b config).planCheck, takenStatus clamped)
  else (s, .badIndex)

/-- A profile is replaced whole (R111). -/
def State.setProfile (s : State) (name : ProfileName) (x : Profile) : State :=
  match name with
  | .a => { s with mu.profileA := x }
  | .b => { s with mu.profileB := x }

/-- The profile that a WRITE names. -/
def writtenProfile (p : List Byte) : ProfileName :=
  if tableOf (readByte p 2) = some .tariffB then .b else .a

/-- A WRITE to TARIFF_A or TARIFF_B (R111). -/
def State.writeTariff (p : List Byte) (s : State) : State × Status :=
  writeWhole tariffFits
    (fun record t => (t.setProfile (writtenProfile p) (takeProfile record).1, (takeProfile record).2)) p s

/-- A WRITE to BATTERY (R73, R87). -/
def State.writeBattery (p : List Byte) (s : State) : State × Status :=
  writeWhole (fun r => r.length == 22)
    (fun record t =>
      let (table, clamped) := takeBattery t.bd.table record
      (t.takeBatteryTable table, clamped)) p s

/-- A WRITE to CANOPY (R92). -/
def State.writeCanopy (p : List Byte) (s : State) : State × Status :=
  writeWhole (fun r => r.length == 82)
    (fun record t =>
      let (table, clamped) := takeCanopy t.cc.table record
      (t.takeCanopyTable table, clamped)) p s

/-- A WRITE to EVENT_MASK; no plan check follows (R167, R173). -/
def State.writeEventMask (p : List Byte) (s : State) : State × Status :=
  if writeIndex p ≠ 0 then (s, .badIndex)
  else if (writeRecord p).length ≠ 2 then (s, .badLength)
  else ({ s with mr.mask := BitVec.ofNat 16 (readU (writeRecord p) 0 2) }, .ok)

/-! ### Commands -/

/-- The arguments of a COMMAND (10.4). -/
def arguments (p : List Byte) : List Byte := p.drop 3

/-- A COMMAND whose arguments are shorter than `n` bytes is answered BAD_LENGTH (R170). -/
def withArguments (n : Nat) (work : List Byte → State → State × Status) (p : List Byte) (s : State) : State × Status :=
  if (arguments p).length < n then (s, .badLength) else work (arguments p) s

/-- SET_CLOCK: day, second of day (R109). -/
def commandSetClock : List Byte → State → State × Status :=
  withArguments 5 fun a s => s.setSiteClock (BitVec.ofNat 16 (readU a 0 2)) (readU a 2 3)

/-- FORCE_CLOSE: bay (R15). -/
def commandForceClose : List Byte → State → State × Status :=
  withArguments 1 fun a s => s.forceClose (readU a 0 1)

/-- RELEASE_RECEIPT: receipt number (R139). -/
def commandRelease : List Byte → State → State × Status :=
  withArguments 4 fun a s => s.release (BitVec.ofNat 32 (readU a 0 4))

/-- The pending flags of a set of events are cleared (R175). -/
def State.clearEvents (s : State) (set : BitVec 16) : State :=
  { s with mr.events := s.mr.events &&& ~~~ set }

/-- CLEAR_EVENTS: event set (R175). -/
def commandClearEvents : List Byte → State → State × Status :=
  withArguments 2 fun a s => (s.clearEvents (BitVec.ofNat 16 (readU a 0 2)), .ok)

/-- Every counter of R160 becomes 0. -/
def State.zeroCounters (s : State) : State :=
  { s with
    li.down.counters := PortCounters.zero
    li.up.counters := PortCounters.zero
    fs.unknownStation := 0
    fs.ownAddressDrops := 0
    fs.limitClamps := 0
    fs.autoBatteryDrops := 0 }

/-- CLEAR_COUNTERS (R175). -/
def commandClearCounters (_ : List Byte) (s : State) : State × Status := (s.zeroCounters, .ok)

/-- The service of RESTART: answered OK, and the restart scheduled; it is due at once if the answer was dropped (R171). -/
def restartWork (r : Request) (s : State) : State :=
  if s.passesManagers r.source then
    let (t, taken) := s.offer .up (s.answerFrame r.source (answerOf r.payload .ok s.mr.plan) .restartAnswer)
    { t with mr.restart := if taken then .answering else .due }
  else s.answer r.source (answerOf r.payload .notManager s.mr.plan)

/-- An unknown command code stands behind the manager check; an unknown operation does not (R164, R165, R170). -/
def unknownWork (r : Request) (s : State) : State :=
  if requestOp r.payload = opCommand then checked (fun _ t => (t, .unknownCommand)) r s
  else s.answer r.source (answerOf r.payload .unknownCommand s.mr.plan)

/-- The status of a WRITE that names no written table, or of a WRITE or COMMAND too short for its fixed fields (R164, R167). -/
def badTableStatus (p : List Byte) : Status :=
  if requestOp p = opWrite then
    match p.drop 2 with
    | table :: _ :: _ => if (tableOf table).isSome then .readOnly else .badTable
    | _ => .badLength
  else .badLength

/-- A request too short for its tag or operation is answered BAD_LENGTH without the manager check; the others stand behind it
(R164, R165, R167). -/
def badTableWork (r : Request) (s : State) : State :=
  if r.payload.length < 2 then s.answer r.source (answerOf r.payload .badLength s.mr.plan)
  else checked (fun p t => (t, badTableStatus p)) r s

end Sys2Proof.Machine
end

