-- ==== Sys2Proof/Machine/Restart.lean ====
section
/-! DEFINITION. Warm restart, supply loss and cold reset (9.7, 9.8, and each chapter's own part), and the RESET pin. -/

namespace Sys2Proof.Machine

/-! ### Warm restart, block by block -/

/-- Whether a warm restart takes effect for a cause: the RESET pin can request one, the RESTART answer has been sent or dropped, or
an answered RESTART is overdue (R171, R176). -/
def State.restartDue (s : State) : RestartCause → Bool
  | .resetPin => s.mr.resetArmed
  | .answerDone => s.mr.restart == .due
  | .answerLate => s.mr.restart != .idle

/-- The MR: the pending set is cleared before any block's own part (R176). -/
def State.clearPending (s : State) : State := { s with mr.events := 0 }

/-- The MR: the request queue is emptied, and the restart that was scheduled is this one (R176, R171). -/
def State.restartManage (s : State) (cause : RestartCause) : State :=
  { s with
    mr.requests := []
    mr.restart := .idle
    mr.resetArmed := match cause with | .resetPin => false | .answerDone | .answerLate => s.mr.resetArmed }

/-- LI and FS: receivers wait, transmissions stop, queues empty, forward counts and counters 0 (R163). -/
def State.restartLine (s : State) : State :=
  { s with
    li.down := PortState.cold
    li.up := PortState.cold
    fs := ⟨s.fs.stations, Vector.replicate 64 0, 0, 0, 0, 0⟩ }

/-- The SM: open sessions carry the restarted flag, and their timers start now (R27). -/
def State.restartSessions (s : State) : State :=
  let timer := s.newTimer
  s.mapBays fun _ x =>
    if x.session.state.isOpen then
      { x with session := { x.session with restarted := true, timer := some timer } }
    else x

/-- The SIU: records never-received from now; latches and freeze cleared; SHED and ISLAND formed again from the pins.  SHED_CHANGE is
raised where SHED was active before the restart and where it is active after it (R38, R44; log entry 19), ISLAND_ON where ISLAND is
active after it, which sets the freeze. -/
def State.restartSiu (s : State) (shedHigh islandHigh : Bool) : State :=
  let now := s.now
  let shed := Input.formed s.mr.site.shedSense shedHigh
  let island := Input.formed s.mr.site.islandSense islandHigh
  let t : State :=
    { s with
      siu := ⟨s.siu.records.map fun r => r.map fun _ => MeasRecord.never now, shed, island, island.active⟩ }
  (t.raiseIf (s.siu.shed.active || shed.active) .shedChange).raiseIf island.active .islandOn

/-- The AE (R71). -/
def State.restartAlloc (s : State) : State :=
  let site := s.mr.site
  let s := s.mapBays fun _ x => { x with alloc := ⟨.none, 0, none, Countdown.load 0⟩ }
  { s with
    ae :=
      { lists := Vector.ofFn s.rebuilt
        dwells := Vector.ofFn fun k : ClassNo => ⟨Countdown.load (site.dwellOf k), false, false⟩
        trim := 0
        balance := Balance.zero
        timer := Countdown.load site.allocPeriod
        settling := true
        settleStart := s.now
        pass := none } }

/-- The mode of BD after a warm restart: MANUAL, ISLAND under the freeze, or OFF (R91). -/
def restartMode (control : Control) (frozen : Bool) : Mode :=
  match control with
  | .manual => .manual
  | .auto => if frozen then .island else .off

/-- BD (R91). -/
def State.restartBattery (s : State) : State :=
  let mode := restartMode s.bd.table.control s.siu.freeze
  ({ s with bd := ⟨s.bd.table, mode, none, false, 0, 0, 0, none, none⟩ } : State).raiseIf (mode != s.bd.mode) .batteryMode

/-- CC (R106). -/
def State.restartCanopy (s : State) : State :=
  let t := s.cc.table
  { s with
    cc :=
      { table := t
        amount := 0
        strings := Vector.ofFn fun j : StringNo => ⟨none, none, s.cc.strings[j].offRating t.strings[j].rating⟩
        target := 0
        common := 0
        timer := Countdown.load t.period
        pass := none } }

/-- The RQ: the high condition is cleared and evaluated afresh (R144). -/
def State.restartReceipts (s : State) : State := ({ s with rq.high := false } : State).evalHigh

/-- A warm restart on a cleared pending set (R176, R163, R27, R44, R71, R91, R106, R144). -/
def State.warmWork (cause : RestartCause) (shedHigh islandHigh : Bool) (s : State) : State :=
  ((((((s.restartManage cause).restartLine.restartSessions).restartSiu shedHigh islandHigh).restartAlloc).restartBattery).restartCanopy).restartReceipts

/-- WARM_RESTART. -/
def execWarmRestart (cause : RestartCause) (shedHigh islandHigh : Bool) (s : State) : Host.Outcome State Fault Refusal :=
  .next (if s.powered && s.restartDue cause then inEvent (State.warmWork cause shedHigh islandHigh) s.clearPending else s)

/-! ### Supply -/

/-- The line rate of the two straps (R145). -/
def rateOf (strap1 strap2 : Bool) : LineRate :=
  match strap1, strap2 with
  | false, false => .r115200
  | false, true => .r57600
  | true, false => .r230400
  | true, true => .r460800

/-- The part in reset: all state is lost (R177).  What it holds until the cold reset cannot be read; the model keeps the cold values
there (log entry 21). -/
def State.heldInReset (s : State) : State := { State.reset with pending := s.pending, powered := false }

/-- SUPPLY_LOSS (R177). -/
def execSupplyLoss (s : State) : Host.Outcome State Fault Refusal := .next s.heldInReset

/-- Every block in its cold reset state, the straps sampled (R177, R145). -/
def State.coldStart (s : State) (strap1 strap2 : Bool) : State :=
  { State.reset with pending := s.pending, li.rate := rateOf strap1 strap2 }

/-- The SIU takes the levels of both pins as they stand (R43). -/
def State.coldPins (shedHigh islandHigh : Bool) (s : State) : State :=
  (s.setShed (Input.formed s.mr.site.shedSense shedHigh)).setIsland (Input.formed s.mr.site.islandSense islandHigh)

/-- COLD_RESET: the part leaves reset (R177, R43, R178). -/
def execColdReset (strap1 strap2 shedHigh islandHigh : Bool) (s : State) : Host.Outcome State Fault Refusal :=
  .next (if s.powered then s else inEvent (State.coldPins shedHigh islandHigh) (s.coldStart strap1 strap2))

/-- RESET_PIN_RETURN_HIGH (R176). -/
def execResetPinReturnHigh (s : State) : Host.Outcome State Fault Refusal :=
  takeEvent (fun t => { t with mr.resetArmed := true }) s

end Sys2Proof.Machine
end

