-- ==== Sys2Proof/Machine/Screen.lean ====
section
/-! DEFINITION. The Line Interface and the Frame Screen (chapter 8): what is done with a received frame, and with a frame that is
sent. -/

namespace Sys2Proof.Machine

/-! ### Classification (R151, R152) -/

/-- The rows of the table of operations that a good frame may fall under. -/
inductive FrameRow where
  | sampleFrame | demandFrame | linkFrame | manageFrame | upLimitScreen | forwardUp | forwardDown | ownAddressDrop
  | ownSourceDiscard
deriving DecidableEq, Repr

/-- The row of a Down frame whose source is an entry: what the tap takes of it (R151, table of the tap). -/
def tapRow (role : Role) (kind : Byte) : FrameRow :=
  match role with
  | .charger _ => if kind = kindDemand then .demandFrame else .forwardUp
  | .gridMeter | .shopMeter | .pvString _ | .battery => if kind = kindSample then .sampleFrame else .forwardUp

/-- The row of a good frame from the Down port, by the first row of R151 that holds. -/
def State.downRow (s : State) (f : Frame) : FrameRow :=
  if f.source = s.own then .ownSourceDiscard
  else if f.dest = s.own then .ownAddressDrop
  else
    match s.stationOf f.source with
    | none => .forwardUp
    | some (_, e) => tapRow e.role f.kind

/-- Whether a kind is one of those that R155 screens. -/
def screenedKind (kind : Byte) : Bool := kind == kindLimit || kind == kindGrant

/-- The row of a good frame from the Up port, by the first row of R152 that holds. -/
def State.upRow (s : State) (f : Frame) : FrameRow :=
  if f.source = s.own then .ownSourceDiscard
  else if f.dest = s.own then
    if f.kind = kindManage then .manageFrame else if f.kind = kindLink then .linkFrame else .ownAddressDrop
  else if screenedKind f.kind && (s.stationOf f.dest).isSome then .upLimitScreen
  else .forwardDown

/-- The row of a good frame. -/
def State.frameRow (s : State) (p : Port) (f : Frame) : FrameRow :=
  match p with
  | .down => s.downRow f
  | .up => s.upRow f

/-- A port's counters change. -/
def State.modCounters (s : State) (p : Port) (f : PortCounters → PortCounters) : State :=
  s.setPort p { s.port p with counters := f (s.port p).counters }

/-- A good frame is counted on its port (R147). -/
def State.countReceived (s : State) (p : Port) : State :=
  s.modCounters p fun c => { c with received := bump c.received }

/-- The handling of a good frame of one row: it is counted and handed to the FS in one event.  A reception that is no good frame, or
falls under another row now, or reaches a receiver that still waits, is no event of the row (R146, R147; log entry 2). -/
def State.receive (s : State) (p : Port) (row : FrameRow) (r : Reception) (work : Frame → State → State) : State :=
  if (s.port p).waiting then s
  else
    match goodFrame r with
    | some f => if s.frameRow p f = row then work f (s.countReceived p) else s
    | none => s

/-! ### Dropped frames (R147) -/

/-- The counter of a dropped frame. -/
def Verdict.count : Verdict → PortCounters → PortCounters
  | .oversize, c => { c with oversize := bump c.oversize }
  | .fragment, c => { c with fragment := bump c.fragment }
  | .crcError, c => { c with crcError := bump c.crcError }
  | .good _, c => c

/-- A receiver closes a frame that is not good: it is counted and dropped, and LINE_ERROR is raised (R147). -/
def State.dropFrame (s : State) (p : Port) (r : Reception) : State :=
  if (s.port p).waiting ∨ r.bytes = [] then s
  else
    match judge r with
    | .good _ => s
    | v => (s.modCounters p v.count).raise .lineError

/-! ### Forwarding up (R153, R154) -/

/-- A frame is queued as a forwarded frame (R157). -/
def State.forward (s : State) (p : Port) (f : Frame) : State := (s.offer p ⟨f, .forwarded⟩).1

/-- A SAMPLE goes up if the forward count of its entry is 0, and the count moves (R154). -/
def State.forwardSample (s : State) (pos : Position) (e : Station) (f : Frame) : State :=
  let count := s.fs.counts[pos]
  let s : State := { s with fs.counts := s.fs.counts.set pos ((count + 1) % e.divider) }
  if count = 0 then s.forward .up f else s

/-- SAMPLE_FRAME: tapped to the SIU, then subject to the forward divider (R30, R154). -/
def State.sampleFrame (f : Frame) (s : State) : State :=
  match s.stationOf f.source with
  | some (pos, e) => (s.tapSample pos e.role f.payload).forwardSample pos e f
  | none => s

/-- DEMAND_FRAME: tapped to the SM where its payload can be taken, then forwarded up (R4, R153, R182, R183). -/
def State.demandFrame (f : Frame) (s : State) : State :=
  let tapped :=
    match s.stationOf f.source with
    | some (_, e) =>
      match e.role, readDemand f.payload s.now with
      | .charger b, some figures => s.demand b figures
      | _, _ => s
    | none => s
  tapped.forward .up f

/-- FORWARD_UP: a frame from an unknown station, counted, or one that no block taps; a SAMPLE of a known station moves the forward
count (R151, R153, R154). -/
def State.forwardUpFrame (f : Frame) (s : State) : State :=
  match s.stationOf f.source with
  | none => ({ s with fs.unknownStation := bump s.fs.unknownStation } : State).forward .up f
  | some (pos, e) => if f.kind = kindSample then s.forwardSample pos e f else s.forward .up f

/-! ### Frames to the own address -/

/-- An own-address drop (R160). -/
def State.countOwnDrop (s : State) : State := { s with fs.ownAddressDrops := bump s.fs.ownAddressDrops }

/-- The LINK-ANSWER to the till: the bay as the LINK carried it, and the outcome (R21, 10.2). -/
def State.answerLink (s : State) (till bay : Byte) (outcome : LinkOutcome) : State :=
  (s.offer .up ⟨s.ownFrame till kindLinkAnswer [bay, outcome.code], .linkAnswer⟩).1

/-- LINK_FRAME: taken by the SM and answered; a short one is counted as an own-address drop instead (R20, R21, R182). -/
def State.linkFrame (f : Frame) (s : State) : State :=
  if f.payload.length < linkLength then s.countOwnDrop
  else
    let (t, outcome) :=
      s.takeLink (readU f.payload 0 1) (BitVec.ofNat 64 (readU f.payload 1 8)) (readU f.payload 9 2)
    t.answerLink f.source (readByte f.payload 0) outcome

/-- MANAGE_FRAME: appended to the request queue, or answered BUSY (R164). -/
def State.manageFrame (f : Frame) (s : State) : State :=
  if s.mr.requests.length < requestSlots then
    { s with mr.requests := s.mr.requests ++ [⟨f.source, f.payload⟩] }
  else s.answer f.source (answerHead f.payload .busy)

/-! ### Screening from the site computer (R155) -/

/-- A LIMIT clamp (R160). -/
def State.countClamp (s : State) : State := { s with fs.limitClamps := bump s.fs.limitClamps }

/-- An auto-mode battery drop (R160). -/
def State.countAutoDrop (s : State) : State := { s with fs.autoBatteryDrops := bump s.fs.autoBatteryDrops }

/-- The value field of a LIMIT or GRANT: its offset and width (R182). -/
def valueField (kind : Byte) : Nat × Nat := if kind = kindGrant then (1, 2) else (0, 4)

/-- The signed value of a LIMIT or GRANT (10.2). -/
def limitValue (f : Frame) : Int := readI f.payload (valueField f.kind).1 (valueField f.kind).2

/-- A LIMIT or GRANT rewritten in its value field alone (R182). -/
def withValue (f : Frame) (v : Int) : Frame :=
  let (off, w) := valueField f.kind
  { f with payload := f.payload.take off ++ fieldI w v ++ f.payload.drop (off + w) }

/-- A LIMIT or GRANT too short for its value (R182). -/
def valueMissing (f : Frame) : Bool :=
  decide (f.payload.length < (valueField f.kind).1 + (valueField f.kind).2)

/-- How R155 treats a LIMIT or GRANT for a station. -/
inductive Screening where
  /-- Forwarded unaltered. -/
  | pass
  /-- Held to a bound. -/
  | hold (bound : Int → Int)
  /-- A LIMIT to the battery under MANUAL control (R88). -/
  | manual
  /-- A LIMIT to the battery under AUTO control (R89). -/
  | auto

/-- The clamp to a bay's published grant (R156). -/
def clampToGrant (grant : Nat) (v : Int) : Int := max 0 (min v grant)

/-- The value with which a LIMIT to a string is forwarded (R104). -/
def clampToCap (amount : Nat) (enabled : Bool) (cap : Option Nat) (v : Int) : Int :=
  match cap with
  | some c => if 0 < amount ∧ enabled then min v c else v
  | none => v

/-- A setpoint bounded by the battery's ratings (R88). -/
def clampToRatings (t : BatteryTable) (v : Int) : Int :=
  if (t.dischargeRating : Int) < v then t.dischargeRating
  else if v < -(t.chargeRating : Int) then -(t.chargeRating : Int)
  else v

/-- The treatment of a LIMIT or GRANT for an entry, by the first row of R155 that holds. -/
def State.screening (s : State) (kind : Byte) (role : Role) : Screening :=
  match role with
  | .charger b => .hold (clampToGrant (s.bay b).alloc.grant)
  | .pvString j =>
    if kind = kindLimit then .hold (clampToCap s.cc.amount (s.cc.table.on j) s.cc.strings[j].cap) else .pass
  | .battery =>
    if kind = kindLimit then (if s.bd.table.control = .manual then .manual else .auto) else .pass
  | .gridMeter | .shopMeter => .pass

/-- A screened frame goes down with its value held to `v`, counted as a LIMIT clamp if that changes it.  The answer says whether
it was taken into the queue (R155). -/
def State.forwardHeld (s : State) (f : Frame) (v : Int) : State × Bool :=
  if v = limitValue f then s.offer .down ⟨f, .forwarded⟩
  else s.countClamp.offer .down ⟨withValue f v, .forwarded⟩

/-- A manual setpoint taken into the Down queue: the offer is formed again (R88, R80). -/
def State.takeManual (s : State) (v : Int) : State :=
  { s with bd.manual := v, bd.offerBd := v.toNat, bd.offerBc := 0 }

/-- UP_LIMIT_SCREEN (R155, R156, R104, R88, R89, R182). -/
def State.screenLimit (f : Frame) (s : State) : State :=
  match s.stationOf f.dest with
  | none => s
  | some (_, e) =>
    match s.screening f.kind e.role with
    | .pass => s.forward .down f
    | .auto => if valueMissing f then s.countAutoDrop.countClamp else s.countAutoDrop
    | .hold bound => if valueMissing f then s.countClamp else (s.forwardHeld f (bound (limitValue f))).1
    | .manual =>
      if valueMissing f then s.countClamp
      else
        let v := clampToRatings s.bd.table (limitValue f)
        let (t, taken) := s.forwardHeld f v
        if taken then t.takeManual v else t

/-- FORWARD_DOWN: forwarded unaltered, but for a broadcast LIMIT or GRANT, which is dropped and counted (R152). -/
def State.forwardDownFrame (f : Frame) (s : State) : State :=
  if f.dest = broadcast ∧ screenedKind f.kind then s.countClamp else s.forward .down f

/-! ### Transmission (R149) -/

/-- An idle transmitter takes the frame at the head of its queue (R149). -/
def State.startTransmission (s : State) (p : Port) : State :=
  match (s.port p).sending, (s.port p).queue with
  | none, q :: rest => s.setPort p { s.port p with sending := some q, queue := rest }
  | _, _ => s

/-- The end of a RESTART answer's transmission makes the restart due (R171). -/
def State.answerSent (s : State) (q : Queued) : State :=
  if q.origin = .restartAnswer ∧ s.mr.restart = .answering then { s with mr.restart := .due } else s

/-- The last byte of a frame has been sent, and the transmitter becomes idle (R149). -/
def State.endTransmission (s : State) (p : Port) : State :=
  match (s.port p).sending with
  | some q => (s.setPort p { s.port p with sending := none }).answerSent q
  | none => s

/-- A receiver that was waiting has seen 2 byte times of idle line (R146). -/
def State.receiverReady (s : State) (p : Port) : State := s.setPort p { s.port p with waiting := false }

/-! ### The commands -/

/-- FRAME_ERROR. -/
def execFrameError (p : Port) (r : Reception) (s : State) : Host.Outcome State Fault Refusal :=
  takeEvent (fun t => t.dropFrame p r) s

/-- SAMPLE_FRAME. -/
def execSampleFrame (r : Reception) (s : State) : Host.Outcome State Fault Refusal :=
  takeEvent (fun t => t.receive .down .sampleFrame r State.sampleFrame) s

/-- DEMAND_FRAME. -/
def execDemandFrame (r : Reception) (s : State) : Host.Outcome State Fault Refusal :=
  takeEvent (fun t => t.receive .down .demandFrame r State.demandFrame) s

/-- LINK_FRAME. -/
def execLinkFrame (r : Reception) (s : State) : Host.Outcome State Fault Refusal :=
  takeEvent (fun t => t.receive .up .linkFrame r State.linkFrame) s

/-- MANAGE_FRAME. -/
def execManageFrame (r : Reception) (s : State) : Host.Outcome State Fault Refusal :=
  takeEvent (fun t => t.receive .up .manageFrame r State.manageFrame) s

/-- UP_LIMIT_SCREEN. -/
def execUpLimitScreen (r : Reception) (s : State) : Host.Outcome State Fault Refusal :=
  takeEvent (fun t => t.receive .up .upLimitScreen r State.screenLimit) s

/-- FORWARD_UP. -/
def execForwardUp (r : Reception) (s : State) : Host.Outcome State Fault Refusal :=
  takeEvent (fun t => t.receive .down .forwardUp r State.forwardUpFrame) s

/-- FORWARD_DOWN. -/
def execForwardDown (r : Reception) (s : State) : Host.Outcome State Fault Refusal :=
  takeEvent (fun t => t.receive .up .forwardDown r State.forwardDownFrame) s

/-- OWN_ADDRESS_DROP (R151, R152).  DESIGN CHOICE: a SAMPLE of a known station that is sent to the own address is counted and leaves the
forward count of the station's entry as it is (log entry 43). -/
def execOwnAddressDrop (p : Port) (r : Reception) (s : State) : Host.Outcome State Fault Refusal :=
  takeEvent (fun t => t.receive p .ownAddressDrop r fun _ => State.countOwnDrop) s

/-- OWN_SOURCE_DISCARD (R151, R186).  DESIGN CHOICE: a SAMPLE whose source is the own address leaves the forward count as it is also where
a station entry holds that address (log entry 43). -/
def execOwnSourceDiscard (p : Port) (r : Reception) (s : State) : Host.Outcome State Fault Refusal :=
  takeEvent (fun t => t.receive p .ownSourceDiscard r fun _ => id) s

/-- TRANSMIT_START. -/
def execTransmitStart (p : Port) (s : State) : Host.Outcome State Fault Refusal :=
  takeEvent (fun t => t.startTransmission p) s

/-- FRAME_TRANSMIT_END. -/
def execFrameTransmitEnd (p : Port) (s : State) : Host.Outcome State Fault Refusal :=
  takeEvent (fun t => t.endTransmission p) s

/-- RECEIVER_IDLE_PERIOD. -/
def execReceiverIdlePeriod (p : Port) (s : State) : Host.Outcome State Fault Refusal :=
  takeEvent (fun t => t.receiverReady p) s

end Sys2Proof.Machine
end

