-- ==== Sys2Proof/Machine/Services.lean ====
section
/-! DEFINITION. The commands that stand for the services of the Management Responder: one for each row of the table. -/

namespace Sys2Proof.Machine

/-- READ. -/
def execRead (s : State) : Host.Outcome State Fault Refusal := takeEvent State.serveRead s

/-- SITE_WRITE. -/
def execSiteWrite (s : State) : Host.Outcome State Fault Refusal :=
  takeEvent (State.serve .siteWrite (checked State.writeSite)) s

/-- STATION_WRITE. -/
def execStationWrite (s : State) : Host.Outcome State Fault Refusal :=
  takeEvent (State.serve .stationWrite (checked State.writeStation)) s

/-- BAY_WRITE. -/
def execBayWrite (s : State) : Host.Outcome State Fault Refusal :=
  takeEvent (State.serve .bayWrite (checked State.writeBay)) s

/-- TARIFF_WRITE. -/
def execTariffWrite (s : State) : Host.Outcome State Fault Refusal :=
  takeEvent (State.serve .tariffWrite (checked State.writeTariff)) s

/-- BATTERY_WRITE. -/
def execBatteryWrite (s : State) : Host.Outcome State Fault Refusal :=
  takeEvent (State.serve .batteryWrite (checked State.writeBattery)) s

/-- CANOPY_WRITE. -/
def execCanopyWrite (s : State) : Host.Outcome State Fault Refusal :=
  takeEvent (State.serve .canopyWrite (checked State.writeCanopy)) s

/-- EVENT_MASK_WRITE. -/
def execEventMaskWrite (s : State) : Host.Outcome State Fault Refusal :=
  takeEvent (State.serve .eventMaskWrite (checked State.writeEventMask)) s

/-- SET_CLOCK. -/
def execSetClock (s : State) : Host.Outcome State Fault Refusal :=
  takeEvent (State.serve .setClock (checked commandSetClock)) s

/-- RESTART. -/
def execRestart (s : State) : Host.Outcome State Fault Refusal :=
  takeEvent (State.serve .restart restartWork) s

/-- RESUME. -/
def execResume (s : State) : Host.Outcome State Fault Refusal :=
  takeEvent (State.serve .resume (checked fun _ => State.resume)) s

/-- SHED_CLEAR. -/
def execShedClear (s : State) : Host.Outcome State Fault Refusal :=
  takeEvent (State.serve .shedClear (checked fun _ => State.shedClear)) s

/-- TOPUP. -/
def execTopUp (s : State) : Host.Outcome State Fault Refusal :=
  takeEvent (State.serve .topUp (checked fun _ => State.topUp)) s

/-- FORCE_CLOSE. -/
def execForceClose (s : State) : Host.Outcome State Fault Refusal :=
  takeEvent (State.serve .forceClose (checked commandForceClose)) s

/-- RELEASE_RECEIPT. -/
def execReleaseReceipt (s : State) : Host.Outcome State Fault Refusal :=
  takeEvent (State.serve .releaseReceipt (checked commandRelease)) s

/-- CLEAR_EVENTS. -/
def execClearEvents (s : State) : Host.Outcome State Fault Refusal :=
  takeEvent (State.serve .clearEvents (checked commandClearEvents)) s

/-- CLEAR_COUNTERS. -/
def execClearCounters (s : State) : Host.Outcome State Fault Refusal :=
  takeEvent (State.serve .clearCounters (checked commandClearCounters)) s

/-- UNKNOWN_COMMAND. -/
def execUnknownCommand (s : State) : Host.Outcome State Fault Refusal :=
  takeEvent (State.serve .unknownCommand unknownWork) s

/-- BAD_TABLE_WRITE. -/
def execBadTableWrite (s : State) : Host.Outcome State Fault Refusal :=
  takeEvent (State.serve .badTableWrite badTableWork) s

end Sys2Proof.Machine
end

