-- ==== Sys2Proof/Machine/Timers.lean ====
section
/-! DEFINITION. The commands that stand for the control pins, the seconds of uptime, the expiries and the publications. -/

namespace Sys2Proof.Machine

/-! ### Pins and records -/

/-- SHED_PIN_LEVEL (R35, R36, R38). -/
def execShedPinLevel (high : Bool) (s : State) : Host.Outcome State Fault Refusal :=
  takeEvent (fun t => t.setShed (t.siu.shed.take t.mr.site.shedSense high)) s

/-- ISLAND_PIN_LEVEL (R35, R36, R40). -/
def execIslandPinLevel (high : Bool) (s : State) : Host.Outcome State Fault Refusal :=
  takeEvent (fun t => t.setIsland (t.siu.island.take t.mr.site.islandSense high)) s

/-- METERING_TICK (R107, R108). -/
def execMeteringTick (s : State) : Host.Outcome State Fault Refusal := takeEvent State.second s

/-- MEASURE_AGE_TICK (R31). -/
def execMeasureAgeTick (s : State) : Host.Outcome State Fault Refusal := takeEvent State.ageRecords s

/-- RECORD_STALE (R32). -/
def execRecordStale (pos : Position) (s : State) : Host.Outcome State Fault Refusal :=
  takeEvent (fun t => t.turnStale pos) s

/-! ### Session timers and links -/

/-- The silence timer of a bay, where it has expired (R11). -/
def State.silenceExpiry (s : State) (b : BayNo) : State :=
  match (s.bay b).session.state with
  | .connected | .active => if s.timerExpired b s.mr.site.silenceTimeout then s.goSilent b else s
  | .vacant | .silent | .closing | .held | .disabled => s

/-- The silent-close timer of a bay, where it has expired: finalisation with end reason SILENT (R12). -/
def State.silentCloseExpiry (s : State) (b : BayNo) : State :=
  match (s.bay b).session.state with
  | .silent => if s.timerExpired b s.mr.site.silentClose then s.finalise b .silent none else s
  | .vacant | .connected | .active | .closing | .held | .disabled => s

/-- The close-hold timer of a bay, where it has expired: finalisation with the end reason that the bay holds (R13). -/
def State.closeHoldExpiry (s : State) (b : BayNo) : State :=
  match (s.bay b).session.state with
  | .closing =>
    if s.timerExpired b s.mr.site.closeHold then s.finalise b ((s.bay b).session.endReason.getD .unplugged) none else s
  | .vacant | .connected | .active | .silent | .held | .disabled => s

/-- Whether the pending entry of a bay has expired: its lifetime, read now, had been reached at the last second of uptime (R24). -/
def State.linkExpired (s : State) (b : BayNo) : Bool :=
  s.links.any fun e => e.bay == b && e.due && decide (s.mr.site.linkLifetime ≤ elapsed s.now e.stored)

/-- SILENCE_EXPIRY. -/
def execSilenceExpiry (b : BayNo) (s : State) : Host.Outcome State Fault Refusal :=
  takeEvent (fun t => t.silenceExpiry b) s

/-- SILENT_CLOSE_EXPIRY. -/
def execSilentCloseExpiry (b : BayNo) (s : State) : Host.Outcome State Fault Refusal :=
  takeEvent (fun t => t.silentCloseExpiry b) s

/-- CLOSE_HOLD_EXPIRY. -/
def execCloseHoldExpiry (b : BayNo) (s : State) : Host.Outcome State Fault Refusal :=
  takeEvent (fun t => t.closeHoldExpiry b) s

/-- PENDING_LINK_EXPIRY. -/
def execPendingLinkExpiry (b : BayNo) (s : State) : Host.Outcome State Fault Refusal :=
  takeEvent (fun t => if t.linkExpired b then t.expireLink b else t) s

/-! ### Passes, guards and dwell timers -/

/-- Whether the AE's pass timer has expired with no pass in flight (R45). -/
def State.allocDue (s : State) : Bool := s.ae.timer.due && s.ae.pass.isNone

/-- Whether CC's pass timer has expired with no pass in flight (R94). -/
def State.canopyDue (s : State) : Bool := s.cc.timer.due && s.cc.pass.isNone

/-- Whether the dwell timer of a class runs and has reached its last second (R54, R55). -/
def State.dwellDue (s : State) (k : ClassNo) : Bool := s.ae.dwells[k].running && s.ae.dwells[k].timer.due

/-- ALLOCATION_PASS_START (R45). -/
def execAllocationPassStart (s : State) : Host.Outcome State Fault Refusal :=
  takeEvent (fun t => if t.allocDue then t.startPass else t) s

/-- PUBLICATION (R66). -/
def execPublication (s : State) : Host.Outcome State Fault Refusal :=
  takeEvent (fun t => match t.ae.pass with | some p => t.publish p | none => t) s

/-- GUARD_EXPIRY (R59). -/
def execGuardExpiry (b : BayNo) (s : State) : Host.Outcome State Fault Refusal :=
  takeEvent (fun t => if (t.bay b).alloc.guard.due then t.expireGuard b else t) s

/-- DWELL_EXPIRY (R55). -/
def execDwellExpiry (k : ClassNo) (s : State) : Host.Outcome State Fault Refusal :=
  takeEvent (fun t => if t.dwellDue k then t.expireDwell k else t) s

/-- CANOPY_PASS_START (R94). -/
def execCanopyPassStart (s : State) : Host.Outcome State Fault Refusal :=
  takeEvent (fun t => if t.canopyDue then t.startCanopyPass else t) s

/-- CANOPY_PUBLICATION (R100). -/
def execCanopyPublication (s : State) : Host.Outcome State Fault Refusal :=
  takeEvent (fun t => match t.cc.pass with | some p => t.publishCanopy p | none => t) s

end Sys2Proof.Machine
end

