-- ==== Sys2Proof/Machine/Dispatch.lean ====
section
/-! DEFINITION. The meaning of each command, one arm per row of the opcode table. -/

namespace Sys2Proof.Machine

def exec (i : Instr) (s : State) : Host.Outcome State Fault Refusal :=
  match i with
  | .frameError port r => Sys2Proof.Machine.execFrameError port r s
  | .sampleFrame r => Sys2Proof.Machine.execSampleFrame r s
  | .demandFrame r => Sys2Proof.Machine.execDemandFrame r s
  | .linkFrame r => Sys2Proof.Machine.execLinkFrame r s
  | .manageFrame r => Sys2Proof.Machine.execManageFrame r s
  | .upLimitScreen r => Sys2Proof.Machine.execUpLimitScreen r s
  | .forwardUp r => Sys2Proof.Machine.execForwardUp r s
  | .forwardDown r => Sys2Proof.Machine.execForwardDown r s
  | .ownAddressDrop port r => Sys2Proof.Machine.execOwnAddressDrop port r s
  | .ownSourceDiscard port r => Sys2Proof.Machine.execOwnSourceDiscard port r s
  | .transmitStart port => Sys2Proof.Machine.execTransmitStart port s
  | .read => Sys2Proof.Machine.execRead s
  | .siteWrite => Sys2Proof.Machine.execSiteWrite s
  | .stationWrite => Sys2Proof.Machine.execStationWrite s
  | .bayWrite => Sys2Proof.Machine.execBayWrite s
  | .tariffWrite => Sys2Proof.Machine.execTariffWrite s
  | .batteryWrite => Sys2Proof.Machine.execBatteryWrite s
  | .canopyWrite => Sys2Proof.Machine.execCanopyWrite s
  | .eventMaskWrite => Sys2Proof.Machine.execEventMaskWrite s
  | .setClock => Sys2Proof.Machine.execSetClock s
  | .restart => Sys2Proof.Machine.execRestart s
  | .resume => Sys2Proof.Machine.execResume s
  | .shedClear => Sys2Proof.Machine.execShedClear s
  | .topUp => Sys2Proof.Machine.execTopUp s
  | .forceClose => Sys2Proof.Machine.execForceClose s
  | .releaseReceipt => Sys2Proof.Machine.execReleaseReceipt s
  | .clearEvents => Sys2Proof.Machine.execClearEvents s
  | .clearCounters => Sys2Proof.Machine.execClearCounters s
  | .unknownCommand => Sys2Proof.Machine.execUnknownCommand s
  | .warmRestart cause shedHigh islandHigh => Sys2Proof.Machine.execWarmRestart cause shedHigh islandHigh s
  | .supplyLoss => Sys2Proof.Machine.execSupplyLoss s
  | .coldReset strap1 strap2 shedHigh islandHigh => Sys2Proof.Machine.execColdReset strap1 strap2 shedHigh islandHigh s
  | .shedPinLevel high => Sys2Proof.Machine.execShedPinLevel high s
  | .islandPinLevel high => Sys2Proof.Machine.execIslandPinLevel high s
  | .meteringTick => Sys2Proof.Machine.execMeteringTick s
  | .measureAgeTick => Sys2Proof.Machine.execMeasureAgeTick s
  | .recordStale pos => Sys2Proof.Machine.execRecordStale pos s
  | .silenceExpiry bay => Sys2Proof.Machine.execSilenceExpiry bay s
  | .silentCloseExpiry bay => Sys2Proof.Machine.execSilentCloseExpiry bay s
  | .closeHoldExpiry bay => Sys2Proof.Machine.execCloseHoldExpiry bay s
  | .pendingLinkExpiry bay => Sys2Proof.Machine.execPendingLinkExpiry bay s
  | .allocationPassStart => Sys2Proof.Machine.execAllocationPassStart s
  | .publication => Sys2Proof.Machine.execPublication s
  | .guardExpiry bay => Sys2Proof.Machine.execGuardExpiry bay s
  | .dwellExpiry cls => Sys2Proof.Machine.execDwellExpiry cls s
  | .canopyPassStart => Sys2Proof.Machine.execCanopyPassStart s
  | .canopyPublication => Sys2Proof.Machine.execCanopyPublication s
  | .frameTransmitEnd port => Sys2Proof.Machine.execFrameTransmitEnd port s
  | .receiverIdlePeriod port => Sys2Proof.Machine.execReceiverIdlePeriod port s
  | .resetPinReturnHigh => Sys2Proof.Machine.execResetPinReturnHigh s
  | .badTableWrite => Sys2Proof.Machine.execBadTableWrite s

end Sys2Proof.Machine
end

