-- ==== Sys2Proof/Safety.lean ====
section
/-! DEFINITION. The terms in which claims speak: the parts of State that a command may leave as they were, and the invariants that
the spec's prose promises of the whole part. -/

namespace Sys2Proof.Machine

/-! ### Frames -/

/-- The parts of State, as the frame of a command names them. -/
inductive Part where
  | commands | power | rate
  | waiting (p : Port) | queue (p : Port) | sending (p : Port)
  /-- The received, CRC error, oversize and fragment counters of a port. -/
  | counters (p : Port)
  /-- The transmit-queue drops of a port. -/
  | drops (p : Port)
  | station (pos : Position) | forwardCount (pos : Position)
  | unknownStation | ownAddressDrops | limitClamps | autoBatteryDrops
  | record (pos : Position) | shed | island | freeze
  | config (b : BayNo) | session (b : BayNo) | metering (b : BayNo)
  /-- The allocation part of a bay. -/
  | grant (b : BayNo)
  | links | held
  | rotation (k : ClassNo) | dwell (k : ClassNo) | trim | balance | allocTimer | settle | allocPass
  | batteryTable | battery
  | canopyTable
  /-- The amount K, the last target and the common cap. -/
  | curtailment
  | string (j : StringNo) | canopyTimer | canopyPass
  | uptime | clock | profiles | lastTick
  | receipts | site | requests | events | mask | plan | restart | resetPin
deriving DecidableEq, Repr

/-- The counters of a port beside its drops. -/
def PortCounters.line (c : PortCounters) : Nat × Nat × Nat × Nat := (c.received, c.crcError, c.oversize, c.fragment)

/-- Whether a part of State is the same in two states. -/
def State.same (s t : State) : Part → Prop
  | .commands => t.pending = s.pending
  | .power => t.powered = s.powered
  | .rate => t.li.rate = s.li.rate
  | .waiting p => (t.port p).waiting = (s.port p).waiting
  | .queue p => (t.port p).queue = (s.port p).queue
  | .sending p => (t.port p).sending = (s.port p).sending
  | .counters p => (t.port p).counters.line = (s.port p).counters.line
  | .drops p => (t.port p).counters.drop = (s.port p).counters.drop
  | .station pos => t.fs.stations[pos] = s.fs.stations[pos]
  | .forwardCount pos => t.fs.counts[pos] = s.fs.counts[pos]
  | .unknownStation => t.fs.unknownStation = s.fs.unknownStation
  | .ownAddressDrops => t.fs.ownAddressDrops = s.fs.ownAddressDrops
  | .limitClamps => t.fs.limitClamps = s.fs.limitClamps
  | .autoBatteryDrops => t.fs.autoBatteryDrops = s.fs.autoBatteryDrops
  | .record pos => t.siu.records[pos] = s.siu.records[pos]
  | .shed => t.siu.shed = s.siu.shed
  | .island => t.siu.island = s.siu.island
  | .freeze => t.siu.freeze = s.siu.freeze
  | .config b => (t.bay b).config = (s.bay b).config
  | .session b => (t.bay b).session = (s.bay b).session
  | .metering b => (t.bay b).metering = (s.bay b).metering
  | .grant b => (t.bay b).alloc = (s.bay b).alloc
  | .links => t.links = s.links
  | .held => t.held = s.held
  | .rotation k => t.ae.lists[k] = s.ae.lists[k]
  | .dwell k => t.ae.dwells[k] = s.ae.dwells[k]
  | .trim => t.ae.trim = s.ae.trim
  | .balance => t.ae.balance = s.ae.balance
  | .allocTimer => t.ae.timer = s.ae.timer
  | .settle => t.ae.settling = s.ae.settling ∧ t.ae.settleStart = s.ae.settleStart
  | .allocPass => t.ae.pass = s.ae.pass
  | .batteryTable => t.bd.table = s.bd.table
  | .battery => { t.bd with table := s.bd.table } = s.bd
  | .canopyTable => t.cc.table = s.cc.table
  | .curtailment => t.cc.amount = s.cc.amount ∧ t.cc.target = s.cc.target ∧ t.cc.common = s.cc.common
  | .string j => t.cc.strings[j] = s.cc.strings[j]
  | .canopyTimer => t.cc.timer = s.cc.timer
  | .canopyPass => t.cc.pass = s.cc.pass
  | .uptime => t.mu.uptime = s.mu.uptime
  | .clock => t.mu.clock = s.mu.clock
  | .profiles => t.mu.profileA = s.mu.profileA ∧ t.mu.profileB = s.mu.profileB
  | .lastTick => t.mu.lastBand = s.mu.lastBand ∧ t.mu.lastSplit = s.mu.lastSplit
  | .receipts => t.rq = s.rq
  | .site => t.mr.site = s.mr.site
  | .requests => t.mr.requests = s.mr.requests
  | .events => t.mr.events = s.mr.events
  | .mask => t.mr.mask = s.mr.mask
  | .plan => t.mr.plan = s.mr.plan
  | .restart => t.mr.restart = s.mr.restart
  | .resetPin => t.mr.resetArmed = s.mr.resetArmed

/-- Every part but those of `changed` is the same in both states. -/
def State.changesOnly (s t : State) (changed : Set Part) : Prop :=
  ∀ part, part ∉ changed → s.same t part

/-- What raising an event may change: the pending set, and the Up queue or its drops by the STATUS frame of R174. -/
def raisedParts : Set Part := {.events, .queue .up, .drops .up}

/-- What an answer of the MR changes besides the request's effect: the request queue, and the Up queue or its drops (R164). -/
def answeredParts : Set Part := {.requests, .queue .up, .drops .up}

/-- What an evaluation of BD may change: its own state, BATTERY_MODE and TOPUP_DONE with their STATUS frame, and the withdrawal from
the Down queue (R76, R79, R82). -/
def evaluatedParts : Set Part := {.battery, .queue .down} ∪ raisedParts

/-! ### What arrives and what is sent -/

/-- A frame as a receiver gathers it whole. -/
def received (f : Frame) : Reception := ⟨frameBytes f, true⟩

/-- The part runs, its receiver at a port takes bytes, and a frame is one the line can carry (8.1, R146). -/
def State.hears (s : State) (p : Port) (f : Frame) : Prop :=
  s.powered = true ∧ (s.port p).waiting = false ∧ f.payload.length ≤ 96

/-- The part runs, no restart is scheduled, and a request stands at the head of the request queue (R164, R171). -/
def State.heads (s : State) (r : Request) (rest : List Request) : Prop :=
  s.powered = true ∧ s.mr.restart = .idle ∧ s.mr.requests = r :: rest

/-- A queue takes one frame at its tail, or drops it and counts a drop where it is full (R157). -/
def State.appends (s t : State) (p : Port) (q : Queued) : Prop :=
  if (s.port p).queue.length < queueSize then
    (t.port p).queue = (s.port p).queue ++ [q] ∧ (t.port p).counters.drop = (s.port p).counters.drop
  else
    (t.port p).queue = (s.port p).queue ∧ (t.port p).counters.drop = bump (s.port p).counters.drop

/-- A queue with room takes one frame behind those that wait, and a STATUS frame of the same event may follow it; a full one stays as
it is and counts a drop (R157, R174). -/
def State.gains (s t : State) (p : Port) (q : Queued) : Prop :=
  if (s.port p).queue.length < queueSize then
    ∃ more, (t.port p).queue = (s.port p).queue ++ q :: more ∧ ∀ x ∈ more, x.origin = .status
  else
    (t.port p).queue = (s.port p).queue ∧
      ((s.port p).counters.drop < (t.port p).counters.drop ∨ 65535 ≤ (t.port p).counters.drop)

/-- The answer to a request, from the own address of `t`, where it was formed (R164). -/
def State.answerTo (t : State) (r : Request) (payload : List Byte) : Queued :=
  ⟨⟨r.source, t.mr.site.ownAddress, kindManageAnswer, payload⟩, .manageAnswer⟩

/-! ### Invariants: queues and lists -/

/-- Nothing holds more than its capacity (scope chapter; R17, R23, R122, R130, R157, R164). -/
def CapacityInv (s : State) : Prop :=
  (∀ p, (s.port p).queue.length ≤ queueSize) ∧ s.rq.receipts.length ≤ receiptSlots ∧
    s.mr.requests.length ≤ requestSlots ∧ s.links.length ≤ linkSlots ∧
    ∀ b, (s.bay b).metering.bands.length ≤ bandSlots

/-- The Down queue never holds two own GRANTs for one bay or two own LIMITs for one station (R158). -/
def OwnFramesInv (s : State) : Prop :=
  s.li.down.queue.Pairwise fun a b => replaces a b = false

/-- No frame that waits or is under transmission has a payload above 96 bytes, and no session has more than 8 band entries
(8.1, R122, R137, R180). -/
def PayloadInv (s : State) : Prop :=
  (∀ p, (∀ q ∈ (s.port p).queue, q.frame.payload.length ≤ 96) ∧
    ∀ q, (s.port p).sending = some q → q.frame.payload.length ≤ 96) ∧
    ∀ b, (s.bay b).metering.bands.length ≤ bandSlots

/-- The held list: each bay once, exactly the bays in HELD, and non-empty only while the receipt queue is full (R17). -/
def HeldInv (s : State) : Prop :=
  s.held.Nodup ∧ (∀ b, b ∈ s.held ↔ (s.bay b).session.state = .held) ∧ s.rq.receipts.length ≤ receiptSlots ∧
    (s.held ≠ [] → s.rq.receipts.length = receiptSlots)

/-- Receipt numbers run consecutively upward to the one before the next (R130). -/
def NumbersInv (s : State) : Prop :=
  s.rq.receipts.map (·.number) =
    (List.range s.rq.receipts.length).map fun i => s.rq.next - BitVec.ofNat 32 (s.rq.receipts.length - i)

/-- The pending link table: at most one entry for a bay, and none for a bay with a session that is open or held (R21, R23,
R25). -/
def LinksInv (s : State) : Prop :=
  (s.links.map (·.bay)).Nodup ∧
    ∀ e ∈ s.links, (s.bay e.bay).session.state = .vacant ∨ (s.bay e.bay).session.state = .disabled

/-- The rotation lists hold each bay once, in one list (R52). -/
def RotationInv (s : State) : Prop := s.ae.lists.toList.flatten.Nodup

/-! ### Invariants: sessions and their accounts -/

/-- What a session state implies of the session part and the enabled field (R3, R6, R10, R14, R16). -/
def Bay.sessionFits (x : Bay) : Prop :=
  (x.session.timer.isSome = x.session.state.isOpen) ∧
    (x.session.state.isOpen = true ∨ x.session.state = .held →
      x.session.startUptime.isSome ∧ x.session.startRegister.isSome ∧ x.session.figures.isSome) ∧
    (x.session.state = .closing ∨ x.session.state = .held → x.session.endReason.isSome) ∧
    (x.session.state = .held → x.session.endUptime.isSome) ∧
    (x.session.state = .active → ∃ f, x.session.figures = some f ∧ f.state = .requesting ∧ 0 < f.requested) ∧
    (x.session.state = .disabled → x.config.enabled = false) ∧
    (x.session.state = .vacant ∨ x.session.state = .connected ∨ x.session.state = .active ∨ x.session.state = .silent →
      x.config.enabled = true)

/-- Every bay's session part fits its state. -/
def SessionInv (s : State) : Prop := ∀ b, (s.bay b).sessionFits

/-- The accounts of a session agree: energy is solar, battery and grid together; the free energy is part of it; its bands, each
listed once, hold all of it (R115, R120, R121, R122). -/
def Metering.balanced (m : Metering) : Prop :=
  m.energy = m.solar + m.battery + m.grid ∧ m.free ≤ m.energy ∧
    (m.bands.map (·.joules)).sum = m.energy ∧ (m.bands.map (·.band)).Nodup ∧ m.bands.length ≤ bandSlots

/-- Every bay's accounts agree. -/
def AccountsInv (s : State) : Prop := ∀ b, (s.bay b).metering.balanced

/-- Charger figures as R4 stores them. -/
def Figures.inRange (f : Figures) : Prop :=
  f.requested ≤ f.maximum ∧ f.minimum ≤ f.maximum ∧ f.maximum ≤ 800 ∧ f.power ≤ 100000

/-- No grant exceeds 800 dA: figures, grants of a pass in flight, published grants and peak grants (R4, R51, R57, R115). -/
def CurrentsInv (s : State) : Prop :=
  (∀ b, (∀ f, (s.bay b).session.figures = some f → f.inRange) ∧ (s.bay b).config.cap ≤ 800 ∧
    (s.bay b).alloc.grant ≤ 800 ∧ (s.bay b).metering.peak ≤ 800) ∧
    ∀ p, s.ae.pass = some p → ∀ b : BayNo, p.lines[b].grant ≤ 800

/-! ### Invariants: allocation, battery, canopy -/

/-- The power that a pass in flight grants, at its own voltage and phases (R1, R65). -/
def AllocPass.power (p : AllocPass) : Nat :=
  ((List.finRange 32).map fun b : BayNo => powerOf p.lines[b].grant p.volts p.lines[b].phases).sum

/-- What is granted never exceeds the charger budget C, in a pass in flight and in the published balance (R56, R57, R61,
R65). -/
def BudgetInv (s : State) : Prop :=
  s.ae.balance.granted ≤ s.ae.balance.budget ∧ ∀ p, s.ae.pass = some p → p.power ≤ p.budget

/-- The battery mode agrees with control, freeze, band memory and top-up flag, and a mode that sends no setpoint offers nothing and
remembers none (R76, R78, R79, R80). -/
def BatteryInv (s : State) : Prop :=
  (s.bd.mode = .manual ↔ s.bd.table.control = .manual) ∧
    (s.bd.mode = .island ↔ s.bd.table.control = .auto ∧ s.siu.freeze = true) ∧
    (s.bd.topUp = true ↔ s.bd.mode = .topUp) ∧
    (s.bd.mode = .off ∨ s.bd.mode = .island → s.bd.offerBd = 0 ∧ s.bd.offerBc = 0 ∧ s.bd.sent = none)

/-- The curtailment amount stays within the enabled ratings, is 0 with export control disabled, and caps are in force only for
enabled strings while it is above 0 (R92, R98, R100). -/
def CurtailmentInv (s : State) : Prop :=
  s.cc.amount ≤ ((List.finRange 8).map fun j : StringNo =>
      if s.cc.table.strings[j].enabled then s.cc.table.strings[j].rating else 0).sum ∧
    (s.cc.table.enabled = false → s.cc.amount = 0) ∧
    ∀ j : StringNo, s.cc.amount = 0 ∨ s.cc.table.strings[j].enabled = false → s.cc.strings[j].cap = none

/-! ### Invariants: inputs, stations and tables -/

/-- What a sense implies of an input: under a level sense the latch is clear and the input follows the pin; under an edge sense it is
active while its latch is set (R35, R36). -/
def Input.fits (i : Input) : Sense → Prop
  | .levelHigh => i.latch = false ∧ i.active = i.high
  | .levelLow => i.latch = false ∧ i.active = !i.high
  | .rising | .falling => i.active = i.latch

/-- Both inputs fit their senses, and while ISLAND is active the grant freeze is set (R35, R36, R40, R41). -/
def InputsInv (s : State) : Prop :=
  s.siu.shed.fits s.mr.site.shedSense ∧ s.siu.island.fits s.mr.site.islandSense ∧
    (s.siu.island.active = true → s.siu.freeze = true)

/-- Whether stored values are those of a role (R29). -/
def Values.fit : Values → Role → Prop
  | .grid _ _, .gridMeter => True
  | .shop _, .shopMeter => True
  | .pv _ _, .pvString _ => True
  | .battery _ soc _ _, .battery => soc ≤ 1000
  | _, _ => False

/-- A measurement record stands exactly at each entry of a measuring role, with values of that role and an age up to 255
(R28, R29, R31). -/
def RecordsInv (s : State) : Prop :=
  ∀ pos : Position,
    ((s.siu.records[pos]).isSome = ((s.fs.stations[pos]).any fun e => e.role.measures)) ∧
      ∀ r e, s.siu.records[pos] = some r → s.fs.stations[pos] = some e →
        r.age ≤ 255 ∧ ∀ v, r.values = some v → v.fit e.role

/-- A station entry has an address other than the broadcast one, a divider of 1 to 16, and a forward count below it (R150,
R154). -/
def StationsInv (s : State) : Prop :=
  ∀ pos : Position, ∀ e, s.fs.stations[pos] = some e →
    e.address ≠ broadcast ∧ 1 ≤ e.divider ∧ e.divider ≤ 16 ∧ s.fs.counts[pos] < e.divider

/-- The ranges of the site table (1.3, 3.1, 7.1, R24, R31, R34, R169). -/
def SiteTable.inRange (t : SiteTable) : Prop :=
  t.ownAddress ≠ broadcast ∧ (1 ≤ t.highWater ∧ t.highWater ≤ 48) ∧ t.registerTolerance ≤ 65535 ∧
    (2 ≤ t.silenceTimeout ∧ t.silenceTimeout ≤ 60) ∧ (5 ≤ t.closeHold ∧ t.closeHold ≤ 300) ∧
    (30 ≤ t.silentClose ∧ t.silentClose ≤ 3600) ∧ (60 ≤ t.linkLifetime ∧ t.linkLifetime ≤ 7200) ∧
    (1 ≤ t.holdTime ∧ t.holdTime ≤ 60) ∧ t.assumedShop ≤ 2000000 ∧
    (1 ≤ t.allocPeriod ∧ t.allocPeriod ≤ 10) ∧ (100 ≤ t.volts ∧ t.volts ≤ 277) ∧
    t.importLimit ≤ 2000000 ∧ t.peakTarget ≤ 2000000 ∧ t.shedTarget ≤ 2000000 ∧ t.fallbackTarget ≤ 2000000 ∧
    t.margin ≤ 100000 ∧ t.trimDecay ≤ 50000 ∧ t.shedFloor ≤ 7 ∧ t.fallbackBudget ≤ 2000000 ∧
    t.restartGuard ≤ 600 ∧ (∀ k : ClassNo, t.dwell[k] ≤ 65535) ∧
    (2 ≤ t.grantRefresh ∧ t.grantRefresh ≤ 60) ∧ (2 ≤ t.settleTimeout ∧ t.settleTimeout ≤ 60)

/-- The ranges of the battery table (R73). -/
def BatteryTable.inRange (t : BatteryTable) : Prop :=
  t.chargeRating ≤ 500000 ∧ t.dischargeRating ≤ 500000 ∧ t.reserveEnter ≤ 1000 ∧ t.reserveExit ≤ 1000 ∧
    t.fullStop ≤ 1000 ∧ t.fullResume ≤ 1000 ∧ t.topUpTarget ≤ 1000 ∧ t.step ≤ 10000 ∧ 2 ≤ t.refresh ∧ t.refresh ≤ 60

/-- The ranges of the canopy table, a floor bounded by its string's rating (R92). -/
def CanopyTable.inRange (t : CanopyTable) : Prop :=
  t.limit ≤ 1000000 ∧ t.deadband ≤ 100000 ∧ (2 ≤ t.period ∧ t.period ≤ 60) ∧
    ∀ j : StringNo, t.strings[j].rating ≤ 500000 ∧ t.strings[j].floor ≤ t.strings[j].rating

/-- The ranges of a band (R111). -/
def Band.inRange (b : Band) : Prop := b.start ≤ 1439 ∧ b.gridPrice ≤ 65535 ∧ b.greenPrice ≤ 65535

/-- The ranges of a profile: 1 to 8 bands (R111). -/
def Profile.inRange (p : Profile) : Prop := p.bands.length ≤ 8 ∧ ∀ b ∈ p.bands, b.inRange

/-- Every field of every written table stays in its range (R167). -/
def TablesInv (s : State) : Prop :=
  s.mr.site.inRange ∧ s.bd.table.inRange ∧ s.cc.table.inRange ∧ s.mu.profileA.inRange ∧ s.mu.profileB.inRange ∧
    ∀ b, (s.bay b).config.cap ≤ 800

/-- Every counter of R160 stops at 65,535. -/
def CountersInv (s : State) : Prop :=
  (∀ p, (s.port p).counters.received ≤ 65535 ∧ (s.port p).counters.crcError ≤ 65535 ∧
    (s.port p).counters.oversize ≤ 65535 ∧ (s.port p).counters.fragment ≤ 65535 ∧ (s.port p).counters.drop ≤ 65535) ∧
    s.fs.unknownStation ≤ 65535 ∧ s.fs.ownAddressDrops ≤ 65535 ∧ s.fs.limitClamps ≤ 65535 ∧ s.fs.autoBatteryDrops ≤ 65535

end Sys2Proof.Machine
end

