-- ==== Sys2Proof/Certificates/Slice0/Obligations.lean ====
section
/-! DEFINITION. The statements about the part, in the order of OBLIGATIONS.json. -/

open Sys2Proof Sys2Proof.Machine

/-! ### The step and resets -/

/-- A step takes the command at the front of the queue and is `exec` of it on the state with the queue's rest; on an empty queue the
part idles (the queue is the model's: log entry 7). -/
def Obligations.StepTakesTheFrontCommand : Prop :=
  (∀ (c : Instr) (cs : List Instr) (s : State), step { s with pending := c :: cs } = exec c { s with pending := cs }) ∧
    ∀ s : State, s.pending = [] → step s = .next s

/-- Every command is taken to a next state and leaves the command queue to the step; none faults or is refused. -/
def Obligations.EveryCommandCompletes : Prop :=
  ∀ (c : Instr) (s : State), ∃ t, exec c s = .next t ∧ t.pending = s.pending

/-- The site table after a cold reset: the defaults of 9.3, 3.1, 7.1 and 1.3, and of R43 and R112. -/
def Claims.defaultSite : SiteTable where
  ownAddress := 0xF0
  managers := #v[0xFF, 0xFF, 0xFF, 0xFF]
  alertDest := 0xFF
  receiptDest := 0xFF
  maskChargerWh := true
  maskPeak := true
  maskWait := true
  maskShed := true
  maskBands := true
  registerTolerance := 100
  highWater := 40
  silenceTimeout := 10
  closeHold := 30
  silentClose := 300
  linkLifetime := 900
  holdTime := 5
  assumedShop := 60000
  shedSense := .levelHigh
  islandSense := .levelHigh
  allocPeriod := 2
  volts := 230
  importLimit := 0
  peakTarget := 0
  shedTarget := 0
  fallbackTarget := 0
  margin := 5000
  trimDecay := 1000
  shedFloor := 3
  fallbackBudget := 0
  restartGuard := 60
  dwell := #v[900, 900, 900, 900, 900, 900, 900, 900]
  grantRefresh := 10
  settleTimeout := 10
  weekend := 0b1100000

/-- The battery table after a cold reset (R73). -/
def Claims.defaultBattery : BatteryTable where
  chargeRating := 0
  dischargeRating := 0
  reserveEnter := 300
  reserveExit := 350
  fullStop := 950
  fullResume := 900
  topUpTarget := 900
  control := .auto
  step := 500
  refresh := 10

/-- The state after reset holds what the spec states for it, block by block, and meets every invariant (R26, R43, R70, R73, R90, R92,
R105, R125, R143, R162, R178).  The levels of the straps and pins in it are the model's choice (log entry 5), and no clause here rests
on them: the line rate, the inputs, the freeze, the battery mode and the pending set are those of SupplyAndResetPin; the due marks of
timers are the model's (log entry 6). -/
def Obligations.ResetState : Prop :=
  let s := State.reset
  ((∀ p, (s.port p).queue = [] ∧ (s.port p).sending = none ∧ (s.port p).waiting = true ∧
        (s.port p).counters = ⟨0, 0, 0, 0, 0⟩) ∧
      s.fs.unknownStation = 0 ∧ s.fs.ownAddressDrops = 0 ∧ s.fs.limitClamps = 0 ∧ s.fs.autoBatteryDrops = 0 ∧
      (∀ pos : Position, s.fs.stations[pos] = none ∧ s.fs.counts[pos] = 0 ∧ s.siu.records[pos] = none) ∧
      s.mr.site = Claims.defaultSite ∧ s.mr.requests = [] ∧ s.mr.mask = 0 ∧ s.mr.plan = none) ∧
    ((∀ b, (s.bay b).config = ⟨false, 0, 0⟩ ∧ (s.bay b).session.state = .disabled ∧ (s.bay b).session.id = 0 ∧
        (s.bay b).session.startTime = none ∧ (s.bay b).session.startUptime = none ∧
        (s.bay b).session.startRegister = none ∧ (s.bay b).session.finalRegister = none ∧
        (s.bay b).session.endTime = none ∧ (s.bay b).session.endUptime = none ∧ (s.bay b).session.endReason = none ∧
        (s.bay b).session.timer = none ∧ (s.bay b).session.link = none ∧ (s.bay b).session.figures = none ∧
        (s.bay b).session.restarted = false ∧ (s.bay b).session.blocked = false ∧
        (s.bay b).metering = ⟨0, 0, 0, 0, 0, [], false, 0, 0, 0⟩ ∧
        (s.bay b).alloc.outcome = .none ∧ (s.bay b).alloc.grant = 0 ∧ (s.bay b).alloc.sent = none ∧
        (s.bay b).alloc.guard.left = 0) ∧
      s.links = [] ∧ s.held = [] ∧
      (∀ k : ClassNo, s.ae.lists[k] = [] ∧ s.ae.dwells[k].mark = false ∧ s.ae.dwells[k].running = false ∧
        s.ae.dwells[k].timer.left = 900) ∧
      s.ae.trim = 0 ∧ s.ae.balance = ⟨.settle, false, false, false, 0, 0, 0, 0, 0, 0, 0, 0, 0, 0, 0, 0, 0, 0, 0⟩ ∧
      s.ae.timer.left = 2 ∧ s.ae.settling = true ∧ s.ae.settleStart = 0 ∧ s.ae.pass = none) ∧
    (s.bd.table = Claims.defaultBattery ∧ s.bd.memory = none ∧ s.bd.topUp = false ∧ s.bd.manual = 0 ∧ s.bd.sent = none ∧
      s.bd.offerBd = 0 ∧ s.bd.offerBc = 0 ∧ s.bd.lastSoc = none ∧
      s.cc.table.enabled = false ∧ s.cc.table.limit = 0 ∧ s.cc.table.deadband = 500 ∧ s.cc.table.period = 5 ∧
      (∀ j : StringNo, s.cc.table.strings[j] = ⟨false, 0, 0⟩ ∧ s.cc.strings[j].cap = none ∧
        s.cc.strings[j].sent = none ∧ s.cc.strings[j].release = false) ∧
      s.cc.amount = 0 ∧ s.cc.target = 0 ∧ s.cc.common = 0 ∧ s.cc.timer.left = 5 ∧ s.cc.pass = none) ∧
    (s.mu.uptime = 0 ∧ s.mu.clock = none ∧ (∀ profile ∈ [s.mu.profileA, s.mu.profileB],
        profile.first = ⟨0, 0, 0, false, false⟩ ∧ profile.rest = []) ∧
      s.mu.lastSplit = ⟨0, 0, 0, 0, 0, 0, 0, 0, 0, 0⟩ ∧ s.mu.lastBand = ⟨.a, 0⟩ ∧
      s.rq.receipts = [] ∧ s.rq.next = 1 ∧ s.rq.high = false) ∧
    CapacityInv s ∧ OwnFramesInv s ∧ CountersInv s ∧ PayloadInv s ∧ HeldInv s ∧ NumbersInv s ∧ LinksInv s ∧
    SessionInv s ∧ RotationInv s ∧ AccountsInv s ∧ CurrentsInv s ∧ TablesInv s ∧ BudgetInv s ∧ BatteryInv s ∧
    InputsInv s ∧ CurtailmentInv s ∧ RecordsInv s ∧ StationsInv s

/-! ### Frames -/

/-- A receiver judges good exactly the bytes that a transmitter sends for a frame of at most 96 payload bytes, and a receiver that
runs the CRC over such a frame whole ends with 0000h (R147, R148). -/
def Obligations.GoodFramesAreThoseSent : Prop :=
  (∀ (r : Reception) (f : Frame), judge r = .good f ↔ r = (received f) ∧ f.payload.length ≤ 96) ∧
    ∀ f : Frame, crc (frameBytes f) = 0

/-- The line counters of a port after one more dropped frame of a verdict. -/
def Claims.lineAfter (c : PortCounters) : Verdict → Nat × Nat × Nat × Nat
  | .oversize => (c.received, c.crcError, bump c.oversize, c.fragment)
  | .fragment => (c.received, c.crcError, c.oversize, bump c.fragment)
  | .crcError => (c.received, bump c.crcError, c.oversize, c.fragment)
  | .good _ => c.line

/-- FRAME_ERROR: which of the first three rows of R147 holds, and that the frame is counted on its port alone and LINE_ERROR is
pending. -/
def Obligations.BadFrameIsCounted : Prop :=
  ∀ (s : State) (p : Port) (r : Reception) (v : Verdict),
    s.powered = true → (s.port p).waiting = false → r.bytes ≠ [] → judge r = v → (∀ f, v ≠ .good f) →
    (v = .oversize ↔ ∃ n, r.bytes[3]? = some n ∧ 96 < n.toNat) ∧
    (v = .fragment ↔ (∀ n, r.bytes[3]? = some n → n.toNat ≤ 96) ∧
      (r.stopped = false ∨ r.bytes.length < 6 ∨ ∀ n, r.bytes[3]? = some n → r.bytes.length ≠ 6 + n.toNat)) ∧
    ∃ t, exec (.frameError p r) s = .next t ∧
      (t.port p).counters.line = Claims.lineAfter (s.port p).counters v ∧
      t.isPending .lineError = true ∧ s.changesOnly t ({.counters p} ∪ raisedParts)

/-- The Up queue after an event that forwards a frame of an entry by its forward count: the frame follows what waits where the count
was 0 and the queue has room, a full one counts a drop, and nothing but a STATUS frame is added else (R154, R157, R174). -/
def Claims.forwardedByCount (s t : State) (pos : Position) (f : Frame) : Prop :=
  let base :=
    if s.fs.counts[pos] = 0 ∧ s.li.up.queue.length < queueSize then s.li.up.queue ++ [⟨f, .forwarded⟩] else s.li.up.queue
  t.li.up.queue.take base.length = base ∧ (∀ q ∈ t.li.up.queue.drop base.length, q.origin = .status) ∧
    (s.fs.counts[pos] = 0 → queueSize ≤ s.li.up.queue.length →
      s.li.up.counters.drop < t.li.up.counters.drop ∨ 65535 ≤ t.li.up.counters.drop)

/-- A SAMPLE payload shorter than its role's format (10.2). -/
def Claims.shortSample (role : Role) (payload : List Byte) : Prop :=
  (role = .gridMeter ∧ payload.length < 8) ∨ (role = .shopMeter ∧ payload.length < 4) ∨
    ((∃ j, role = .pvString j) ∧ payload.length < 8) ∨ (role = .battery ∧ payload.length < 14)

/-- SAMPLE_FRAME from a meter or a string: the record takes the values and is fresh, the forward count moves, and the frame goes
up if the count was 0; a short SAMPLE of any measuring station is not taken, and moves the count and goes up all the same (R30, R151,
R154, R182).  The reported mark of a record is the model's (log entry 16). -/
def Obligations.SampleIsTapped : Prop :=
  (∀ (s : State) (f : Frame) (pos : Position) (e : Station) (r : MeasRecord) (v : Values),
    s.hears .down f → f.source ≠ s.own → f.dest ≠ s.own → f.kind = kindSample →
    s.stationOf f.source = some (pos, e) → e.role.measures = true → e.role ≠ .battery →
    s.siu.records[pos] = some r → readSample e.role f.payload = some v →
    ∃ t, exec (.sampleFrame (received f)) s = .next t ∧
      t.siu.records[pos] = some { r with values := some v, age := 0, reported := false } ∧
      t.fs.counts[pos] = (s.fs.counts[pos] + 1) % e.divider ∧
      (if s.fs.counts[pos] = 0 then s.appends t .up ⟨f, .forwarded⟩
        else t.li.up.queue = s.li.up.queue ∧ t.li.up.counters.drop = s.li.up.counters.drop) ∧
      t.li.down.counters.received = bump s.li.down.counters.received ∧
      s.changesOnly t {.counters .down, .record pos, .forwardCount pos, .queue .up, .drops .up}) ∧
  ∀ (s : State) (f : Frame) (pos : Position) (e : Station),
    s.hears .down f → f.source ≠ s.own → f.dest ≠ s.own → f.kind = kindSample →
    s.stationOf f.source = some (pos, e) → Claims.shortSample e.role f.payload →
    ∃ t, exec (.sampleFrame (received f)) s = .next t ∧
      t.fs.counts[pos] = (s.fs.counts[pos] + 1) % e.divider ∧
      (if s.fs.counts[pos] = 0 then s.appends t .up ⟨f, .forwarded⟩
        else t.li.up.queue = s.li.up.queue ∧ t.li.up.counters.drop = s.li.up.counters.drop) ∧
      t.li.down.counters.received = bump s.li.down.counters.received ∧
      s.changesOnly t {.counters .down, .forwardCount pos, .queue .up, .drops .up}

/-- The band memory that R75's table gives, row by row. -/
def Claims.memoryRow (t : BatteryTable) (soc : Nat) (old new : Option Memory) : Prop :=
  (soc < t.reserveEnter ∧ new = some .reserve) ∨
    (t.reserveEnter ≤ soc ∧ t.fullStop ≤ soc ∧ new = some .full) ∨
    (t.reserveEnter ≤ soc ∧ soc < t.fullStop ∧ old = some .reserve ∧ soc < t.reserveExit ∧ new = some .reserve) ∨
    (t.reserveEnter ≤ soc ∧ soc < t.fullStop ∧ old = some .full ∧ t.fullResume < soc ∧ new = some .full) ∨
    (t.reserveEnter ≤ soc ∧ soc < t.fullStop ∧ ¬(old = some .reserve ∧ soc < t.reserveExit) ∧
      ¬(old = some .full ∧ t.fullResume < soc) ∧ new = some .shave)

/-- BD after an evaluation on fresh figures: band memory by R75, mode by R76 with TOPUP ending at the target (R82), the offer by R80,
and BATTERY_MODE and TOPUP_DONE where the mode changes and a top-up is done, and at no other time (R79, R82). -/
def Claims.evaluatedOn (s t : State) (x : BatteryFigures) : Prop :=
  ∃ m, t.bd.lastSoc = some x.soc ∧ t.bd.memory = some m ∧
    Claims.memoryRow s.bd.table x.soc s.bd.memory (some m) ∧
    (s.bd.table.control = .manual →
      t.bd.mode = .manual ∧ t.bd.offerBd = s.bd.manual.toNat ∧ t.bd.offerBc = 0) ∧
    (s.bd.table.control = .auto → s.siu.freeze = true →
      t.bd.mode = .island ∧ t.bd.topUp = false ∧ t.bd.offerBd = 0 ∧ t.bd.offerBc = 0 ∧ t.bd.sent = none) ∧
    (s.bd.table.control = .auto → s.siu.freeze = false → s.bd.topUp = true → x.soc < s.bd.table.topUpTarget →
      t.bd.mode = .topUp ∧ t.bd.offerBd = 0 ∧ t.bd.offerBc = min s.bd.table.chargeRating x.charge) ∧
    (s.bd.table.control = .auto →
      t.bd.topUp = (s.bd.topUp && !s.siu.freeze && decide (x.soc < s.bd.table.topUpTarget)) ∧
      t.isPending .topUpDone =
        (s.isPending .topUpDone || (s.bd.topUp && !s.siu.freeze && decide (s.bd.table.topUpTarget ≤ x.soc)))) ∧
    (s.bd.table.control = .auto → s.siu.freeze = false → s.bd.topUp = false ∨ s.bd.table.topUpTarget ≤ x.soc →
      (m = .reserve → t.bd.mode = .reserve ∧ t.bd.offerBd = 0 ∧ t.bd.offerBc = min s.bd.table.chargeRating x.charge) ∧
      (m = .shave → t.bd.mode = .shave ∧ t.bd.offerBd = min s.bd.table.dischargeRating x.discharge ∧
        t.bd.offerBc = min s.bd.table.chargeRating x.charge) ∧
      (m = .full → t.bd.mode = .full ∧ t.bd.offerBd = min s.bd.table.dischargeRating x.discharge ∧ t.bd.offerBc = 0)) ∧
    t.isPending .batteryMode = (s.isPending .batteryMode || decide (t.bd.mode ≠ s.bd.mode))

/-- BD after an evaluation that finds the figures stale (R76, R77, R79). -/
def Claims.evaluatedStale (s t : State) : Prop :=
  t.bd.memory = none ∧ t.bd.topUp = false ∧ t.bd.lastSoc = s.bd.lastSoc ∧
    (s.bd.table.control = .manual →
      t.bd.mode = .manual ∧ t.bd.offerBd = s.bd.manual.toNat ∧ t.bd.offerBc = 0) ∧
    (s.bd.table.control = .auto →
      t.bd.mode = (if s.siu.freeze then .island else .off) ∧ t.bd.offerBd = 0 ∧ t.bd.offerBc = 0 ∧ t.bd.sent = none) ∧
    t.isPending .topUpDone = s.isPending .topUpDone ∧
    t.isPending .batteryMode = (s.isPending .batteryMode || decide (t.bd.mode ≠ s.bd.mode))

/-- What an evaluation leaves where no setpoint is queued in its event: the manual setpoint as it was, the last setpoint sent absent
in OFF and ISLAND and else as it was (R77, R78), and, where it entered a mode that withdraws, no LIMIT to `addresses` in the Down
queue, which is else as it was (R79). -/
def Claims.setpointsKept (s t : State) (addresses : List Byte) : Prop :=
  t.bd.manual = s.bd.manual ∧
    t.bd.sent = (if t.bd.mode = .off ∨ t.bd.mode = .island then none else s.bd.sent) ∧
    t.li.down.queue =
      (if t.bd.mode ≠ s.bd.mode ∧ (t.bd.mode = .reserve ∨ t.bd.mode = .topUp ∨ t.bd.mode = .island ∨ t.bd.mode = .off) then
        s.li.down.queue.filter fun q => !decide (q.frame.kind = kindLimit ∧ q.frame.dest ∈ addresses)
      else s.li.down.queue)

/-- BD has evaluated on the tables, records and freeze of `s`, with fresh figures or without, and withdrawn on entry from the battery
station's address and from `also` (R75 to R80, R82). -/
def Claims.evaluates (s t : State) (also : List Byte) : Prop :=
  (∀ x, s.batteryFigures = some x → Claims.evaluatedOn s t x) ∧ (s.batteryFigures = none → Claims.evaluatedStale s t) ∧
    Claims.setpointsKept s t (s.batteryAddress.toList ++ also)

/-- SAMPLE_FRAME from the battery: the record is fresh, the frame goes up by its forward count, and BD evaluates on the sample; one
from a BATTERY entry at a higher position makes its own record fresh, and BD evaluates on the figures of the entry at the lowest
(R30, R34, R75 to R80, R82, R154).  The reported mark of a record is the model's (log entry 16), and that a STATUS frame of the event
follows the forwarded frame is read from R174 (log entry 17). -/
def Obligations.BatterySampleEvaluates : Prop :=
  ∀ (s : State) (f : Frame) (pos : Position) (e : Station) (r : MeasRecord) (power : Int) (soc charge discharge : Nat),
    s.hears .down f → f.source ≠ s.own → f.dest ≠ s.own → f.kind = kindSample →
    s.stationOf f.source = some (pos, e) → e.role = .battery →
    s.siu.records[pos] = some r → readSample .battery f.payload = some (.battery power soc charge discharge) →
    ∃ t, exec (.sampleFrame (received f)) s = .next t ∧
      t.siu.records[pos] = some { r with values := some (.battery power soc charge discharge), age := 0, reported := false } ∧
      t.fs.counts[pos] = (s.fs.counts[pos] + 1) % e.divider ∧ Claims.forwardedByCount s t pos f ∧
      (s.stationFor .battery = some (pos, e) →
        Claims.evaluatedOn s t ⟨power, soc, charge, discharge⟩ ∧ Claims.setpointsKept s t [e.address]) ∧
      (s.stationFor .battery ≠ some (pos, e) → Claims.evaluates s t []) ∧
      s.changesOnly t
        ({.counters .down, .record pos, .forwardCount pos, .queue .up, .drops .up} ∪ evaluatedParts)

/-- What every DEMAND statement assumes of the frame: a good DEMAND at the Down port from the CHARGER station of bay `b`, whose
figures are taken as `g` (R4, R151). -/
def Claims.demandOf (s : State) (f : Frame) (b : BayNo) (g : Figures) : Prop :=
  s.hears .down f ∧ f.source ≠ s.own ∧ f.dest ≠ s.own ∧ f.kind = kindDemand ∧
    (∃ pos e, s.stationOf f.source = some (pos, e) ∧ e.role = .charger b) ∧ readDemand f.payload s.now = some g

/-- A DEMAND of CONNECTED or REQUESTING at a VACANT bay opens a session: every field of R6, the metering part of R116, and the
pending link of the bay consumed (R25, R22); the frame goes up.  The due mark of its timer is the model's (log entry 10). -/
def Obligations.DemandOpensSession : Prop :=
  ∀ (s : State) (f : Frame) (b : BayNo) (g : Figures),
    Claims.demandOf s f b g → (s.bay b).session.state = .vacant → g.state = .connected ∨ g.state = .requesting →
    ∃ t, exec (.demandFrame (received f)) s = .next t ∧
      (t.bay b).session =
        { state := if g.state = .requesting ∧ 0 < g.requested then .active else .connected
          id := (s.bay b).session.id + 1
          startTime := s.mu.clock
          startUptime := some s.mu.uptime
          startRegister := some g.register
          finalRegister := none
          endTime := none
          endUptime := none
          endReason := none
          timer := some ⟨s.mu.uptime, false⟩
          link := (s.links.find? fun e => e.bay = b).map fun e => ⟨e.token, e.allowance, e.allowance * 3600⟩
          restarted := false
          blocked := false
          figures := some g } ∧
      (t.bay b).metering = ⟨0, 0, 0, 0, 0, [⟨s.bandRef, 0, 0⟩], false, 0, 0, 0⟩ ∧
      t.links = s.links.filter (fun e => e.bay ≠ b) ∧ s.appends t .up ⟨f, .forwarded⟩ ∧
      s.changesOnly t {.counters .down, .session b, .metering b, .links, .queue .up, .drops .up}

/-- The session part that a DEMAND leaves where no session opens or ends: the rows of R7, R8 and R9 that keep the session open, and
the bays where only the figures follow (R4, R5). -/
def Claims.sessionAfterDemand (now : Uptime) (x : Session) (g : Figures) (y : Session) : Prop :=
  let running := x.state = .connected ∨ x.state = .active ∨ x.state = .silent
  let plugged := g.state = .connected ∨ g.state = .requesting
  (running ∧ plugged ∧
      y = { x with
        figures := some g, timer := some ⟨now, false⟩
        state := if g.state = .requesting ∧ 0 < g.requested then .active else .connected }) ∨
    (running ∧ g.state = .ending ∧
      y = { x with figures := some g, timer := some ⟨now, false⟩, state := .closing, endReason := some .unplugged }) ∨
    (x.state = .closing ∧ (plugged ∨ g.state = .ending) ∧ y = { x with figures := some g }) ∨
    (x.state = .vacant ∧ ¬plugged ∧ y = { x with figures := some g }) ∨
    (x.state = .disabled ∧ y = { x with figures := some g })

/-- A DEMAND that neither opens nor ends a session (R4, R5, R7, R8, R9).  The due mark of its timer is the model's (log entry
10). -/
def Obligations.DemandKeepsSession : Prop :=
  ∀ (s : State) (f : Frame) (b : BayNo) (g : Figures) (y : Session),
    Claims.demandOf s f b g → Claims.sessionAfterDemand s.mu.uptime (s.bay b).session g y →
    ∃ t, exec (.demandFrame (received f)) s = .next t ∧ (t.bay b).session = y ∧
      s.appends t .up ⟨f, .forwarded⟩ ∧ s.changesOnly t {.counters .down, .session b, .queue .up, .drops .up}

/-- The end reason with which a DEMAND finalises an open session (R7, R8, R9). -/
def Claims.endsWith (x : Session) (g : Figures) (reason : EndReason) : Prop :=
  let running := x.state = .connected ∨ x.state = .active ∨ x.state = .silent
  (running ∧ g.state = .ended ∧ reason = .unplugged) ∨ (running ∧ g.state = .available ∧ reason = .vehicleLeft) ∨
    (running ∧ g.state = .fault ∧ reason = .chargerFault) ∨
    (x.state = .closing ∧ (g.state = .ended ∨ g.state = .available) ∧ x.endReason = some reason) ∨
    (x.state = .closing ∧ g.state = .fault ∧ reason = .chargerFault)

/-- The Up queue after the RECEIPT frames of one receipt, and then the last frame of its event, are offered to it (R137, R157). -/
def Claims.withFrames (queue frames : List Queued) (last : Option Queued) : List Queued :=
  let base := if queue.length + frames.length ≤ queueSize then queue ++ frames else queue
  match last with
  | some q => if base.length < queueSize then base ++ [q] else base
  | none => base

/-- The RECEIPT frames of a receipt: part 1, and part 2 where the receipt field mask has the band list (R136, R137).  The bits that
its flag bytes do not name are the model's choice (log entry 48). -/
def Claims.receiptFrames (s : State) (n : Receipt) : List Queued :=
  (receiptPart1 n :: if s.mr.site.maskBands then [receiptPart2 n] else []).map
    fun part => ⟨⟨s.mr.site.receiptDest, s.own, kindReceipt, part⟩, .receipt⟩

/-- A receipt is queued: its frames stand in the Up queue, all or none, before the last frame of its event; each that finds no room is
counted as a drop; and nothing but a STATUS frame is added else (R137, R157, R174). -/
def Claims.receiptQueued (s t : State) (n : Receipt) (last : Option Queued) : Prop :=
  let frames := Claims.receiptFrames s n
  let base := Claims.withFrames s.li.up.queue frames last
  let lost := s.li.up.queue.length + frames.length + last.toList.length - base.length
  t.li.up.queue.take base.length = base ∧ (∀ q ∈ t.li.up.queue.drop base.length, q.origin = .status) ∧
    (s.li.up.counters.drop + lost ≤ t.li.up.counters.drop ∨ 65535 ≤ t.li.up.counters.drop)

/-- RECEIPT_HIGH is raised where the high condition goes from clear to set, and at no other time (R141). -/
def Claims.highRaised (s t : State) : Prop :=
  t.isPending .receiptHigh = (s.isPending .receiptHigh || (t.rq.high && !s.rq.high))

/-- `n` is the receipt of a finalised session `x` of bay `b`: identity and times (R130, R131), energies (R132), band list and amount
(R133), the register comparison (R134), flags (R135) and field mask (R136), from the session and the bay's metering part. -/
def Claims.receiptOf (s : State) (b : BayNo) (x : Session) (n : Receipt) : Prop :=
  let m := (s.bay b).metering
  (n.number = s.rq.next ∧ n.bay = b ∧ n.sessionId = x.id ∧ (∀ reason, x.endReason = some reason → n.endReason = reason) ∧
      n.startTime = x.startTime ∧ n.endTime = x.endTime ∧
      (∀ start stop, x.startUptime = some start → x.endUptime = some stop → n.duration = stop - start)) ∧
    (n.solarWh = (m.solar + 1800) / 3600 ∧ n.batteryWh = (m.battery + 1800) / 3600 ∧ n.gridWh = (m.grid + 1800) / 3600 ∧
      n.energyWh = n.solarWh + n.batteryWh + n.gridWh ∧ n.freeWh = min ((m.free + 1800) / 3600) n.energyWh) ∧
    n.bands = m.bands.map (fun e => ⟨e.band, (e.joules + 1800) / 3600, (e.cost + 18000000) / 36000000⟩) ∧
    n.amount = (n.bands.map (·.amount)).sum ∧
    (x.finalRegister = none → n.chargerWh = none ∧ n.registerMismatch = false) ∧
    (∀ start final, x.startRegister = some start → x.finalRegister = some final →
      n.chargerWh = some (final - start) ∧
      n.registerMismatch = decide (s.mr.site.registerTolerance < (((final - start).toNat : Int) - n.energyWh).natAbs)) ∧
    n.estimated = x.finalRegister.isNone ∧ n.clockUnset = (x.startTime.isNone || x.endTime.isNone) ∧
    n.bandMerged = m.merged ∧ n.restarted = x.restarted ∧ n.peak = m.peak ∧ n.wait = m.wait ∧ n.shed = m.shed ∧
    n.token = x.link.map (·.token) ∧
    (List.range 6).map n.mask.getLsbD =
      [x.link.isSome, s.mr.site.maskChargerWh && x.finalRegister.isSome, s.mr.site.maskPeak, s.mr.site.maskWait,
        s.mr.site.maskShed, s.mr.site.maskBands]

/-- A DEMAND that ends a session while the receipt queue has room: one receipt is built at the tail with the next number, its
figures are those of the session, its flags and its field mask those of R134 to R136, and its frames stand in the Up queue before
the DEMAND, all or none, each part that finds no room counted as a drop; RECEIPT_HIGH is raised where the high condition goes from
clear to set (R14, R129 to R137, R141, R157). That a STATUS frame of the event comes last is read from R174 (log entry 17). -/
def Obligations.DemandBuildsReceipt : Prop :=
  ∀ (s : State) (f : Frame) (b : BayNo) (g : Figures) (reason : EndReason),
    Claims.demandOf s f b g → Claims.endsWith (s.bay b).session g reason → s.rq.receipts.length < receiptSlots →
    ∃ t n, exec (.demandFrame (received f)) s = .next t ∧
      t.rq.receipts = s.rq.receipts ++ [n] ∧ t.rq.next = s.rq.next + 1 ∧
      t.rq.high = decide (s.mr.site.highWater ≤ s.rq.receipts.length + 1) ∧
      Claims.receiptOf s b
        { (s.bay b).session with
          endReason := some reason, endTime := s.mu.clock, endUptime := some s.mu.uptime
          finalRegister := if g.state = .ended then some g.register else none } n ∧
      Claims.receiptQueued s t n (some ⟨f, .forwarded⟩) ∧ Claims.highRaised s t ∧
      (t.bay b).session.state = (if (s.bay b).config.enabled then .vacant else .disabled) ∧
      (t.bay b).session.endReason = some reason ∧ (t.bay b).session.endUptime = some s.mu.uptime ∧
      (t.bay b).session.finalRegister = (if g.state = .ended then some g.register else none) ∧
      (t.bay b).session.timer = none ∧
      s.changesOnly t ({.counters .down, .session b, .receipts} ∪ raisedParts)

/-- A DEMAND that ends a session while the receipt queue holds 48 receipts: the bay is HELD at the tail of the held list, no receipt
is built and RECEIPT_HELD is pending (R14, R17, R129). -/
def Obligations.DemandHoldsSession : Prop :=
  ∀ (s : State) (f : Frame) (b : BayNo) (g : Figures) (reason : EndReason),
    Claims.demandOf s f b g → Claims.endsWith (s.bay b).session g reason → receiptSlots ≤ s.rq.receipts.length →
    ∃ t, exec (.demandFrame (received f)) s = .next t ∧
      (t.bay b).session.state = .held ∧ (t.bay b).session.endReason = some reason ∧
      (t.bay b).session.endUptime = some s.mu.uptime ∧ (t.bay b).session.blocked = false ∧
      t.held = s.held ++ [b] ∧ t.isPending .receiptHeld = true ∧
      s.changesOnly t ({.counters .down, .session b, .held} ∪ raisedParts)

/-- A DEMAND at a HELD bay moves the blocked-plug flag, and the flag's setting queues a GRANT of 0 with outcome NONE, once, to the
bay's charger (R18). -/
def Obligations.DemandAtHeldBay : Prop :=
  ∀ (s : State) (f : Frame) (b : BayNo) (g : Figures),
    Claims.demandOf s f b g → (s.bay b).session.state = .held →
    ∃ t, exec (.demandFrame (received f)) s = .next t ∧
      (t.bay b).session =
        { (s.bay b).session with
          figures := some g, blocked := decide (g.state = .connected ∨ g.state = .requesting) } ∧
      s.appends t .up ⟨f, .forwarded⟩ ∧
      ((s.bay b).session.blocked = true ∨ (t.bay b).session.blocked = false →
        t.li.down.queue = s.li.down.queue ∧ t.li.down.counters.drop = s.li.down.counters.drop) ∧
      ((s.bay b).session.blocked = false → (t.bay b).session.blocked = true → s.li.down.queue.length < queueSize →
        ∃ q ∈ t.li.down.queue, q.origin = .grant b ∧ (s.chargerOf b).map (·.2.address) = some q.frame.dest ∧
          q.frame.source = s.own ∧ q.frame.kind = kindGrant ∧
          q.frame.payload.take 4 = [BitVec.ofNat 8 b.val, 0, 0, 0]) ∧
      s.changesOnly t {.counters .down, .session b, .queue .down, .drops .down, .queue .up, .drops .up}

/-- LINK_FRAME: the outcome and the effect of each row of R21, and the LINK-ANSWER to the till (R20, R22, R23). -/
def Obligations.LinkIsAnswered : Prop :=
  ∀ (s : State) (f : Frame) (bay : Byte) (token : BitVec 64) (allowance : Nat) (extra : List Byte),
    s.hears .up f → f.source ≠ s.own → f.dest = s.own → f.kind = kindLink → allowance < 65536 →
    f.payload = bay :: (bytesOf 8 token.toNat ++ bytesOf 2 allowance) ++ extra →
    ∃ t code, exec (.linkFrame (received f)) s = .next t ∧
      s.appends t .up ⟨⟨f.source, s.own, kindLinkAnswer, [bay, code]⟩, .linkAnswer⟩ ∧
      (32 ≤ bay.toNat → code = 5 ∧ s.changesOnly t {.counters .up, .queue .up, .drops .up}) ∧
      ∀ b : BayNo, b.val = bay.toNat →
        let x := (s.bay b).session
        let running := x.state = .connected ∨ x.state = .active ∨ x.state = .silent
        let waits := x.state = .vacant ∨ x.state = .disabled
        let room := (∃ e ∈ s.links, e.bay = b) ∨ s.links.length < linkSlots
        (running → x.link = none →
          code = 0 ∧ (t.bay b).session = { x with link := some ⟨token, allowance, allowance * 3600⟩ } ∧
            s.changesOnly t {.counters .up, .session b, .queue .up, .drops .up}) ∧
        (running → x.link ≠ none → code = 1 ∧ s.changesOnly t {.counters .up, .queue .up, .drops .up}) ∧
        (x.state = .closing ∨ x.state = .held → code = 2 ∧ s.changesOnly t {.counters .up, .queue .up, .drops .up}) ∧
        (waits → room →
          code = 3 ∧
            (∃ e, t.links = s.links.filter (fun x => x.bay ≠ b) ++ [e] ∧ e.bay = b ∧ e.token = token ∧
              e.allowance = allowance ∧ e.stored = s.mu.uptime) ∧
            s.changesOnly t {.counters .up, .links, .queue .up, .drops .up}) ∧
        (waits → ¬room → code = 4 ∧ s.changesOnly t {.counters .up, .queue .up, .drops .up})

/-- MANAGE_FRAME: appended to a request queue with room, or answered BUSY with the tag and operation of the request (R164, R180). -/
def Obligations.ManageIsQueued : Prop :=
  ∀ (s : State) (f : Frame), s.hears .up f → f.source ≠ s.own → f.dest = s.own → f.kind = kindManage →
    ∃ t, exec (.manageFrame (received f)) s = .next t ∧
      (s.mr.requests.length < requestSlots →
        t.mr.requests = s.mr.requests ++ [⟨f.source, f.payload⟩] ∧ s.changesOnly t {.counters .up, .requests}) ∧
      (requestSlots ≤ s.mr.requests.length →
        s.appends t .up
          ⟨⟨f.source, s.own, kindManageAnswer, [f.payload.getD 0 0, f.payload.getD 1 0, 2]⟩, .manageAnswer⟩ ∧
        s.changesOnly t {.counters .up, .queue .up, .drops .up})

/-- The forwarded frame of a screened one: the same but for its value, `w` bytes at `off`, which now reads `v` (R155, R182). -/
def Claims.rewritten (f g : Frame) (off w : Nat) (v : Int) : Prop :=
  g.dest = f.dest ∧ g.source = f.source ∧ g.kind = f.kind ∧ g.payload.length = f.payload.length ∧
    readI g.payload off w = v ∧ g.payload.take off = f.payload.take off ∧
    g.payload.drop (off + w) = f.payload.drop (off + w)

/-- UP_LIMIT_SCREEN for a charger and for a string: the value is held to the bay's published grant (R156) or to the cap in force
(R104), counted as a LIMIT clamp where that changes it, and forwarded. -/
def Obligations.LimitIsHeld : Prop :=
  ∀ (s : State) (f : Frame) (pos : Position) (e : Station),
    s.hears .up f → f.source ≠ s.own → f.dest ≠ s.own → s.stationOf f.dest = some (pos, e) →
    (∀ (b : BayNo) (off w : Nat), e.role = .charger b →
      (f.kind = kindLimit ∧ off = 0 ∧ w = 4) ∨ (f.kind = kindGrant ∧ off = 1 ∧ w = 2) → off + w ≤ f.payload.length →
      (s.bay b).alloc.grant ≤ 800 →
      ∃ t g, exec (.upLimitScreen (received f)) s = .next t ∧
        Claims.rewritten f g off w (max 0 (min (readI f.payload off w) (s.bay b).alloc.grant)) ∧
        s.appends t .down ⟨g, .forwarded⟩ ∧
        t.fs.limitClamps =
          (if 0 ≤ readI f.payload off w ∧ readI f.payload off w ≤ (s.bay b).alloc.grant then s.fs.limitClamps
            else bump s.fs.limitClamps) ∧
        s.changesOnly t {.counters .up, .queue .down, .drops .down, .limitClamps}) ∧
    (∀ (j : StringNo) (v : Int), e.role = .pvString j → f.kind = kindLimit → 4 ≤ f.payload.length →
      (∀ c, s.cc.strings[j].cap = some c → c < 2147483648) →
      (0 < s.cc.amount ∧ s.cc.table.strings[j].enabled = true ∧
          (∃ c, s.cc.strings[j].cap = some c ∧ v = min (readI f.payload 0 4) (c : Int))) ∨
        ((s.cc.amount = 0 ∨ s.cc.table.strings[j].enabled = false ∨ s.cc.strings[j].cap = none) ∧
          v = readI f.payload 0 4) →
      ∃ t g, exec (.upLimitScreen (received f)) s = .next t ∧ Claims.rewritten f g 0 4 v ∧
        s.appends t .down ⟨g, .forwarded⟩ ∧
        t.fs.limitClamps = (if v = readI f.payload 0 4 then s.fs.limitClamps else bump s.fs.limitClamps) ∧
        s.changesOnly t {.counters .up, .queue .down, .drops .down, .limitClamps})

/-- UP_LIMIT_SCREEN for the battery: under AUTO the LIMIT is dropped and counted (R89); under MANUAL it is bounded by the ratings,
forwarded, and the manual setpoint and the offer follow it if it is taken into the queue (R88, R80). -/
def Obligations.BatteryLimit : Prop :=
  ∀ (s : State) (f : Frame) (pos : Position) (e : Station),
    s.hears .up f → f.source ≠ s.own → f.dest ≠ s.own → f.kind = kindLimit →
    s.stationOf f.dest = some (pos, e) → e.role = .battery → 4 ≤ f.payload.length → s.bd.table.inRange →
    (s.bd.table.control = .auto →
      ∃ t, exec (.upLimitScreen (received f)) s = .next t ∧ t.fs.autoBatteryDrops = bump s.fs.autoBatteryDrops ∧
        s.changesOnly t {.counters .up, .autoBatteryDrops}) ∧
    (s.bd.table.control = .manual →
      let v := max (-(s.bd.table.chargeRating : Int)) (min (readI f.payload 0 4) s.bd.table.dischargeRating)
      ∃ t g, exec (.upLimitScreen (received f)) s = .next t ∧ Claims.rewritten f g 0 4 v ∧
        s.appends t .down ⟨g, .forwarded⟩ ∧
        t.fs.limitClamps = (if v = readI f.payload 0 4 then s.fs.limitClamps else bump s.fs.limitClamps) ∧
        (s.li.down.queue.length < queueSize →
          t.bd = { s.bd with manual := v, offerBd := v.toNat, offerBc := 0 } ∧
            s.changesOnly t {.counters .up, .queue .down, .limitClamps, .battery}) ∧
        (queueSize ≤ s.li.down.queue.length → s.changesOnly t {.counters .up, .drops .down, .limitClamps}))

/-- UP_LIMIT_SCREEN for what R155 forwards unaltered, and for what is too short to be held: dropped and counted as a LIMIT clamp
(R155, R182). That a LIMIT to a meter and a GRANT to a string or the battery are taken under this row is read from the table (log
entry 35), and that a short LIMIT to the battery under AUTO moves both its counters from R89 and R182 (log entry 22). -/
def Obligations.ShortOrUnscreenedLimit : Prop :=
  ∀ (s : State) (f : Frame) (pos : Position) (e : Station),
    s.hears .up f → f.source ≠ s.own → f.dest ≠ s.own → f.kind = kindLimit ∨ f.kind = kindGrant →
    s.stationOf f.dest = some (pos, e) →
    let screened := (∃ b, e.role = .charger b) ∨
      (f.kind = kindLimit ∧ ((∃ j, e.role = .pvString j) ∨ (e.role = .battery ∧ s.bd.table.control = .manual)))
    (e.role = .gridMeter ∨ e.role = .shopMeter ∨
        (f.kind = kindGrant ∧ (e.role = .battery ∨ ∃ j, e.role = .pvString j)) →
      ∃ t, exec (.upLimitScreen (received f)) s = .next t ∧ s.appends t .down ⟨f, .forwarded⟩ ∧
        s.changesOnly t {.counters .up, .queue .down, .drops .down}) ∧
    (screened → f.payload.length < (if f.kind = kindGrant then 3 else 4) →
      ∃ t, exec (.upLimitScreen (received f)) s = .next t ∧ t.fs.limitClamps = bump s.fs.limitClamps ∧
        s.changesOnly t {.counters .up, .limitClamps}) ∧
    (f.kind = kindLimit → e.role = .battery → s.bd.table.control = .auto → f.payload.length < 4 →
      ∃ t, exec (.upLimitScreen (received f)) s = .next t ∧ t.fs.limitClamps = bump s.fs.limitClamps ∧
        t.fs.autoBatteryDrops = bump s.fs.autoBatteryDrops ∧
        s.changesOnly t {.counters .up, .limitClamps, .autoBatteryDrops})

/-- FORWARD_UP: a frame of an unknown station, counted; a frame no block taps; a SAMPLE of a charger's station by its forward count;
and, at DEMAND_FRAME, a DEMAND that is short or of an undefined charger state, which changes no bay (R151, R153, R154, R182,
R183).  That a frame of an unknown station is counted as one also where a full Up queue drops it is read from R160 (log entry 37). -/
def Obligations.UntappedFrameGoesUp : Prop :=
  ∀ (s : State) (f : Frame), s.hears .down f → f.source ≠ s.own → f.dest ≠ s.own →
    (s.stationOf f.source = none →
      ∃ t, exec (.forwardUp (received f)) s = .next t ∧ s.appends t .up ⟨f, .forwarded⟩ ∧
        t.fs.unknownStation = bump s.fs.unknownStation ∧
        s.changesOnly t {.counters .down, .unknownStation, .queue .up, .drops .up}) ∧
    ∀ pos e, s.stationOf f.source = some (pos, e) →
      (f.kind ≠ kindSample → f.kind ≠ kindDemand ∨ e.role.measures = true →
        ∃ t, exec (.forwardUp (received f)) s = .next t ∧ s.appends t .up ⟨f, .forwarded⟩ ∧
          s.changesOnly t {.counters .down, .queue .up, .drops .up}) ∧
      (f.kind = kindSample → e.role.measures = false →
        ∃ t, exec (.forwardUp (received f)) s = .next t ∧ t.fs.counts[pos] = (s.fs.counts[pos] + 1) % e.divider ∧
          (s.fs.counts[pos] = 0 → s.appends t .up ⟨f, .forwarded⟩) ∧
          (s.fs.counts[pos] ≠ 0 → t.li.up = s.li.up) ∧
          s.changesOnly t {.counters .down, .forwardCount pos, .queue .up, .drops .up}) ∧
      (f.kind = kindDemand → e.role.measures = false →
        f.payload.length < 16 ∨ (∃ c, f.payload[0]? = some c ∧ 5 < c.toNat) →
        ∃ t, exec (.demandFrame (received f)) s = .next t ∧ s.appends t .up ⟨f, .forwarded⟩ ∧
          s.changesOnly t {.counters .down, .queue .up, .drops .up})

/-- FORWARD_DOWN: a broadcast LIMIT or GRANT is dropped and counted; every other frame to a station that R155 does not screen goes
down unaltered, and no state of the part follows it (R152, R155, R161). -/
def Obligations.UnscreenedFrameGoesDown : Prop :=
  ∀ (s : State) (f : Frame), s.hears .up f → f.source ≠ s.own → f.dest ≠ s.own →
    (f.dest = 0xFF → f.kind = kindLimit ∨ f.kind = kindGrant →
      ∃ t, exec (.forwardDown (received f)) s = .next t ∧ t.fs.limitClamps = bump s.fs.limitClamps ∧
        s.changesOnly t {.counters .up, .limitClamps}) ∧
    ((f.kind ≠ kindLimit ∧ f.kind ≠ kindGrant) ∨ (f.dest ≠ 0xFF ∧ s.stationOf f.dest = none) →
      ∃ t, exec (.forwardDown (received f)) s = .next t ∧ s.appends t .down ⟨f, .forwarded⟩ ∧
        s.changesOnly t {.counters .up, .queue .down, .drops .down})

/-- OWN_SOURCE_DISCARD and OWN_ADDRESS_DROP, and a LINK too short to be taken: the frame is counted as received, a drop to the own
address is counted besides, and nothing else follows (R151, R152, R182, R186).  That a SAMPLE to or from the own address leaves the
forward count of its source's entry as it is is the model's choice (log entry 43). -/
def Obligations.OwnFramesAreAbsorbed : Prop :=
  ∀ (s : State) (p : Port) (f : Frame), s.hears p f →
    (f.source = s.own →
      ∃ t, exec (.ownSourceDiscard p (received f)) s = .next t ∧
        (t.port p).counters.received = bump (s.port p).counters.received ∧ s.changesOnly t {.counters p}) ∧
    (f.source ≠ s.own → f.dest = s.own → p = .down ∨ (f.kind ≠ kindManage ∧ f.kind ≠ kindLink) →
      ∃ t, exec (.ownAddressDrop p (received f)) s = .next t ∧ t.fs.ownAddressDrops = bump s.fs.ownAddressDrops ∧
        (t.port p).counters.received = bump (s.port p).counters.received ∧
        s.changesOnly t {.counters p, .ownAddressDrops}) ∧
    (f.source ≠ s.own → f.dest = s.own → p = .up → f.kind = kindLink → f.payload.length < 11 →
      ∃ t, exec (.linkFrame (received f)) s = .next t ∧ t.fs.ownAddressDrops = bump s.fs.ownAddressDrops ∧
        t.li.up.counters.received = bump s.li.up.counters.received ∧
        s.changesOnly t {.counters .up, .ownAddressDrops})

/-- TRANSMIT_START takes the head frame of a queue, FRAME_TRANSMIT_END leaves the transmitter idle, and RECEIVER_IDLE_PERIOD
ends a receiver's wait (R146, R149).  The phase of a restart is the model's (log entry 14). -/
def Obligations.Transmission : Prop :=
  ∀ (s : State) (p : Port), s.powered = true →
    (∀ q rest, (s.port p).sending = none → (s.port p).queue = q :: rest →
      ∃ t, exec (.transmitStart p) s = .next t ∧ (t.port p).sending = some q ∧ (t.port p).queue = rest ∧
        s.changesOnly t {.queue p, .sending p}) ∧
    (∀ q, (s.port p).sending = some q →
      ∃ t, exec (.frameTransmitEnd p) s = .next t ∧ (t.port p).sending = none ∧
        t.mr.restart = (if q.origin = .restartAnswer ∧ s.mr.restart = .answering then .due else s.mr.restart) ∧
        s.changesOnly t {.sending p, .restart}) ∧
    ((s.port p).waiting = true →
      ∃ t, exec (.receiverIdlePeriod p) s = .next t ∧ (t.port p).waiting = false ∧ s.changesOnly t {.waiting p})

/-- An offer to a transmit queue: it replaces in place the waiting own frame for the same bay or station, else it is appended,
else it is dropped and counted; a forwarded frame never replaces; and the RECEIPT frames of one receipt are appended all, or none and
each counted (R137, R157, R158).  That LIMITs of both blocks count as one kind is read from R158 (log entry 18). -/
def Obligations.OfferRule : Prop :=
  (∀ (s : State) (p : Port) (q : Queued),
    s.changesOnly (s.offer p q).1 {.queue p, .drops p} ∧
    (∀ queue, enqueue (s.port p).queue q = some queue →
      ((s.offer p q).1.port p).queue = queue ∧ (s.offer p q).2 = true) ∧
    (enqueue (s.port p).queue q = none → ((s.offer p q).1.port p).queue = (s.port p).queue ∧ (s.offer p q).2 = false) ∧
    (∀ front old back, (s.port p).queue = front ++ old :: back → (∀ x ∈ front, replaces q x = false) →
      replaces q old = true →
      ((s.offer p q).1.port p).queue = front ++ q :: back ∧ (s.offer p q).2 = true ∧
        ((s.offer p q).1.port p).counters.drop = (s.port p).counters.drop) ∧
    ((∀ x ∈ (s.port p).queue, replaces q x = false) → s.appends (s.offer p q).1 p q ∧
      ((s.offer p q).2 = true ↔ (s.port p).queue.length < queueSize)) ∧
    (∀ x, replaces q x = true ↔
      (∃ b, q.origin = .grant b ∧ x.origin = .grant b) ∨
        (q.origin = .limit ∧ x.origin = .limit ∧ x.frame.dest = q.frame.dest))) ∧
  ∀ (s : State) (p : Port) (parts : List Queued),
    s.changesOnly (s.offerAll p parts) {.queue p, .drops p} ∧
    ((s.port p).queue.length + parts.length ≤ queueSize →
      ((s.offerAll p parts).port p).queue = (s.port p).queue ++ parts ∧
        ((s.offerAll p parts).port p).counters.drop = (s.port p).counters.drop) ∧
    (queueSize < (s.port p).queue.length + parts.length →
      ((s.offerAll p parts).port p).queue = (s.port p).queue ∧
        ((s.offerAll p parts).port p).counters.drop = min 65535 ((s.port p).counters.drop + parts.length))

/-- STATUS: at every command but the resets, when the unmasked pending set goes from empty to non-empty a STATUS frame that reports
the state then stands at the tail of the Up queue, unless the queue is full; while it stays non-empty, and where it is empty after
the command, no STATUS frame is added (R173, R174). That the frame comes after the answers of its event is read from R174 (log entry
17), and the bits that the line byte does not name are the model's choice (log entry 48). -/
def Obligations.StatusFrameOnFirstEvent : Prop :=
  ∀ (c : Instr) (s t : State), s.powered = true → c ≠ .supplyLoss →
    (∀ cause h i, c ≠ .warmRestart cause h i) → (∀ a b h i, c ≠ .coldReset a b h i) → exec c s = .next t →
    (s.alert = false → t.alert = true →
      t.li.up.queue.getLast? =
          some ⟨⟨t.mr.site.alertDest, t.own, kindStatus,
            field16 t.unmasked ++ planBytes t.mr.plan ++ [t.lineByte]⟩, .status⟩ ∨
        queueSize ≤ t.li.up.queue.length) ∧
    (s.alert = true ∨ t.alert = false →
      (t.li.up.queue.countP fun q => q.origin == .status) ≤ s.li.up.queue.countP fun q => q.origin == .status)

/-! ### Requests -/

/-- The records that a READ may return from a first index on, or none where that index is not one of the table's: by receipt number
and part for RECEIPT, by position for the other tables, an empty PENDING_LINKS or HELD being read at 0 (R138, R166, R183). -/
def Claims.readable (s : State) (table : TableName) (first : Nat) (part : Byte) (records : Option (List (List Byte))) : Prop :=
  (table = .receipt →
    (∀ before r later, s.rq.receipts = before ++ r :: later → r.number.toNat = first →
      (∀ x ∈ before, x.number.toNat ≠ first) →
      records =
        (if part = 1 then some (receiptParts r ++ (later.map receiptParts).flatten)
          else if part = 2 ∧ r.hasBands = true then some (receiptPart2 r :: (later.map receiptParts).flatten) else none)) ∧
    ((∀ x ∈ s.rq.receipts, x.number.toNat ≠ first) → records = none)) ∧
  (table ≠ .receipt →
    records =
      (if first < (s.tableRecords table).length then some ((s.tableRecords table).drop first)
        else if (table = .pendingLinks ∨ table = .held) ∧ first = 0 then some [] else none))

/-- READ: any station is answered with the table's records from the first index on, each behind its length, as many whole
records up to the count as fit in 91 bytes; a table that is not there is BAD_TABLE, an index that is not there BAD_INDEX, and a
READ without its fixed fields BAD_LENGTH; nothing else changes (R138, R164, R165, R166, R180).  That the length is looked at
before the table is read from R164 (log entry 26), and that a receipt released since is BAD_INDEX is the model's choice (log entry
40), as are the bits that a flag byte of a record does not name (log entries 44 and 48). -/
def Obligations.ReadIsAnswered : Prop :=
  (∀ (s : State) (source tag code part : Byte) (first count : Nat) (rest : List Request),
    s.heads ⟨source, [tag, 1, code] ++ bytesOf 4 first ++ [part, BitVec.ofNat 8 count]⟩ rest →
    first < 4294967296 → count < 256 →
    (tableOf code = none →
      ∃ t, exec .read s = .next t ∧ t.mr.requests = rest ∧
        s.appends t .up (s.answerTo ⟨source, []⟩ [tag, 1, 3, code, 0]) ∧ s.changesOnly t answeredParts) ∧
    ∀ table records, tableOf code = some table → Claims.readable s table first part records →
      (records = none →
        ∃ t, exec .read s = .next t ∧ t.mr.requests = rest ∧
          s.appends t .up (s.answerTo ⟨source, []⟩ [tag, 1, 4, code, 0]) ∧ s.changesOnly t answeredParts) ∧
      ∀ found, records = some found →
        ∃ t n, exec .read s = .next t ∧ t.mr.requests = rest ∧ n ≤ count ∧
          (let wanted := found.take count
           let carried := ((wanted.take n).map fun r => BitVec.ofNat 8 r.length :: r).flatten
           n ≤ wanted.length ∧ carried.length ≤ 91 ∧
             (∀ r, wanted[n]? = some r → 91 < carried.length + (r.length + 1)) ∧
             s.appends t .up (s.answerTo ⟨source, []⟩ ([tag, 1, 0, code, BitVec.ofNat 8 n] ++ carried))) ∧
          s.changesOnly t answeredParts) ∧
  ∀ (s : State) (source tag : Byte) (fields : List Byte) (rest : List Request),
    s.heads ⟨source, [tag, 1] ++ fields⟩ rest → fields.length < 7 →
    ∃ t, exec .read s = .next t ∧ t.mr.requests = rest ∧
      s.appends t .up (s.answerTo ⟨source, []⟩
        ([tag, 1, 5] ++ (match fields with | [] => [] | code :: _ => [code, 0]))) ∧ s.changesOnly t answeredParts

/-- The commands that serve a WRITE or a COMMAND. -/
def Claims.checkedServices : List Instr :=
  [.siteWrite, .stationWrite, .bayWrite, .tariffWrite, .batteryWrite, .canopyWrite, .eventMaskWrite, .setClock, .restart,
    .resume, .shedClear, .topUp, .forceClose, .releaseReceipt, .clearEvents, .clearCounters, .unknownCommand, .badTableWrite]

/-- The command that serves the requests of a service. -/
def Claims.commandOf : Service → Instr
  | .read => .read
  | .siteWrite => .siteWrite
  | .stationWrite => .stationWrite
  | .bayWrite => .bayWrite
  | .tariffWrite => .tariffWrite
  | .batteryWrite => .batteryWrite
  | .canopyWrite => .canopyWrite
  | .eventMaskWrite => .eventMaskWrite
  | .setClock => .setClock
  | .restart => .restart
  | .resume => .resume
  | .shedClear => .shedClear
  | .topUp => .topUp
  | .forceClose => .forceClose
  | .releaseReceipt => .releaseReceipt
  | .clearEvents => .clearEvents
  | .clearCounters => .clearCounters
  | .unknownCommand => .unknownCommand
  | .badTableWrite => .badTableWrite

/-- NOT_MANAGER: a WRITE or COMMAND whose source is not on a manager list that holds an address is removed by the command that
serves it and answered so, whatever else it carries, and has no effect; the other serving commands leave it to that one (R165).
Which command serves which request is the model's choice for those that are short or name nothing known (log entries 2 and 26). -/
def Obligations.OnlyManagersWrite : Prop :=
  ∀ (s : State) (source tag op : Byte) (fields : List Byte) (rest : List Request) (m : Fin 4),
    s.heads ⟨source, tag :: op :: fields⟩ rest → op = 2 ∨ op = 3 →
    s.mr.site.managers[m] ≠ 0xFF → (∀ i : Fin 4, s.mr.site.managers[i] ≠ source ∨ source = 0xFF) →
    let server := Claims.commandOf (serviceOf (tag :: op :: fields))
    server ∈ Claims.checkedServices ∧
      (∃ t more, exec server s = .next t ∧ t.mr.requests = rest ∧
        s.appends t .up (s.answerTo ⟨source, []⟩ ([tag, op, 8] ++ more)) ∧
        (op = 3 → more = fields.take 1) ∧
        (∀ table index record, op = 2 → fields = table :: index :: record → more = [table, index] ++ planBytes s.mr.plan) ∧
        s.changesOnly t answeredParts) ∧
      ∀ c ∈ Claims.checkedServices, c ≠ server → exec c s = .next s

/-- What a served WRITE or COMMAND assumes: it stands at the head, and its source may write (R164, R165). -/
def Claims.allowed (s : State) (r : Request) (rest : List Request) : Prop :=
  s.heads r rest ∧ s.passesManagers r.source = true

/-- The plan check ran on the tables as they stand: the plan status is the one it finds, PLAN_FAULT being pending where it found a
fault (R172). -/
def Claims.planChecked (t : State) : Prop :=
  t.mr.plan = t.planCheck.mr.plan ∧ (t.mr.plan ≠ none → t.isPending .planFault = true)

/-- STATION_WRITE: the position takes the entry, its forward count is 0, its measurement record follows R28, and what a changed
CHARGER or PV_STRING entry touches is forgotten (R150, R103, R185), the other bays and strings keeping theirs; BD evaluates, on the
entries and records as they stand after the write, where it creates or discards a BATTERY entry, and is else left alone (R76); the
plan check runs (R172), and the answer gives its status; the write that R168 forbids is refused and changes nothing. Where the
battery is evaluated and what is then withdrawn is read from R76 and R79 (log entries 9 and 23), that the answer comes before a
STATUS frame from R174 (log entry 17), and the reported mark of a record is the model's (log entry 16), as is that a write which
repeats address, role and index of a PV_STRING entry leaves the last cap sent as it was (log entry 45). -/
def Obligations.StationIsWritten : Prop :=
  ∀ (s : State) (source tag : Byte) (pos : Position) (record : List Byte) (rest : List Request),
    Claims.allowed s ⟨source, [tag, 2, 2, BitVec.ofNat 8 pos.val] ++ record⟩ rest → record.length = 4 →
    let old := s.fs.stations[pos]
    let new := (takeStation old record).1
    let kept := old.map Station.identity = new.map Station.identity
    let openOrHeld := ∃ e b, old = some e ∧ e.role = .charger b ∧
      (s.bay b).session.state ≠ .vacant ∧ (s.bay b).session.state ≠ .disabled ∧ new.map (·.role) ≠ some e.role
    (openOrHeld →
      ∃ t, exec .stationWrite s = .next t ∧ t.mr.requests = rest ∧ s.changesOnly t answeredParts ∧
        s.appends t .up (s.answerTo ⟨source, []⟩ ([tag, 2, 7, 2, BitVec.ofNat 8 pos.val] ++ planBytes s.mr.plan))) ∧
    (¬openOrHeld →
      ∃ t, exec .stationWrite s = .next t ∧ t.mr.requests = rest ∧ t.fs.stations[pos] = new ∧ t.fs.counts[pos] = 0 ∧
        ((∀ e, new = some e → e.role.measures = false) → t.siu.records[pos] = none) ∧
        (∀ e, new = some e → e.role.measures = true → ¬kept →
          t.siu.records[pos] = some ⟨none, 255, s.mu.uptime, false⟩) ∧
        (kept → (∀ e, new = some e → e.role.measures = true) → new ≠ none → t.siu.records[pos] = s.siu.records[pos]) ∧
        (∀ b, (∃ e, (old = some e ∨ new = some e) ∧ e.role = .charger b) → ¬kept → (t.bay b).alloc.sent = none) ∧
        (∀ j : StringNo, (∃ e, (old = some e ∨ new = some e) ∧ e.role = .pvString j) → ¬kept →
          t.cc.strings[j].sent = none ∧ t.cc.strings[j].release = false) ∧
        (∀ b, (t.bay b).alloc = { (s.bay b).alloc with sent := (t.bay b).alloc.sent } ∧
          ((∀ e, old = some e → e.role ≠ .charger b) → (∀ e, new = some e → e.role ≠ .charger b) → s.same t (.grant b))) ∧
        (∀ j : StringNo, t.cc.strings[j].cap = s.cc.strings[j].cap ∧
          ((∀ e, old = some e → e.role ≠ .pvString j) → (∀ e, new = some e → e.role ≠ .pvString j) →
            s.same t (.string j))) ∧
        (let isBattery (entry : Option Station) : Prop := entry.map (·.role) = some .battery
         if isBattery old ↔ isBattery new then s.same t .battery ∧ s.same t (.queue .down)
         else
          Claims.evaluates { s with fs.stations := t.fs.stations, siu.records := t.siu.records } t s.batteryAddress.toList) ∧
        Claims.planChecked t ∧
        s.gains t .up (s.answerTo ⟨source, []⟩
          ([tag, 2, if (takeStation old record).2 then 1 else 0, 2, BitVec.ofNat 8 pos.val] ++ planBytes t.mr.plan)) ∧
        (kept → s.changesOnly t ({.station pos, .forwardCount pos, .record pos, .plan, .events} ∪ answeredParts)) ∧
        s.changesOnly t
          ({.station pos, .forwardCount pos, .record pos, .plan} ∪ Set.range Part.grant ∪ Set.range Part.string ∪
            evaluatedParts ∪ answeredParts))

/-- BAY_WRITE: class and cap are taken into their ranges, a change of the enabled field moves the session state as R16's table
gives, and the plan check runs (R2, R16, R172).  The due mark of a session timer is the model's (log entry 10), and that the answer
comes before a STATUS frame is read from R174 (log entry 17). -/
def Obligations.BayIsWritten : Prop :=
  ∀ (s : State) (source tag cls : Byte) (b : BayNo) (enabled : Bool) (cap : Nat) (rest : List Request),
    Claims.allowed s
      ⟨source, [tag, 2, 3, BitVec.ofNat 8 b.val, if enabled then 1 else 0, cls] ++ bytesOf 2 cap⟩ rest → cap < 65536 →
    let x := (s.bay b).session
    let running := x.state = .connected ∨ x.state = .active ∨ x.state = .silent
    let was := (s.bay b).config.enabled
    ∃ t, exec .bayWrite s = .next t ∧ t.mr.requests = rest ∧
      (t.bay b).config = ⟨enabled, ⟨min 7 cls.toNat, by omega⟩, min 800 cap⟩ ∧
      (was = enabled → (t.bay b).session = x) ∧
      (x.state = .closing ∨ x.state = .held → (t.bay b).session = x) ∧
      (was = true → enabled = false → x.state = .vacant → (t.bay b).session = { x with state := .disabled }) ∧
      (was = true → enabled = false → running →
        (t.bay b).session =
          { x with state := .closing, endReason := some .bayDisabled, timer := some ⟨s.mu.uptime, false⟩ }) ∧
      (was = false → enabled = true → x.state = .disabled → (t.bay b).session = { x with state := .vacant }) ∧
      Claims.planChecked t ∧
      s.gains t .up (s.answerTo ⟨source, []⟩
        ([tag, 2, if 7 < cls.toNat ∨ 800 < cap then 1 else 0, 3, BitVec.ofNat 8 b.val] ++ planBytes t.mr.plan)) ∧
      s.changesOnly t ({.config b, .session b, .plan, .events} ∪ answeredParts)

/-- A record whose age, or whose never-received wait, is above a hold time (R31, R32). -/
def Claims.pastHold (s : State) (r : MeasRecord) (hold : Nat) : Prop :=
  (r.values ≠ none ∧ hold < r.age) ∨ (r.values = none ∧ hold < (s.mu.uptime - r.waitStart).toNat)

/-- A changed hold time acts on every record: one past it is reported, its role's event being raised where it was not yet; a stale one
within it is fresh again without an event; and where no record turns past it, no stale event is raised (R33). -/
def Claims.heldAnew (s t : State) (hold : Nat) : Prop :=
  (∀ (pos : Position) (r : MeasRecord) (e : Station), s.siu.records[pos] = some r → s.fs.stations[pos] = some e →
    e.role.measures = true →
    (Claims.pastHold s r hold →
      t.siu.records[pos] = some { r with reported := true } ∧
      (r.reported = false →
        (e.role = .gridMeter ∨ e.role = .shopMeter → t.isPending .meterStale = true) ∧
        ((∃ j, e.role = .pvString j) → t.isPending .stringStale = true) ∧
        (e.role = .battery → t.isPending .batteryStale = true))) ∧
    (¬Claims.pastHold s r hold → r.values ≠ none → t.siu.records[pos] = some { r with reported := false }) ∧
    (¬Claims.pastHold s r hold → r.values = none → t.siu.records[pos] = some r)) ∧
  ((∀ (pos : Position) (r : MeasRecord), s.siu.records[pos] = some r → Claims.pastHold s r hold → r.reported = true) →
    ∀ event ∈ [Event.meterStale, .stringStale, .batteryStale], t.isPending event = s.isPending event)

/-- SITE_WRITE: the table is replaced by the record as R167 takes it, and the answer, CLAMPED if a field was changed, comes from the
new own address; a changed hold time, changed senses and a changed high-water mark act at the write, RECEIPT_HIGH being raised where
the high condition goes from clear to set; BD evaluates, under the hold time and the freeze as they then stand, where the freeze
becomes set or a battery record turns past a changed hold time, and is else left alone (R32, R40, R42, R76); the plan check runs,
and where these stand nothing else changes (R167, R169, R33, R37, R141, R172). The order of its effects is read from these rules
(log entry 34), that the answer comes before a STATUS frame from R174 (log entry 17), and the reported mark of a record is the
model's (log entry 16). -/
def Obligations.SiteIsWritten : Prop :=
  ∀ (s : State) (source tag : Byte) (record : List Byte) (rest : List Request),
    Claims.allowed s ⟨source, [tag, 2, 1, 0] ++ record⟩ rest → record.length = 78 →
    let site := (takeSite s.mr.site record).1
    let status : Byte := if (takeSite s.mr.site record).2 then 1 else 0
    ∃ t, exec .siteWrite s = .next t ∧ t.mr.requests = rest ∧ t.mr.site = site ∧
      s.gains t .up
        ⟨⟨source, site.ownAddress, kindManageAnswer, [tag, 2, status, 1, 0] ++ planBytes t.mr.plan⟩, .manageAnswer⟩ ∧
      (site.shedSense ≠ s.mr.site.shedSense → t.siu.shed.latch = false ∧ t.siu.shed.high = s.siu.shed.high ∧
        t.siu.shed.active = ((site.shedSense == .levelHigh && s.siu.shed.high) ||
          (site.shedSense == .levelLow && !s.siu.shed.high))) ∧
      (site.islandSense ≠ s.mr.site.islandSense → t.siu.island.latch = false ∧ t.siu.island.high = s.siu.island.high ∧
        t.siu.island.active = ((site.islandSense == .levelHigh && s.siu.island.high) ||
          (site.islandSense == .levelLow && !s.siu.island.high)) ∧
        (t.siu.island.active = true → s.siu.island.active = false → t.isPending .islandOn = true)) ∧
      (site.shedSense = s.mr.site.shedSense → t.siu.shed = s.siu.shed) ∧
      (site.islandSense = s.mr.site.islandSense → t.siu.island = s.siu.island) ∧
      (t.siu.shed.active ≠ s.siu.shed.active → t.isPending .shedChange = true) ∧
      (t.siu.freeze = (s.siu.freeze || (t.siu.island.active && !s.siu.island.active))) ∧
      (let turned (pos : Position) : Prop :=
        (s.fs.stations[pos]).map (·.role) = some .battery ∧
          ∃ r, s.siu.records[pos] = some r ∧ r.reported = false ∧ Claims.pastHold s r site.holdTime
       let acts := t.siu.freeze ≠ s.siu.freeze ∨ (site.holdTime ≠ s.mr.site.holdTime ∧ ∃ pos, turned pos)
       (acts → Claims.evaluates { s with mr.site := site, siu.freeze := t.siu.freeze } t []) ∧
         (¬acts → s.same t .battery ∧ s.same t (.queue .down))) ∧
      Claims.planChecked t ∧
      (site.holdTime ≠ s.mr.site.holdTime → Claims.heldAnew s t site.holdTime) ∧
      (site.holdTime = s.mr.site.holdTime → t.siu.records = s.siu.records) ∧
      (site.highWater ≠ s.mr.site.highWater → t.rq.high = decide (site.highWater ≤ s.rq.receipts.length)) ∧
      (site.highWater = s.mr.site.highWater → t.rq.high = s.rq.high) ∧
      t.rq.receipts = s.rq.receipts ∧ t.rq.next = s.rq.next ∧ Claims.highRaised s t ∧
      (site.shedSense = s.mr.site.shedSense → site.islandSense = s.mr.site.islandSense →
        site.holdTime = s.mr.site.holdTime → site.highWater = s.mr.site.highWater →
        s.changesOnly t ({.site, .plan, .events} ∪ answeredParts)) ∧
      s.changesOnly t
        ({.site, .plan, .shed, .island, .freeze, .receipts} ∪ Set.range Part.record ∪ evaluatedParts ∪ answeredParts)

/-- TARIFF_WRITE replaces a whole profile by the record as R111 takes it and the plan check runs; EVENT_MASK_WRITE replaces the mask
(R111, R172, R173, R181).  That the answer comes before a STATUS frame is read from R174 (log entry 17). -/
def Obligations.TariffAndMaskAreWritten : Prop :=
  (∀ (s : State) (source tag : Byte) (name : ProfileName) (record : List Byte) (rest : List Request),
    let code : Byte := match name with | .a => 4 | .b => 5
    Claims.allowed s ⟨source, [tag, 2, code, 0] ++ record⟩ rest →
    1 + 7 * max 1 (min 8 (readU record 0 1)) ≤ record.length → record.length ≤ 57 →
    let profile := (takeProfile record).1
    let status : Byte := if (takeProfile record).2 then 1 else 0
    ∃ t, exec .tariffWrite s = .next t ∧ t.mr.requests = rest ∧
      t.mu.profileA = (match name with | .a => profile | .b => s.mu.profileA) ∧
      t.mu.profileB = (match name with | .a => s.mu.profileB | .b => profile) ∧
      profile.bands.length = max 1 (min 8 (readU record 0 1)) ∧
      Claims.planChecked t ∧
      s.gains t .up (s.answerTo ⟨source, []⟩ ([tag, 2, status, code, 0] ++ planBytes t.mr.plan)) ∧
      s.changesOnly t ({.profiles, .plan, .events} ∪ answeredParts)) ∧
  ∀ (s : State) (source tag : Byte) (mask : BitVec 16) (rest : List Request),
    Claims.allowed s ⟨source, [tag, 2, 8, 0] ++ field16 mask⟩ rest →
    ∃ t, exec .eventMaskWrite s = .next t ∧ t.mr.requests = rest ∧ t.mr.mask = mask ∧
      s.gains t .up (s.answerTo ⟨source, []⟩ ([tag, 2, 0, 8, 0] ++ planBytes s.mr.plan)) ∧
      s.changesOnly t ({.mask} ∪ answeredParts)

/-- BATTERY_WRITE: the record as R167 takes it stands, and BD evaluates its mode and offer by it, on fresh figures or without; a
change of control forgets the manual setpoint, the top-up flag and the last setpoint sent before that, and a change to AUTO
withdraws the battery's waiting LIMITs; and the plan check runs (R73, R75 to R80, R82, R87, R172). That the answer comes before a
STATUS frame is read from R174 (log entry 17). -/
def Obligations.BatteryIsWritten : Prop :=
  ∀ (s : State) (source tag : Byte) (record : List Byte) (rest : List Request),
    Claims.allowed s ⟨source, [tag, 2, 6, 0] ++ record⟩ rest → record.length = 22 →
    let table := (takeBattery s.bd.table record).1
    let status : Byte := if (takeBattery s.bd.table record).2 then 1 else 0
    ∃ t, exec .batteryWrite s = .next t ∧ t.mr.requests = rest ∧ t.bd.table = table ∧
      Claims.planChecked t ∧
      s.gains t .up (s.answerTo ⟨source, []⟩ ([tag, 2, status, 6, 0] ++ planBytes t.mr.plan)) ∧
      (let changed := table.control ≠ s.bd.table.control
       let taken : BatteryState :=
        { s.bd with
          table
          manual := if changed then 0 else s.bd.manual
          topUp := if changed then false else s.bd.topUp
          sent := if changed then none else s.bd.sent }
       let waiting :=
        if changed ∧ table.control = .auto then
          s.li.down.queue.filter fun q => !decide (q.frame.kind = kindLimit ∧ s.batteryAddress = some q.frame.dest)
        else s.li.down.queue
       Claims.evaluates { s with bd := taken, li.down.queue := waiting } t []) ∧
      (table.control = .manual → t.bd.mode = .manual) ∧
      (table.control = .auto → s.siu.freeze = true → t.bd.mode = .island) ∧
      (table.control = .auto → s.siu.freeze = false → s.batteryFigures = none → t.bd.mode = .off) ∧
      (table.control ≠ s.bd.table.control → t.bd.manual = 0 ∧ t.bd.topUp = false ∧ t.bd.sent = none) ∧
      (table.control = .manual → s.bd.table.control = .auto → t.bd.offerBd = 0 ∧ t.bd.offerBc = 0) ∧
      (table.control = .auto → s.bd.table.control = .manual → ∀ q ∈ t.li.down.queue,
        ¬(q.frame.kind = kindLimit ∧ s.batteryAddress = some q.frame.dest)) ∧
      (t.bd.mode ≠ s.bd.mode → t.isPending .batteryMode = true) ∧
      s.changesOnly t ({.batteryTable, .plan} ∪ evaluatedParts ∪ answeredParts)

/-- CANOPY_WRITE: the record as R167 takes it stands, K is bounded by the ratings now enabled or 0, caps are removed and strings
marked for release as R92's steps give, and the plan check runs (R92, R102, R172). That the answer comes before a STATUS frame is
read from R174 (log entry 17), and that the mark is by the rating just written is the model's choice (log entry 42). -/
def Obligations.CanopyIsWritten : Prop :=
  ∀ (s : State) (source tag : Byte) (record : List Byte) (rest : List Request),
    Claims.allowed s ⟨source, [tag, 2, 7, 0] ++ record⟩ rest → record.length = 82 →
    let table := (takeCanopy s.cc.table record).1
    let status : Byte := if (takeCanopy s.cc.table record).2 then 1 else 0
    let enabledRatings := ((List.finRange 8).map fun j : StringNo =>
      if table.strings[j].enabled then table.strings[j].rating else 0).sum
    ∃ t, exec .canopyWrite s = .next t ∧ t.mr.requests = rest ∧ t.cc.table = table ∧
      Claims.planChecked t ∧
      s.gains t .up (s.answerTo ⟨source, []⟩ ([tag, 2, status, 7, 0] ++ planBytes t.mr.plan)) ∧
      t.cc.amount = (if table.enabled then min s.cc.amount enabledRatings else 0) ∧
      (∀ j : StringNo, t.cc.strings[j].cap =
        (if t.cc.amount = 0 ∨ table.strings[j].enabled = false then none else s.cc.strings[j].cap)) ∧
      (∀ j : StringNo, t.cc.strings[j].sent = s.cc.strings[j].sent) ∧
      (∀ j : StringNo, t.cc.strings[j].release = true ↔
        s.cc.strings[j].release = true ∨
          (0 < s.cc.amount ∧ t.cc.amount = 0 ∧ s.stringEntry j ≠ none ∧
            (s.cc.strings[j].sent.map (·.cap)) ≠ some table.strings[j].rating) ∨
          (s.cc.table.strings[j].enabled = true ∧ table.strings[j].enabled = false ∧
            ∃ last, s.cc.strings[j].sent = some last ∧ last.cap ≠ table.strings[j].rating)) ∧
      s.changesOnly t
        ({.canopyTable, .curtailment, .plan, .events} ∪ Set.range Part.string ∪ answeredParts)

/-- The commands that serve a WRITE to a written table, with the table's code and the lengths its record may have beside the largest
index (9.2, R181). -/
def Claims.writes : List (Instr × Byte × Nat × (List Byte → Bool)) :=
  [(.siteWrite, 1, 0, fun r => r.length == 78), (.stationWrite, 2, 63, fun r => r.length == 4),
    (.bayWrite, 3, 31, fun r => r.length == 4), (.tariffWrite, 4, 0, tariffFits), (.tariffWrite, 5, 0, tariffFits),
    (.batteryWrite, 6, 0, fun r => r.length == 22), (.canopyWrite, 7, 0, fun r => r.length == 82),
    (.eventMaskWrite, 8, 0, fun r => r.length == 2)]

/-- A WRITE of an index outside its table's records is answered BAD_INDEX, and one of a record of another length BAD_LENGTH; either
changes nothing, and the plan status stays as it stands (R167, R181). -/
def Obligations.RefusedWritesChangeNothing : Prop :=
  ∀ (s : State) (source tag code index : Byte) (record : List Byte) (rest : List Request) (c : Instr) (last : Nat)
    (fits : List Byte → Bool), (c, code, last, fits) ∈ Claims.writes →
    Claims.allowed s ⟨source, [tag, 2, code, index] ++ record⟩ rest → last < index.toNat ∨ fits record = false →
    ∃ t, exec c s = .next t ∧ t.mr.requests = rest ∧
      s.appends t .up (s.answerTo ⟨source, []⟩
        ([tag, 2, if last < index.toNat then 4 else 5, code, index] ++ planBytes s.mr.plan)) ∧
      s.changesOnly t answeredParts

/-- Two entries that fail one of the first three checks of R172. -/
def Claims.paired : PlanCheck → Station → Station → Prop
  | .duplicateAddress, a, b => a.address = b.address
  | .secondRole, a, b => a.role = b.role ∧ (a.role = .gridMeter ∨ a.role = .shopMeter ∨ a.role = .battery)
  | .sharedIndex, a, b => a.role = b.role ∧ ((∃ bay, a.role = .charger bay) ∨ ∃ j, a.role = .pvString j)
  | .bayNoCharger, _, _ | .batteryOrder, _, _ | .tariffOrder, _, _ | .stringNoStation, _, _ => False

/-- The entry at `pos` fails a check together with one at a lower position. -/
def Claims.secondAt (s : State) (c : PlanCheck) (pos : Position) : Prop :=
  ∃ lower : Position, lower < pos ∧
    ∃ a, s.fs.stations[lower] = some a ∧ ∃ b, s.fs.stations[pos] = some b ∧ Claims.paired c a b

/-- No entry of the station table has a role. -/
def Claims.noStation (s : State) (role : Role) : Prop :=
  ∀ pos : Position, ∀ e, s.fs.stations[pos] = some e → e.role ≠ role

/-- The lowest number of which `fails` holds, as an index byte. -/
def Claims.lowest {n : Nat} (fails : Fin n → Prop) (index : Byte) : Prop :=
  ∃ i : Fin n, index = BitVec.ofNat 8 i.val ∧ fails i ∧ ∀ k : Fin n, k < i → ¬fails k

/-- The band at position `k` is the first whose start is not above the start before it. -/
def Claims.outOfOrder (bands : List Band) (k : Nat) : Prop :=
  ∃ front a b back, bands = front ++ a :: b :: back ∧ front.length + 1 = k ∧ b.start ≤ a.start ∧
    ((front ++ [a]).map (·.start)).Pairwise (· < ·)

/-- Check `c` of R172 fails and reports `index`, by the row of its table; the index of TARIFF_ORDER is a band identity (R179). -/
def Claims.planFinds (s : State) (c : PlanCheck) (index : Byte) : Prop :=
  match c with
  | .duplicateAddress | .secondRole | .sharedIndex => Claims.lowest (Claims.secondAt s c) index
  | .bayNoCharger =>
    Claims.lowest (fun b : BayNo => (s.bay b).config.enabled = true ∧ Claims.noStation s (.charger b)) index
  | .batteryOrder =>
    (s.bd.table.reserveExit ≤ s.bd.table.reserveEnter ∧ index = 0) ∨
      (s.bd.table.reserveEnter < s.bd.table.reserveExit ∧ s.bd.table.fullStop ≤ s.bd.table.fullResume ∧ index = 1)
  | .tariffOrder =>
    (∃ k, Claims.outOfOrder s.mu.profileA.bands k ∧ index = BitVec.ofNat 8 k) ∨
      ((s.mu.profileA.bands.map (·.start)).Pairwise (· < ·) ∧
        ∃ k, Claims.outOfOrder s.mu.profileB.bands k ∧ index = 0x10 ||| BitVec.ofNat 8 k)
  | .stringNoStation =>
    Claims.lowest (fun j : StringNo => s.cc.table.strings[j].enabled = true ∧ Claims.noStation s (.pvString j)) index

/-- The checks in the order of the table of R172. -/
def Claims.planChecks : List PlanCheck :=
  [.duplicateAddress, .secondRole, .sharedIndex, .bayNoCharger, .batteryOrder, .tariffOrder, .stringNoStation]

/-- The plan status that a plan check leaves: OK exactly where no check of R172 finds anything, and otherwise the first check in the
order of its table that does, with the index that the row of the check gives, PLAN_FAULT then being pending. Which of several pairs
of entries is reported is the model's reading (log entry 25). -/
def Obligations.PlanStatus : Prop :=
  (∀ s : State, s.planCheck.mr.plan = none ↔
    (∀ i j : Position, i < j → ∀ a b, s.fs.stations[i] = some a → s.fs.stations[j] = some b →
      a.address ≠ b.address ∧ a.role ≠ b.role) ∧
    (∀ b, (s.bay b).config.enabled = true → ∃ i : Position, ∃ e, s.fs.stations[i] = some e ∧ e.role = .charger b) ∧
    s.bd.table.reserveEnter < s.bd.table.reserveExit ∧ s.bd.table.fullResume < s.bd.table.fullStop ∧
    (s.mu.profileA.bands.map (·.start)).Pairwise (· < ·) ∧ (s.mu.profileB.bands.map (·.start)).Pairwise (· < ·) ∧
    ∀ j : StringNo, s.cc.table.strings[j].enabled = true →
      ∃ i : Position, ∃ e, s.fs.stations[i] = some e ∧ e.role = .pvString j) ∧
  (∀ (s : State) (c : PlanCheck) (i : Byte), s.planCheck.mr.plan = some ⟨c, i⟩ ↔
    Claims.planFinds s c i ∧ ∀ earlier ∈ Claims.planChecks.takeWhile (· ≠ c), ∀ other, ¬Claims.planFinds s earlier other) ∧
  ∀ s : State, s.planCheck.mr.plan ≠ none → s.planCheck.isPending .planFault = true

/-- Every figure of a site table fits the bytes that its record has for it (10.6). -/
def Claims.siteFits (t : SiteTable) : Prop :=
  (∀ n ∈ [t.highWater, t.silenceTimeout, t.holdTime, t.allocPeriod, t.shedFloor, t.grantRefresh, t.settleTimeout], n < 256) ∧
    (∀ n ∈ [t.registerTolerance, t.closeHold, t.silentClose, t.linkLifetime, t.volts, t.restartGuard] ++ t.dwell.toList, n < 65536) ∧
    ∀ n ∈ [t.assumedShop, t.importLimit, t.peakTarget, t.shedTarget, t.fallbackTarget, t.margin, t.trimDecay, t.fallbackBudget],
      n < 4294967296

/-- A site table as a SITE write takes it: each numeric field at the nearer end of its range, an own address FFh as FEh (1.3, 2.1,
3.1, 7.1, R24, R169, R181). -/
def Claims.siteTaken (t : SiteTable) : SiteTable :=
  { t with
    ownAddress := if t.ownAddress = 0xFF then 0xFE else t.ownAddress
    highWater := max 1 (min 48 t.highWater)
    silenceTimeout := max 2 (min 60 t.silenceTimeout)
    closeHold := max 5 (min 300 t.closeHold)
    silentClose := max 30 (min 3600 t.silentClose)
    linkLifetime := max 60 (min 7200 t.linkLifetime)
    holdTime := max 1 (min 60 t.holdTime)
    assumedShop := min 2000000 t.assumedShop
    allocPeriod := max 1 (min 10 t.allocPeriod)
    volts := max 100 (min 277 t.volts)
    importLimit := min 2000000 t.importLimit
    peakTarget := min 2000000 t.peakTarget
    shedTarget := min 2000000 t.shedTarget
    fallbackTarget := min 2000000 t.fallbackTarget
    margin := min 100000 t.margin
    trimDecay := min 50000 t.trimDecay
    shedFloor := min 7 t.shedFloor
    fallbackBudget := min 2000000 t.fallbackBudget
    restartGuard := min 600 t.restartGuard
    grantRefresh := max 2 (min 60 t.grantRefresh)
    settleTimeout := max 2 (min 60 t.settleTimeout) }

/-- A battery table as a BATTERY write takes it (R73). -/
def Claims.batteryTaken (t : BatteryTable) : BatteryTable :=
  { t with
    chargeRating := min 500000 t.chargeRating
    dischargeRating := min 500000 t.dischargeRating
    reserveEnter := min 1000 t.reserveEnter
    reserveExit := min 1000 t.reserveExit
    fullStop := min 1000 t.fullStop
    fullResume := min 1000 t.fullResume
    topUpTarget := min 1000 t.topUpTarget
    step := min 10000 t.step
    refresh := max 2 (min 60 t.refresh) }

/-- A canopy table as a CANOPY write takes it, a floor above its string's rating as that rating (R92). -/
def Claims.canopyTaken (t : CanopyTable) : CanopyTable :=
  { t with
    limit := min 1000000 t.limit
    deadband := min 100000 t.deadband
    period := max 2 (min 60 t.period)
    strings := t.strings.map fun x =>
      { x with rating := min 500000 x.rating, floor := min (min 500000 x.rating) x.floor } }

/-- A tariff band as a TARIFF write takes it (R111). -/
def Claims.bandTaken (x : Band) : Band := { x with start := min 1439 x.start }

/-- The role that a STATION record names by its role code and index byte, the index taken into its range; none is an empty position
(R181, 10.5, 10.6). -/
def Claims.roleWritten (code index : Byte) : Option Role :=
  if code = 1 then some (.charger ⟨min 31 index.toNat, by omega⟩)
  else if code = 2 then some .gridMeter
  else if code = 3 then some .shopMeter
  else if code = 4 then some (.pvString ⟨min 7 index.toNat, by omega⟩)
  else if code = 5 then some .battery
  else none

/-- Fields out of range are taken as the nearer end, and the flag that makes the answer CLAMPED is set exactly where one was changed
(R167, R181). -/
def Claims.fieldsAreTaken : Prop :=
  (∀ old t : SiteTable, Claims.siteFits t →
    (takeSite old (siteRecord t)).1 = Claims.siteTaken t ∧
      ((takeSite old (siteRecord t)).2 = true ↔ Claims.siteTaken t ≠ t)) ∧
  (∀ old t : BatteryTable, t.chargeRating < 4294967296 → t.dischargeRating < 4294967296 → t.refresh < 256 →
    (∀ n ∈ [t.reserveEnter, t.reserveExit, t.fullStop, t.fullResume, t.topUpTarget, t.step], n < 65536) →
    (takeBattery old (batteryRecord t)).1 = Claims.batteryTaken t ∧
      ((takeBattery old (batteryRecord t)).2 = true ↔ Claims.batteryTaken t ≠ t)) ∧
  (∀ (old : CanopyTable) (s : State),
    s.cc.table.limit < 4294967296 → s.cc.table.deadband < 4294967296 → s.cc.table.period < 256 →
    (∀ j : StringNo, s.cc.table.strings[j].rating < 4294967296 ∧ s.cc.table.strings[j].floor < 4294967296) →
    (takeCanopy old (s.canopyRecord.take 82)).1 = Claims.canopyTaken s.cc.table ∧
      ((takeCanopy old (s.canopyRecord.take 82)).2 = true ↔ Claims.canopyTaken s.cc.table ≠ s.cc.table)) ∧
  (∀ p : Profile, p.bands.length ≤ 8 → (∀ x ∈ p.bands, x.start < 65536 ∧ x.gridPrice < 65536 ∧ x.greenPrice < 65536) →
    (takeProfile (tariffRecord p)).1 = ⟨Claims.bandTaken p.first, p.rest.map Claims.bandTaken⟩ ∧
      ((takeProfile (tariffRecord p)).2 = true ↔ ∃ x ∈ p.bands, 1439 < x.start)) ∧
  (∀ (count : Byte) (bands : List Byte), count = 0 ∨ 8 < count.toNat →
    takeProfile (count :: bands) = ((takeProfile ((if count = 0 then 1 else 8) :: bands)).1, true)) ∧
  ∀ (old : Option Station) (address code index divider : Byte), code.toNat ≤ 5 →
    (takeStation old [address, code, index, divider]).1 =
      (Claims.roleWritten code index).map
        (fun role => ⟨if address = 0xFF then 0xFE else address, role, max 1 (min 16 divider.toNat)⟩) ∧
      ((takeStation old [address, code, index, divider]).2 = true ↔
        code ≠ 0 ∧ (address = 0xFF ∨ divider = 0 ∨ 16 < divider.toNat ∨ (code = 1 ∧ 31 < index.toNat) ∨
          (code = 4 ∧ 7 < index.toNat)))

/-- An enumerated field with an undefined code is taken as the value held before, the other fields as they are written, and the
answer is CLAMPED (R181). -/
def Claims.codesAreTaken : Prop :=
  (∀ (old : SiteTable) (record : List Byte) (code : Byte), record.length = 78 → 3 < code.toNat →
    takeSite old (record.set 23 code) = ({ (takeSite old record).1 with shedSense := old.shedSense }, true) ∧
      takeSite old (record.set 24 code) = ({ (takeSite old record).1 with islandSense := old.islandSense }, true)) ∧
  (∀ (old : BatteryTable) (record : List Byte) (code : Byte), record.length = 22 → 1 < code.toNat →
    takeBattery old (record.set 18 code) = ({ (takeBattery old record).1 with control := old.control }, true)) ∧
  (∀ (old : CanopyTable) (record : List Byte) (code : Byte), record.length = 82 → 1 < code.toNat →
    takeCanopy old (record.set 0 code) = ({ (takeCanopy old record).1 with enabled := old.enabled }, true) ∧
      ∀ j : StringNo,
        takeCanopy old (record.set (10 + 9 * j.val) code) =
          ({ (takeCanopy old record).1 with
              strings := (takeCanopy old record).1.strings.set j
                { (takeCanopy old record).1.strings[j] with enabled := old.strings[j].enabled } },
            true)) ∧
  (∀ (old : BayConfig) (record : List Byte) (code : Byte), record.length = 4 → 1 < code.toNat →
    takeBay old (record.set 0 code) = ({ (takeBay old record).1 with enabled := old.enabled }, true)) ∧
  ∀ (old : Option Station) (address code index divider : Byte), 5 < code.toNat →
    takeStation old [address, code, index, divider] =
      ((takeStation old [address, (match old with | some e => e.role.code | none => 0), index, divider]).1, true)

/-- Every written table, the event mask among them, read and written back, is taken unchanged and not clamped; a numeric field of a
written record that is out of its range is taken as the nearer end, an undefined code as the value held before, either being
answered CLAMPED; and the values that MEASURE and SESSION show are in the layout of the SAMPLE and the DEMAND they came in (R73,
R92, R111, R167, R169, R181, R184, 10.2, 10.6). That an undefined role code leaves an empty position empty is read from R181 (log
entry 36). -/
def Obligations.RecordsReadBack : Prop :=
  Claims.fieldsAreTaken ∧ Claims.codesAreTaken ∧
  (∀ old site : SiteTable, site.inRange → takeSite old (siteRecord site) = (site, false)) ∧
  (∀ (old : Option Station) (e : Station), e.address ≠ 0xFF → 1 ≤ e.divider → e.divider ≤ 16 →
    takeStation old (stationRecord (some e)) = (some e, false)) ∧
  (∀ old : Option Station, takeStation old (stationRecord none) = (none, false)) ∧
  (∀ old c : BayConfig, c.cap ≤ 800 → takeBay old (bayRecord c) = (c, false)) ∧
  (∀ p : Profile, p.inRange → tariffFits (tariffRecord p) = true ∧ takeProfile (tariffRecord p) = (p, false)) ∧
  (∀ old t : BatteryTable, t.inRange → takeBattery old (batteryRecord t) = (t, false)) ∧
  (∀ (old : CanopyTable) (s : State), s.cc.table.inRange → takeCanopy old (s.canopyRecord.take 82) = (s.cc.table, false)) ∧
  (∀ (role : Role) (v : Values), v.fit role → (∀ p r, v = .grid p r → -2147483648 ≤ p ∧ p < 2147483648) →
    (∀ p, v = .shop p → p < 2147483648) → (∀ p r, v = .pv p r → p < 2147483648 ∧ r < 2147483648) →
    (∀ p soc c d, v = .battery p soc c d → -2147483648 ≤ p ∧ p < 2147483648 ∧ c < 2147483648 ∧ d < 2147483648) →
    readSample role (valueBytes (some v)) = some v) ∧
  (∀ (s u : State) (tag : Byte) (record : List Byte), s.tableRecords .eventMask = [record] →
    u.writeEventMask ([tag, 2, 8, 0] ++ record) = ({ u with mr.mask := s.mr.mask }, .ok)) ∧
  ∀ f : Figures, f.inRange → readDemand (figureBytes (some f)) f.takenAt = some f

/-- SET_CLOCK sets the clock, the second taken into its range; CLEAR_EVENTS clears the named flags alone; CLEAR_COUNTERS clears every
counter and no event; each is answered, and an answer that finds the Up queue full after CLEAR_COUNTERS is the one drop then counted
(R109, R164, R170, R175). -/
def Obligations.ClockAndClears : Prop :=
  (∀ (s : State) (source tag : Byte) (day : BitVec 16) (second : Nat) (rest : List Request),
    Claims.allowed s ⟨source, [tag, 3, 1] ++ field16 day ++ bytesOf 3 second⟩ rest → second < 16777216 →
    ∃ t, exec .setClock s = .next t ∧ t.mr.requests = rest ∧ t.mu.clock = some ⟨day, min 86399 second⟩ ∧
      s.appends t .up (s.answerTo ⟨source, []⟩ [tag, 3, if 86399 < second then 1 else 0, 1]) ∧
      s.changesOnly t ({.clock} ∪ answeredParts)) ∧
  (∀ (s : State) (source tag : Byte) (named : BitVec 16) (rest : List Request),
    Claims.allowed s ⟨source, [tag, 3, 8] ++ field16 named⟩ rest →
    ∃ t, exec .clearEvents s = .next t ∧ t.mr.requests = rest ∧
      (∀ e : Event, t.isPending e = (s.isPending e && !named.getLsbD e.code)) ∧
      s.appends t .up (s.answerTo ⟨source, []⟩ [tag, 3, 0, 8]) ∧ s.changesOnly t ({.events} ∪ answeredParts)) ∧
  ∀ (s : State) (source tag : Byte) (rest : List Request),
    Claims.allowed s ⟨source, [tag, 3, 9]⟩ rest →
    ∃ t, exec .clearCounters s = .next t ∧ t.mr.requests = rest ∧
      (∀ p, (t.port p).counters.line = (0, 0, 0, 0)) ∧ t.li.down.counters.drop = 0 ∧
      t.li.up.queue =
        (if s.li.up.queue.length < queueSize then s.li.up.queue ++ [s.answerTo ⟨source, []⟩ [tag, 3, 0, 9]] else s.li.up.queue) ∧
      t.li.up.counters.drop = (if s.li.up.queue.length < queueSize then 0 else 1) ∧
      t.fs.unknownStation = 0 ∧ t.fs.ownAddressDrops = 0 ∧ t.fs.limitClamps = 0 ∧ t.fs.autoBatteryDrops = 0 ∧
      s.changesOnly t
        ({.counters .down, .counters .up, .drops .down, .unknownStation, .ownAddressDrops, .limitClamps, .autoBatteryDrops} ∪
          answeredParts)

/-- RESTART is answered OK, and the restart waits for that answer's transmission, or is due at once if the answer was dropped;
until then no request is served (R171).  The phases are the model's (log entry 14). -/
def Obligations.RestartIsScheduled : Prop :=
  (∀ (s : State) (source tag : Byte) (rest : List Request),
    Claims.allowed s ⟨source, [tag, 3, 2]⟩ rest →
    ∃ t, exec .restart s = .next t ∧ t.mr.requests = rest ∧
      s.appends t .up ⟨⟨source, s.own, kindManageAnswer, [tag, 3, 0, 2]⟩, .restartAnswer⟩ ∧
      t.mr.restart = (if s.li.up.queue.length < queueSize then .answering else .due) ∧
      s.changesOnly t ({.restart} ∪ answeredParts)) ∧
  ∀ (s : State) (c : Instr), s.powered = true → s.mr.restart ≠ .idle → c = .read ∨ c ∈ Claims.checkedServices →
    exec c s = .next s

/-- RESUME: refused while a level-sense ISLAND pin stands at its active level; otherwise the ISLAND latch and the grant freeze are
cleared, and BD evaluates with the freeze clear where it was set, and so leaves ISLAND, and is else left alone (R41, R42, R76). That
the answer comes before a STATUS frame is read from R174 (log entry 17). -/
def Obligations.ResumeEndsTheFreeze : Prop :=
  ∀ (s : State) (source tag : Byte) (rest : List Request), Claims.allowed s ⟨source, [tag, 3, 3]⟩ rest →
    let standing := (s.mr.site.islandSense = .levelHigh ∧ s.siu.island.high = true) ∨
      (s.mr.site.islandSense = .levelLow ∧ s.siu.island.high = false)
    (standing →
      ∃ t, exec .resume s = .next t ∧ t.mr.requests = rest ∧
        s.appends t .up (s.answerTo ⟨source, []⟩ [tag, 3, 7, 3]) ∧ s.changesOnly t answeredParts) ∧
    (¬standing →
      ∃ t, exec .resume s = .next t ∧ t.mr.requests = rest ∧ t.siu.freeze = false ∧ t.siu.island.latch = false ∧
        t.siu.island.high = s.siu.island.high ∧
        (s.mr.site.islandSense = .rising ∨ s.mr.site.islandSense = .falling → t.siu.island.active = false) ∧
        (s.siu.freeze = true → s.bd.table.control = .auto → t.bd.mode ≠ .island) ∧
        (s.siu.freeze = true → Claims.evaluates { s with siu.freeze := false } t []) ∧
        s.gains t .up (s.answerTo ⟨source, []⟩ [tag, 3, 0, 3]) ∧
        (s.siu.freeze = false → s.changesOnly t ({.island} ∪ answeredParts)) ∧
        s.changesOnly t ({.island, .freeze} ∪ evaluatedParts ∪ answeredParts))

/-- SHED_CLEAR by the rows of R39: under an edge sense the latch is cleared, SHED becomes inactive with SHED_CHANGE where the latch
was set, and the answer is OK; under a level sense REFUSED_STATE. That the answer comes before a STATUS frame is read from R174 (log
entry 17). -/
def Obligations.ShedClearBySense : Prop :=
  ∀ (s : State) (source tag : Byte) (rest : List Request), Claims.allowed s ⟨source, [tag, 3, 4]⟩ rest →
    (s.mr.site.shedSense = .levelHigh ∨ s.mr.site.shedSense = .levelLow →
      ∃ t, exec .shedClear s = .next t ∧ t.mr.requests = rest ∧
        s.appends t .up (s.answerTo ⟨source, []⟩ [tag, 3, 7, 4]) ∧ s.changesOnly t answeredParts) ∧
    (s.mr.site.shedSense = .rising ∨ s.mr.site.shedSense = .falling → s.siu.shed.active = s.siu.shed.latch →
      ∃ t, exec .shedClear s = .next t ∧ t.mr.requests = rest ∧ t.siu.shed = ⟨s.siu.shed.high, false, false⟩ ∧
        s.gains t .up (s.answerTo ⟨source, []⟩ [tag, 3, 0, 4]) ∧
        (s.siu.shed.latch = true → t.isPending .shedChange = true ∧ s.changesOnly t ({.shed, .events} ∪ answeredParts)) ∧
        (s.siu.shed.latch = false → s.changesOnly t answeredParts))

/-- TOPUP in AUTO in RESERVE, SHAVE or FULL sets the flag and BD evaluates with it, so that the mode becomes TOPUP below the target
and TOPUP_DONE is raised at or above it; otherwise it is refused (R81, R82). FORCE_CLOSE moves a CONNECTED, ACTIVE or SILENT bay to
CLOSING, and is refused elsewhere (R15). The due mark of its timer is the model's (log entry 10), and that an answer comes before a
STATUS frame is read from R174 (log entry 17). -/
def Obligations.TopUpAndForceClose : Prop :=
  (∀ (s : State) (source tag : Byte) (rest : List Request), Claims.allowed s ⟨source, [tag, 3, 5]⟩ rest →
    let taken := s.bd.table.control = .auto ∧ (s.bd.mode = .reserve ∨ s.bd.mode = .shave ∨ s.bd.mode = .full)
    (¬taken →
      ∃ t, exec .topUp s = .next t ∧ t.mr.requests = rest ∧ s.appends t .up (s.answerTo ⟨source, []⟩ [tag, 3, 7, 5]) ∧
        s.changesOnly t answeredParts) ∧
    (taken →
      ∃ t, exec .topUp s = .next t ∧ t.mr.requests = rest ∧ s.gains t .up (s.answerTo ⟨source, []⟩ [tag, 3, 0, 5]) ∧
        Claims.evaluates { s with bd.topUp := true } t [] ∧
        (∀ x, s.siu.freeze = false → s.batteryFigures = some x →
          (x.soc < s.bd.table.topUpTarget →
            t.bd.topUp = true ∧ t.bd.mode = .topUp ∧ t.bd.offerBd = 0 ∧
              t.bd.offerBc = min s.bd.table.chargeRating x.charge ∧ t.isPending .batteryMode = true) ∧
          (s.bd.table.topUpTarget ≤ x.soc → t.bd.topUp = false ∧ t.isPending .topUpDone = true)) ∧
        s.changesOnly t (evaluatedParts ∪ answeredParts))) ∧
  ∀ (s : State) (source tag bay : Byte) (rest : List Request), Claims.allowed s ⟨source, [tag, 3, 6, bay]⟩ rest →
    (32 ≤ bay.toNat →
      ∃ t, exec .forceClose s = .next t ∧ t.mr.requests = rest ∧
        s.appends t .up (s.answerTo ⟨source, []⟩ [tag, 3, 4, 6]) ∧ s.changesOnly t answeredParts) ∧
    ∀ b : BayNo, b.val = bay.toNat →
      let x := (s.bay b).session
      let running := x.state = .connected ∨ x.state = .active ∨ x.state = .silent
      (running →
        ∃ t, exec .forceClose s = .next t ∧ t.mr.requests = rest ∧
          (t.bay b).session = { x with state := .closing, endReason := some .forced, timer := some ⟨s.mu.uptime, false⟩ } ∧
          s.appends t .up (s.answerTo ⟨source, []⟩ [tag, 3, 0, 6]) ∧
          s.changesOnly t ({.session b} ∪ answeredParts)) ∧
      (¬running →
        ∃ t, exec .forceClose s = .next t ∧ t.mr.requests = rest ∧
          s.appends t .up (s.answerTo ⟨source, []⟩ [tag, 3, 7, 6]) ∧ s.changesOnly t answeredParts)

/-- RELEASE_RECEIPT: only the oldest receipt is released, and the answer is OK; with an empty held list the queue is one shorter,
and otherwise the head held bay's receipt is built from its session and metering parts, its frames queued before the answer, and its
bay opens a new session or is freed; then the high condition is evaluated; another number of the queue is NOT_OLDEST, and one that
is not there BAD_INDEX (R19, R130 to R141, R164). That the answer comes before a STATUS frame is read from R174 (log entry 17). -/
def Obligations.ReleaseHandsOn : Prop :=
  ∀ (s : State) (source tag : Byte) (number : BitVec 32) (rest : List Request),
    Claims.allowed s ⟨source, [tag, 3, 7] ++ field32 number⟩ rest →
    ((∀ r, s.rq.receipts.head? = some r → r.number ≠ number) →
      ∃ t, exec .releaseReceipt s = .next t ∧ t.mr.requests = rest ∧
        s.appends t .up (s.answerTo ⟨source, []⟩
          [tag, 3, if ∃ r ∈ s.rq.receipts, r.number = number then 9 else 4, 7]) ∧
        s.changesOnly t answeredParts) ∧
    ∀ oldest others, s.rq.receipts = oldest :: others → oldest.number = number →
      ∃ t, exec .releaseReceipt s = .next t ∧ t.mr.requests = rest ∧
        (s.held = [] →
          t.rq.receipts = others ∧ t.rq.next = s.rq.next ∧ t.rq.high = decide (s.mr.site.highWater ≤ others.length) ∧
          Claims.highRaised s t ∧
          s.gains t .up (s.answerTo ⟨source, []⟩ [tag, 3, 0, 7]) ∧
          s.changesOnly t ({.receipts, .events} ∪ answeredParts)) ∧
        ∀ b waiting, s.held = b :: waiting →
          t.held = waiting ∧
          (∃ n, t.rq.receipts = others ++ [n] ∧ Claims.receiptOf s b (s.bay b).session n ∧
            Claims.receiptQueued s t n (some (s.answerTo ⟨source, []⟩ [tag, 3, 0, 7]))) ∧
          t.rq.next = s.rq.next + 1 ∧ t.rq.high = decide (s.mr.site.highWater ≤ s.rq.receipts.length) ∧
          Claims.highRaised s t ∧
          (∀ g, (s.bay b).session.figures = some g → (s.bay b).config.enabled = true →
            (s.bay b).session.blocked = true →
            (t.bay b).session.id = (s.bay b).session.id + 1 ∧
            (t.bay b).session.state = (if g.state = .requesting ∧ 0 < g.requested then .active else .connected) ∧
            (t.bay b).session.startRegister = some g.register ∧ (t.bay b).session.startUptime = some s.mu.uptime ∧
            (t.bay b).session.blocked = false ∧ (t.bay b).metering.energy = 0) ∧
          ((s.bay b).config.enabled = false ∨ (s.bay b).session.blocked = false →
            (t.bay b).session =
              { (s.bay b).session with
                state := if (s.bay b).config.enabled then .vacant else .disabled, blocked := false }) ∧
          s.changesOnly t
            ({.receipts, .held, .links, .session b, .metering b, .events} ∪ answeredParts)

/-- The commands whose arguments can be too short, with their codes and the bytes they need (R170, 10.4). -/
def Claims.arguments : List (Instr × Byte × Nat) :=
  [(.setClock, 1, 5), (.forceClose, 6, 1), (.releaseReceipt, 7, 4), (.clearEvents, 8, 2)]

/-- UNKNOWN_COMMAND and BAD_TABLE_WRITE: what no service knows is answered by its status and changes nothing: an unknown operation
or command code UNKNOWN_COMMAND, an unknown table BAD_TABLE, a table that is not written READ_ONLY, and a payload without its fixed
fields BAD_LENGTH; and a COMMAND whose arguments are too short is answered BAD_LENGTH by its own command and changes nothing. An
unknown operation, and a payload that ends before its tag or operation, are answered so whatever the manager list holds; the others
from a source that the list lets write (R164, R165, R167, R170). Which row serves a request that names nothing known is the model's
choice (log entry 26), and the index byte of the answer to a WRITE that ends before its own is a free value (log entry 3). -/
def Obligations.UnservedRequests : Prop :=
  (∀ (s : State) (source : Byte) (p : List Byte) (rest : List Request), s.heads ⟨source, p⟩ rest →
    (∀ tag op fields, p = tag :: op :: fields → op ≠ 1 → op ≠ 2 → op ≠ 3 →
      ∃ t, exec .unknownCommand s = .next t ∧ t.mr.requests = rest ∧
        s.appends t .up (s.answerTo ⟨source, []⟩ [tag, op, 10]) ∧ s.changesOnly t answeredParts) ∧
    (p.length < 2 →
      ∃ t, exec .badTableWrite s = .next t ∧ t.mr.requests = rest ∧
        s.appends t .up (s.answerTo ⟨source, []⟩ [p.getD 0 0, p.getD 1 0, 5]) ∧ s.changesOnly t answeredParts)) ∧
  ∀ (s : State) (source : Byte) (p : List Byte) (rest : List Request), Claims.allowed s ⟨source, p⟩ rest →
    (∀ tag code arguments, p = tag :: 3 :: code :: arguments → code.toNat = 0 ∨ 9 < code.toNat →
      ∃ t, exec .unknownCommand s = .next t ∧ t.mr.requests = rest ∧
        s.appends t .up (s.answerTo ⟨source, []⟩ [tag, 3, 10, code]) ∧ s.changesOnly t answeredParts) ∧
    (∀ tag table index record, p = tag :: 2 :: table :: index :: record → table.toNat = 0 ∨ 8 < table.toNat →
      ∃ t, exec .badTableWrite s = .next t ∧ t.mr.requests = rest ∧
        s.appends t .up (s.answerTo ⟨source, []⟩
          ([tag, 2, if table.toNat = 0 ∨ 18 < table.toNat then 3 else 6, table, index] ++ planBytes s.mr.plan)) ∧
        s.changesOnly t answeredParts) ∧
    (∀ tag op, p = [tag, op] → op = 2 ∨ op = 3 →
      ∃ t, exec .badTableWrite s = .next t ∧ t.mr.requests = rest ∧
        s.appends t .up (s.answerTo ⟨source, []⟩ [tag, op, 5]) ∧ s.changesOnly t answeredParts) ∧
    (∀ tag table, p = [tag, 2, table] →
      ∃ t index, exec .badTableWrite s = .next t ∧ t.mr.requests = rest ∧
        s.appends t .up (s.answerTo ⟨source, []⟩ ([tag, 2, 5, table, index] ++ planBytes s.mr.plan)) ∧
        s.changesOnly t answeredParts) ∧
    ∀ c code needed, (c, code, needed) ∈ Claims.arguments → ∀ tag arguments, p = tag :: 3 :: code :: arguments →
      arguments.length < needed →
      ∃ t, exec c s = .next t ∧ t.mr.requests = rest ∧
        s.appends t .up (s.answerTo ⟨source, []⟩ [tag, 3, 5, code]) ∧ s.changesOnly t answeredParts

/-! ### Resets and pins -/

/-- WARM_RESTART: what it keeps, and what each block's chapter sets (R27, R38, R44, R71, R91, R106, R126, R144, R163, R176). That
SHED_CHANGE is raised for an active SHED that the restart clears is read from R38 (log entry 19), and that one STATUS frame carries
all that the restart raised from R174 (log entry 17); the phase and the operands, and the marks in timers, guards and records, are
the model's (log entries 14 and 15, and 6, 10 and 16). -/
def Obligations.WarmRestartState : Prop :=
  ∀ (s : State) (cause : RestartCause) (shedHigh islandHigh : Bool),
    s.powered = true →
    (cause = .resetPin ∧ s.mr.resetArmed = true) ∨ (cause = .answerDone ∧ s.mr.restart = .due) ∨
      (cause = .answerLate ∧ s.mr.restart ≠ .idle) →
    ∃ t, exec (.warmRestart cause shedHigh islandHigh) s = .next t ∧
      t.mr.restart = .idle ∧ t.mr.requests = [] ∧ (cause = .resetPin → t.mr.resetArmed = false) ∧
      (∀ p, (t.port p).waiting = true ∧ (t.port p).sending = none ∧ (t.port p).counters.line = (0, 0, 0, 0) ∧
        (t.port p).counters.drop = 0 ∧
        (t.port p).queue = (if p = .up ∧ t.unmasked ≠ 0 then
          [⟨⟨s.mr.site.alertDest, s.own, kindStatus, t.statusPayload⟩, .status⟩] else [])) ∧
      t.fs.unknownStation = 0 ∧ t.fs.ownAddressDrops = 0 ∧ t.fs.limitClamps = 0 ∧ t.fs.autoBatteryDrops = 0 ∧
      (∀ pos : Position, t.fs.counts[pos] = 0 ∧
        t.siu.records[pos] = (s.siu.records[pos]).map fun _ => ⟨none, 255, s.mu.uptime, false⟩) ∧
      t.siu.shed.fits s.mr.site.shedSense ∧ t.siu.shed.high = shedHigh ∧ t.siu.shed.latch = false ∧
      t.siu.island.fits s.mr.site.islandSense ∧ t.siu.island.high = islandHigh ∧ t.siu.island.latch = false ∧
      t.siu.freeze = t.siu.island.active ∧
      (∀ b, (t.bay b).alloc = ⟨.none, 0, none, ⟨0, false⟩⟩ ∧
        ((s.bay b).session.state.isOpen = true →
          (t.bay b).session = { (s.bay b).session with restarted := true, timer := some ⟨s.mu.uptime, false⟩ }) ∧
        ((s.bay b).session.state.isOpen = false → (t.bay b).session = (s.bay b).session)) ∧
      (∀ k : ClassNo, t.ae.lists[k] = (List.finRange 32).filter
        fun b => decide ((s.bay b).session.state = .active ∧ (s.bay b).config.cls = k)) ∧
      (∀ k : ClassNo, t.ae.dwells[k].running = false ∧ t.ae.dwells[k].mark = false ∧
        t.ae.dwells[k].timer = ⟨if s.mr.site.dwell[k] = 0 then 65536 else s.mr.site.dwell[k], false⟩) ∧
      t.ae.trim = 0 ∧ t.ae.balance = Balance.zero ∧ t.ae.pass = none ∧ t.ae.settling = true ∧
      t.ae.settleStart = s.mu.uptime ∧ t.ae.timer.left = s.mr.site.allocPeriod ∧
      t.bd.memory = none ∧ t.bd.topUp = false ∧ t.bd.manual = 0 ∧ t.bd.sent = none ∧ t.bd.lastSoc = none ∧
      t.bd.offerBd = 0 ∧ t.bd.offerBc = 0 ∧
      t.bd.mode = (if s.bd.table.control = .manual then .manual else if t.siu.freeze then .island else .off) ∧
      t.cc.amount = 0 ∧ t.cc.target = 0 ∧ t.cc.common = 0 ∧ t.cc.pass = none ∧ t.cc.timer.left = s.cc.table.period ∧
      (∀ j : StringNo, t.cc.strings[j].cap = none ∧ t.cc.strings[j].sent = none ∧
        (t.cc.strings[j].release = true ↔ ∃ last, s.cc.strings[j].sent = some last ∧
          last.cap ≠ s.cc.table.strings[j].rating)) ∧
      t.rq.receipts = s.rq.receipts ∧ t.rq.next = s.rq.next ∧
      t.rq.high = decide (s.mr.site.highWater ≤ s.rq.receipts.length) ∧
      (∀ e : Event, t.isPending e = true →
        e = .shedChange ∨ e = .islandOn ∨ e = .batteryMode ∨ e = .receiptHigh) ∧
      (t.isPending .shedChange = (s.siu.shed.active || t.siu.shed.active) ∧
        t.isPending .islandOn = t.siu.island.active ∧ t.isPending .receiptHigh = t.rq.high ∧
        (t.isPending .batteryMode = true ↔ t.bd.mode ≠ s.bd.mode)) ∧
      (∀ part, (∃ b, part = .config b ∨ part = .metering b) ∨ (∃ pos, part = .station pos) ∨
          part ∈ ([.commands, .power, .rate, .links, .held, .batteryTable, .canopyTable, .uptime, .clock, .profiles, .lastTick,
            .site, .mask, .plan] : List Part) →
        s.same t part)

/-- SUPPLY_LOSS holds the part in reset, ALERT released, where no other command but COLD_RESET does anything; COLD_RESET then leaves
it in the state after reset but for the strapped rate and the pins: SHED_CHANGE, ISLAND_ON, the freeze and the mode ISLAND where a
pin is high (R43, R90, R145, R177, R178). RESET_PIN_RETURN_HIGH lets the pin request again (R176). What the part holds in reset, the
pin levels as operands and the RESET pin's mark are the model's (log entries 15, 21 and 33), and that the one STATUS frame of the
cold reset carries every event it raised is read from R174 (log entry 17). -/
def Obligations.SupplyAndResetPin : Prop :=
  (∀ s : State, ∃ t, exec .supplyLoss s = .next t ∧ t.powered = false ∧ t.alert = false ∧ t.pending = s.pending) ∧
  (∀ (c : Instr) (s : State), s.powered = false → c ≠ .supplyLoss → (∀ a b h i, c ≠ .coldReset a b h i) →
    s.alert = false ∧ exec c s = .next s) ∧
  (∀ (s : State) (strap1 strap2 shedHigh islandHigh : Bool), s.powered = false →
    ∃ t, exec (.coldReset strap1 strap2 shedHigh islandHigh) s = .next t ∧ t.powered = true ∧
      t.li.rate = (match strap1, strap2 with
        | false, false => .r115200 | false, true => .r57600 | true, false => .r230400 | true, true => .r460800) ∧
      t.siu.shed = ⟨shedHigh, shedHigh, false⟩ ∧ t.siu.island = ⟨islandHigh, islandHigh, false⟩ ∧
      t.siu.freeze = islandHigh ∧ t.bd = { State.reset.bd with mode := if islandHigh then .island else .off } ∧
      (∀ e : Event, t.isPending e = true ↔
        (e = .shedChange ∧ shedHigh = true) ∨ (e = .islandOn ∧ islandHigh = true) ∨
          (e = .batteryMode ∧ islandHigh = true)) ∧
      t.li.up.queue = (if shedHigh || islandHigh then
        [⟨⟨0xFF, 0xF0, kindStatus, t.statusPayload⟩, .status⟩] else []) ∧
      State.reset.changesOnly t {.commands, .rate, .shed, .island, .freeze, .battery, .events, .queue .up}) ∧
  ∀ s : State, s.powered = true →
    ∃ t, exec .resetPinReturnHigh s = .next t ∧ t.mr.resetArmed = true ∧ s.changesOnly t {.resetPin}

/-- The new state of a control input by its sense (R35, R36). -/
def Claims.inputAfter (i : Input) (high : Bool) : Sense → Input
  | .levelHigh => ⟨high, high, false⟩
  | .levelLow => ⟨high, !high, false⟩
  | .rising => ⟨high, i.latch || (!i.high && high), i.latch || (!i.high && high)⟩
  | .falling => ⟨high, i.latch || (i.high && !high), i.latch || (i.high && !high)⟩

/-- SHED_PIN_LEVEL and ISLAND_PIN_LEVEL: the input follows its sense; each change of SHED raises SHED_CHANGE, and ISLAND becoming
active raises ISLAND_ON and sets the freeze, on which BD evaluates where the freeze was clear, to ISLAND under AUTO, and is else
left alone; the freeze is never cleared here (R35, R36, R38, R40, R42, R76, R78). -/
def Obligations.PinLevels : Prop :=
  ∀ (s : State) (high : Bool), s.powered = true →
    (∃ t, exec (.shedPinLevel high) s = .next t ∧
      t.siu.shed = Claims.inputAfter s.siu.shed high s.mr.site.shedSense ∧
      t.mr.events = (if t.siu.shed.active = s.siu.shed.active then s.mr.events else s.mr.events ||| 1#16) ∧
      s.changesOnly t ({.shed} ∪ raisedParts)) ∧
    ∃ t, exec (.islandPinLevel high) s = .next t ∧
      t.siu.island = Claims.inputAfter s.siu.island high s.mr.site.islandSense ∧
      (t.siu.island.active = true → s.siu.island.active = false →
        t.siu.freeze = true ∧ t.isPending .islandOn = true ∧
        (s.siu.freeze = false → s.bd.table.control = .auto →
          t.bd.mode = .island ∧ t.bd.topUp = false ∧ t.bd.offerBd = 0 ∧ t.bd.offerBc = 0 ∧ t.bd.sent = none) ∧
        (s.siu.freeze = false →
          Claims.evaluates { s with siu.freeze := true } t []) ∧
        (s.siu.freeze = true → s.changesOnly t ({.island} ∪ raisedParts))) ∧
      (t.siu.island.active = false ∨ s.siu.island.active = true → s.changesOnly t {.island}) ∧
      s.changesOnly t ({.island, .freeze} ∪ evaluatedParts)

/-! ### Time -/

/-- Shares of `total` in proportion to weights: each the floor of its proportion, or 1 J above it for the largest remainders, equal
remainders serving the lower bay number first; 0 for all where the weights are (R119). -/
def Claims.sharedOut (total : Nat) (weight share : BayNo → Nat) : Prop :=
  let whole := ((List.finRange 32).map weight).sum
  if whole = 0 then ∀ b, share b = 0
  else
    (∀ b, share b = total * weight b / whole ∨ share b = total * weight b / whole + 1) ∧
      ∀ b c, share b = total * weight b / whole + 1 → share c = total * weight c / whole →
        total * weight c % whole < total * weight b % whole ∨
          (total * weight c % whole = total * weight b % whole ∧ b < c)

/-- A countdown by one second: above 1 it is one less; its last second marks it due; at 0 it stands (the mark is the model's: log
entry 6). -/
def Claims.counted (old new : Countdown) : Prop :=
  (1 < old.left → new.left + 1 = old.left ∧ new.due = old.due) ∧ (old.left = 1 → new = ⟨1, true⟩) ∧
    (old.left = 0 → new = old)

/-- What a second of uptime does to every timer: guards (R59), dwell timers that run (R54), pass timers (R45, R94), session timers
(R10) and pending links (R24). -/
def Claims.secondCounted (s t : State) : Prop :=
  Claims.counted s.ae.timer t.ae.timer ∧ Claims.counted s.cc.timer t.cc.timer ∧
    (∀ k : ClassNo,
      (s.ae.dwells[k].running = true → Claims.counted s.ae.dwells[k].timer t.ae.dwells[k].timer ∧
        t.ae.dwells[k].running = true ∧ t.ae.dwells[k].mark = s.ae.dwells[k].mark) ∧
      (s.ae.dwells[k].running = false → t.ae.dwells[k] = s.ae.dwells[k])) ∧
    (∀ b : BayNo, Claims.counted (s.bay b).alloc.guard (t.bay b).alloc.guard ∧
      { (t.bay b).alloc with guard := (s.bay b).alloc.guard } = (s.bay b).alloc ∧
      { (t.bay b).session with timer := (s.bay b).session.timer, link := (s.bay b).session.link } = (s.bay b).session ∧
      ((s.bay b).session.timer = none → (t.bay b).session.timer = none) ∧
      ∀ start due, (s.bay b).session.timer = some ⟨start, due⟩ →
        let passed := (s.mu.uptime + 1 - start).toNat
        ∃ ranOut, (t.bay b).session.timer = some ⟨start, ranOut⟩ ∧
          (ranOut = true ↔
            ((s.bay b).session.state = .connected ∨ (s.bay b).session.state = .active) ∧ s.mr.site.silenceTimeout ≤ passed ∨
              (s.bay b).session.state = .silent ∧ s.mr.site.silentClose ≤ passed ∨
              (s.bay b).session.state = .closing ∧ s.mr.site.closeHold ≤ passed)) ∧
    t.links = s.links.map fun e =>
      { e with due := decide (s.mr.site.linkLifetime ≤ (s.mu.uptime + 1 - e.stored).toNat) }

/-- A tick's energy and cost go to the entry of the band in force; where there is none, to a new entry at the tail of fewer than 8,
and else to the eighth, which keeps its identity, with the merged flag set (R122). -/
def Claims.bandEntered (old new : Metering) (ref : BandRef) (joules cost : Nat) : Prop :=
  (∀ front e back, old.bands = front ++ e :: back → e.band = ref → (∀ x ∈ front ++ back, x.band ≠ ref) →
    new.bands = front ++ ⟨ref, e.joules + joules, e.cost + cost⟩ :: back ∧ new.merged = old.merged) ∧
  ((∀ x ∈ old.bands, x.band ≠ ref) → old.bands.length < 8 →
    new.bands = old.bands ++ [⟨ref, joules, cost⟩] ∧ new.merged = old.merged) ∧
  ∀ seven eighth, old.bands = seven ++ [eighth] → seven.length = 7 → (∀ x ∈ old.bands, x.band ≠ ref) →
    new.bands = seven ++ [⟨eighth.band, eighth.joules + joules, eighth.cost + cost⟩] ∧ new.merged = true

/-- METERING_TICK: uptime and the site clock advance by a second; the site split is that of R118; each bay's shares are whole and
add up, each the floor of its proportion with the rest given 1 J each by largest remainder; the accounts of the open bays grow by
them, the allowance being spent on grid energy first and the rest priced at the band in force, whose entry takes energy and cost, a
new one at the tail or, past eight, the eighth with the merged flag; those of the other bays stand still (R107, R108, R117 to R124).
The second counts down the restart guards, the running dwell timers and both pass timers, and finds the session timers and pending
links that have run out (R10, R24, R45, R54, R59, R94). That it is this tick which counts the timers, and their due marks, are the
model's (log entries 6 and 10), as is that a bay is metered before a timer that runs out in the same second acts on it (log entry
47). -/
def Obligations.MeteringTick : Prop :=
  (∀ s : State, s.powered = true → ∃ t, exec .meteringTick s = .next t ∧ Claims.secondCounted s t) ∧
  ∀ (s : State), s.powered = true →
    ∃ (t : State) (solar battery : BayNo → Nat), exec .meteringTick s = .next t ∧ t.mu.uptime = s.mu.uptime + 1 ∧
      t.mu.clock = s.mu.clock.map (fun c =>
        if c.second < 86399 then ⟨c.day, c.second + 1⟩ else ⟨c.day + 1, 0⟩) ∧
      (let energy (b : BayNo) : Nat :=
        match (s.bay b).session.state, (s.bay b).session.figures with
        | .connected, some f | .active, some f | .closing, some f => f.power
        | _, _ => 0
       let split := t.mu.lastSplit
       split.ch = ((List.finRange 32).map energy).sum ∧ split.pv = s.solarSum ∧ split.shop = s.shopLoad ∧
       split.bd = (match s.batteryFigures with | some f => f.power.toNat | none => 0) ∧
       split.solarCh = min split.ch (split.pv - split.shop) ∧
       split.batteryCh = min (split.ch - split.solarCh) (split.bd - (split.shop - split.pv)) ∧
       split.solarCh + split.batteryCh + split.gridCh = split.ch ∧
       t.mu.lastBand = t.bandRef ∧
       ((List.finRange 32).map solar).sum = split.solarCh ∧ ((List.finRange 32).map battery).sum = split.batteryCh ∧
       Claims.sharedOut split.solarCh energy solar ∧
       Claims.sharedOut split.batteryCh (fun b => energy b - solar b) battery ∧
       ∀ b : BayNo, solar b + battery b ≤ energy b ∧
         ((s.bay b).session.state.isOpen = true →
           (t.bay b).metering.energy = (s.bay b).metering.energy + energy b ∧
           (t.bay b).metering.solar = (s.bay b).metering.solar + solar b ∧
           (t.bay b).metering.battery = (s.bay b).metering.battery + battery b ∧
           (t.bay b).metering.grid = (s.bay b).metering.grid + (energy b - solar b - battery b) ∧
           (t.bay b).metering.peak = max (s.bay b).metering.peak (s.bay b).alloc.grant ∧
           (let waits := (s.bay b).alloc.outcome = .waitingBudget ∨ (s.bay b).alloc.outcome = .waitingGuard ∨
              (s.bay b).alloc.outcome = .waitingShed
            let left := match (s.bay b).session.link with | some l => l.remaining | none => 0
            let freeGrid := min (energy b - solar b - battery b) left
            let freeGreen := min (solar b + battery b) (left - freeGrid)
            (t.bay b).metering.wait =
              (if waits then min 4294967295 ((s.bay b).metering.wait + 1) else (s.bay b).metering.wait) ∧
            (t.bay b).metering.shed =
              (if (s.bay b).alloc.outcome = .waitingShed then min 4294967295 ((s.bay b).metering.shed + 1)
                else (s.bay b).metering.shed) ∧
            (t.bay b).metering.free = (s.bay b).metering.free + freeGrid + freeGreen ∧
            (t.bay b).session.link =
              (s.bay b).session.link.map (fun l => { l with remaining := l.remaining - (freeGrid + freeGreen) }) ∧
            ((s.bay b).metering.balanced →
              ((t.bay b).metering.bands.map (·.cost)).sum = ((s.bay b).metering.bands.map (·.cost)).sum +
                (energy b - solar b - battery b - freeGrid) * t.bandInForce.gridPrice +
                (solar b + battery b - freeGreen) * t.bandInForce.greenPrice) ∧
            Claims.bandEntered (s.bay b).metering (t.bay b).metering t.bandRef (energy b)
              ((energy b - solar b - battery b - freeGrid) * t.bandInForce.gridPrice +
                (solar b + battery b - freeGreen) * t.bandInForce.greenPrice))) ∧
         ((s.bay b).session.state.isOpen = false → (t.bay b).metering = (s.bay b).metering ∧
           (t.bay b).session.link = (s.bay b).session.link)) ∧
      (∀ b, (t.bay b).session.state = (s.bay b).session.state ∧ (t.bay b).session.figures = (s.bay b).session.figures ∧
        (t.bay b).alloc.grant = (s.bay b).alloc.grant ∧ (t.bay b).alloc.outcome = (s.bay b).alloc.outcome) ∧
      s.changesOnly t
        ({.uptime, .clock, .lastTick, .allocTimer, .canopyTimer, .links} ∪ Set.range Part.session ∪
          Set.range Part.metering ∪ Set.range Part.grant ∪ Set.range Part.dwell)

/-- MEASURE_AGE_TICK adds a second to every age, up to 255; RECORD_STALE raises the role's event for a record past the hold
time, once: a record already reported, or not past it, is left as it is; BD evaluates at a battery
record's, and under AUTO without a freeze a stale battery leaves the mode OFF (R31, R32, R76, R77).  RECORD_STALE as a step, and the
reported mark, are the model's (log entry 16). -/
def Obligations.RecordsAge : Prop :=
  (∀ s : State, s.powered = true →
    ∃ t, exec .measureAgeTick s = .next t ∧
      (∀ pos : Position, t.siu.records[pos] = (s.siu.records[pos]).map fun r => { r with age := min 255 (r.age + 1) }) ∧
      s.changesOnly t (Set.range Part.record)) ∧
  (∀ (s : State) (pos : Position) (r : MeasRecord), s.siu.records[pos] = some r →
    r.reported = true ∨ ¬Claims.pastHold s r s.mr.site.holdTime → exec (.recordStale pos) s = .next s) ∧
  ∀ (s : State) (pos : Position) (r : MeasRecord) (e : Station), s.powered = true → s.siu.records[pos] = some r →
    s.fs.stations[pos] = some e → e.role.measures = true → r.reported = false →
    (r.values ≠ none ∧ s.mr.site.holdTime < r.age) ∨
      (r.values = none ∧ s.mr.site.holdTime < (s.mu.uptime - r.waitStart).toNat) →
    ∃ t, exec (.recordStale pos) s = .next t ∧ t.siu.records[pos] = some { r with reported := true } ∧
      (e.role = .gridMeter ∨ e.role = .shopMeter → t.isPending .meterStale = true) ∧
      ((∃ j, e.role = .pvString j) → t.isPending .stringStale = true) ∧
      (e.role = .battery → t.isPending .batteryStale = true) ∧
      (e.role ≠ .battery → s.changesOnly t ({.record pos} ∪ raisedParts)) ∧
      (s.stationFor .battery = some (pos, e) → s.bd.table.control = .auto → s.siu.freeze = false →
        t.bd.mode = .off ∧ t.bd.memory = none ∧ t.bd.topUp = false ∧ t.bd.offerBd = 0 ∧ t.bd.offerBc = 0 ∧
          t.bd.sent = none) ∧
      (e.role = .battery → Claims.evaluates s t []) ∧
      s.changesOnly t ({.record pos} ∪ evaluatedParts)

/-- A session timer of a bay that a second of uptime found run out, by the duration of the site table (R10).  The mark is the model's
(log entry 10). -/
def Claims.ranOut (s : State) (b : BayNo) (duration : Nat) : Prop :=
  ∃ start, (s.bay b).session.timer = some ⟨start, true⟩ ∧ duration ≤ (s.mu.uptime - start).toNat

/-- SILENCE_EXPIRY makes a CONNECTED or ACTIVE bay SILENT with BAY_SILENT; SILENT_CLOSE_EXPIRY and CLOSE_HOLD_EXPIRY finalise with
reason SILENT and with the reason held, without a final register: with room in the receipt queue a receipt is built, and with 48
receipts the bay is HELD at the held list's tail with RECEIPT_HELD, its blocked-plug flag follows its figures, and the flag's
setting queues a GRANT of 0 with outcome NONE; PENDING_LINK_EXPIRY removes the entry of the bay with LINK_EXPIRED (R11, R12, R13,
R14, R17, R18, R24, R130 to R137, R141). The due marks are the model's (log entry 10), and that a STATUS frame of the event comes
last is read from R174 (log entry 17). -/
def Obligations.SessionExpiries : Prop :=
  (∀ (s : State) (b : BayNo), s.powered = true →
    (s.bay b).session.state = .connected ∨ (s.bay b).session.state = .active →
    Claims.ranOut s b s.mr.site.silenceTimeout →
    ∃ t, exec (.silenceExpiry b) s = .next t ∧
      (t.bay b).session = { (s.bay b).session with state := .silent, timer := some ⟨s.mu.uptime, false⟩ } ∧
      t.isPending .baySilent = true ∧ s.changesOnly t ({.session b} ∪ raisedParts)) ∧
  (∀ (s : State) (b : BayNo) (c : Instr) (reason : EndReason), s.powered = true →
    (c = .silentCloseExpiry b ∧ (s.bay b).session.state = .silent ∧ Claims.ranOut s b s.mr.site.silentClose ∧
        reason = .silent) ∨
      (c = .closeHoldExpiry b ∧ (s.bay b).session.state = .closing ∧ Claims.ranOut s b s.mr.site.closeHold ∧
        (s.bay b).session.endReason = some reason) →
    s.rq.receipts.length < receiptSlots →
    ∃ t n, exec c s = .next t ∧ t.rq.receipts = s.rq.receipts ++ [n] ∧ t.rq.next = s.rq.next + 1 ∧
      Claims.receiptOf s b
        { (s.bay b).session with
          endReason := some reason, endTime := s.mu.clock, endUptime := some s.mu.uptime, finalRegister := none } n ∧
      Claims.receiptQueued s t n none ∧ Claims.highRaised s t ∧
      (t.bay b).session.state = (if (s.bay b).config.enabled then .vacant else .disabled) ∧
      (t.bay b).session.finalRegister = none ∧ (t.bay b).session.endUptime = some s.mu.uptime ∧
      s.changesOnly t ({.session b, .receipts} ∪ raisedParts)) ∧
  (∀ (s : State) (b : BayNo) (c : Instr) (reason : EndReason), s.powered = true →
    (c = .silentCloseExpiry b ∧ (s.bay b).session.state = .silent ∧ Claims.ranOut s b s.mr.site.silentClose ∧
        reason = .silent) ∨
      (c = .closeHoldExpiry b ∧ (s.bay b).session.state = .closing ∧ Claims.ranOut s b s.mr.site.closeHold ∧
        (s.bay b).session.endReason = some reason) →
    receiptSlots ≤ s.rq.receipts.length →
    let was := (s.bay b).session.blocked
    let plugged : Bool := match (s.bay b).session.figures with
      | some g => decide (g.state = .connected ∨ g.state = .requesting)
      | none => false
    ∃ t, exec c s = .next t ∧
      (t.bay b).session =
        { (s.bay b).session with
          state := .held, finalRegister := none, endTime := s.mu.clock, endUptime := some s.mu.uptime
          endReason := some reason, timer := none, blocked := plugged } ∧
      t.held = s.held ++ [b] ∧ t.isPending .receiptHeld = true ∧
      (was = true ∨ plugged = false ∨ s.stationFor (.charger b) = none →
        t.li.down.queue = s.li.down.queue ∧ t.li.down.counters.drop = s.li.down.counters.drop) ∧
      (∀ pos e, was = false → plugged = true → s.stationFor (.charger b) = some (pos, e) →
        s.li.down.queue.length < queueSize ∨ (∃ q ∈ s.li.down.queue, q.origin = .grant b) →
        ∃ q ∈ t.li.down.queue, q.origin = .grant b ∧ q.frame.dest = e.address ∧ q.frame.source = s.own ∧
          q.frame.kind = kindGrant ∧ q.frame.payload.take 4 = [BitVec.ofNat 8 b.val, 0, 0, 0]) ∧
      s.changesOnly t ({.session b, .held, .queue .down, .drops .down} ∪ raisedParts)) ∧
  ∀ (s : State) (b : BayNo) (e : PendingLink), s.powered = true → e ∈ s.links → e.bay = b → e.due = true →
    s.mr.site.linkLifetime ≤ (s.mu.uptime - e.stored).toNat →
    ∃ t, exec (.pendingLinkExpiry b) s = .next t ∧ t.links = s.links.filter (fun x => x.bay ≠ b) ∧
      t.isPending .linkExpired = true ∧ s.changesOnly t ({.links} ∪ raisedParts)

/-! ### Passes -/

/-- `v` is what the SIU gives for a role: the values of the record at the lowest position whose entry has the role, while it is
fresh; a record that is absent, never received or past the hold time gives none (R31, R34). -/
def Claims.figuresOf (s : State) (role : Role) (v : Option Values) : Prop :=
  (∀ (pos : Position) (e : Station), s.fs.stations[pos] = some e → e.role = role →
    (∀ (lower : Position) (other : Station), lower < pos → s.fs.stations[lower] = some other → other.role ≠ role) →
    v = (s.siu.records[pos]).bind fun r => if r.age ≤ s.mr.site.holdTime then r.values else none) ∧
  ((∀ (pos : Position) (e : Station), s.fs.stations[pos] = some e → e.role ≠ role) → v = none)

/-- The figures that the SIU gives the other blocks, row by row of R34. -/
def Claims.siteFigures (s : State) : Prop :=
  (∀ v, Claims.figuresOf s .gridMeter v →
    (∀ power register, v = some (.grid power register) → s.gridPower = some power) ∧ (v = none → s.gridPower = none)) ∧
  (∀ v, Claims.figuresOf s .shopMeter v →
    (∀ power, v = some (.shop power) → s.shopLoad = power ∧ s.shopFresh = true) ∧
      (v = none → s.shopLoad = s.mr.site.assumedShop ∧ s.shopFresh = false)) ∧
  (∀ (j : StringNo) (v), Claims.figuresOf s (.pvString j) v →
    (∀ power rating, v = some (.pv power rating) → s.stringPower j = power) ∧ (v = none → s.stringPower j = 0)) ∧
  s.solarSum = ((List.finRange 8).map s.stringPower).sum ∧
  ∀ v, Claims.figuresOf s .battery v →
    (∀ power soc charge discharge, v = some (.battery power soc charge discharge) →
      s.batteryFigures = some ⟨power, soc, charge, discharge⟩) ∧ (v = none → s.batteryFigures = none)

/-- The band in force: A0 while the clock is unset; else, in the profile of the weekday, the band of highest position that starts at
or below the minute of day, or the last one where none does (R112, R113). -/
def Claims.bandFound (s : State) : Prop :=
  let profile : ProfileName → Profile := fun name => match name with | .a => s.mu.profileA | .b => s.mu.profileB
  let bands := (profile s.bandRef.profile).first :: (profile s.bandRef.profile).rest
  bands[s.bandRef.position]? = some s.bandInForce ∧ (s.mu.clock = none → s.bandRef = ⟨.a, 0⟩) ∧
    ∀ now, s.mu.clock = some now →
      (s.bandRef.profile = .b ↔ s.mr.site.weekend.getLsbD (now.day.toNat % 7) = true) ∧
      ((s.bandInForce.start ≤ now.second / 60 ∧
          ∀ later band, s.bandRef.position < later → bands[later]? = some band → now.second / 60 < band.start) ∨
        ((∀ band ∈ bands, now.second / 60 < band.start) ∧ s.bandRef.position + 1 = bands.length))

/-- A candidate of a pass, with its currents: a bay that is ACTIVE, enabled, not under guard and not shed (R51). -/
def Claims.isCandidate (s : State) (c : Candidate) : Prop :=
  let x := s.bay c.bay
  ∃ f, x.session.figures = some f ∧ x.session.state = .active ∧ x.config.enabled = true ∧ x.alloc.guard.left = 0 ∧
    ¬(s.siu.shed.active = true ∧ s.mr.site.shedFloor < x.config.cls.val) ∧ c.cls = x.config.cls ∧ c.phases = f.phases ∧
    c.imin = f.minimum ∧
    c.imax = max f.minimum
      (if x.config.cap = 0 then min f.requested f.maximum else min (min f.requested f.maximum) x.config.cap)

/-- A pass in flight holds its snapshot: the marks of grid, SHED and PEAK, the site table fields it works by, and the shop and solar
figures, which SETTLE and FALLBACK do not read (R46, R61, R65, R69); and of every bay whether it is ACTIVE, its class, its phases,
whether it is a candidate with its maximum power (R51), and the lowest position of its CHARGER entry (R67). -/
def Claims.holdsSnapshot (s : State) (p : AllocPass) : Prop :=
  (p.gridFresh = s.gridPower.isSome ∧ p.shed = s.siu.shed.active ∧ p.peak = s.bandInForce.peak ∧
      p.volts = s.mr.site.volts ∧ p.restartGuard = s.mr.site.restartGuard ∧ p.grantRefresh = s.mr.site.grantRefresh ∧
      (p.basis = .normal ∨ p.basis = .frozen → p.shop = s.shopLoad ∧ p.solar = s.solarSum) ∧
      (p.basis = .settle ∨ p.basis = .fallback →
        p.target = 0 ∧ p.shop = 0 ∧ p.solar = 0 ∧ p.avail = 0 ∧ p.offer = 0 ∧ p.trim = s.ae.trim)) ∧
    (∀ b : BayNo, (p.lines[b].active = true ↔ (s.bay b).session.state = .active) ∧
      p.lines[b].cls = (s.bay b).config.cls ∧
      (∀ f, (s.bay b).session.figures = some f → p.lines[b].phases = f.phases) ∧
      (p.lines[b].candidate = true ↔
        (p.basis = .normal ∨ p.basis = .fallback) ∧ ∃ c, Claims.isCandidate s c ∧ c.bay = b) ∧
      (p.lines[b].charger = none ↔ ∀ (pos : Position) (e : Station), s.fs.stations[pos] = some e → e.role ≠ .charger b) ∧
      ∀ pos : Position, p.lines[b].charger = some pos ↔
        (∃ e, s.fs.stations[pos] = some e ∧ e.role = .charger b) ∧
          ∀ (lower : Position) (e : Station), lower < pos → s.fs.stations[lower] = some e → e.role ≠ .charger b) ∧
    ∀ c, Claims.isCandidate s c → p.lines[c.bay].candidate = true →
      p.lines[c.bay].maxPower = (c.imax * s.mr.site.volts * c.phases.toNat + 9) / 10

/-- ALLOCATION_PASS_START: the basis of R47, the target of R48, the trim of R49, the budget of R50, and rotation lists of exactly
the ACTIVE bays of each class: those that stay in their order, then the new ones in ascending bay number, and, in a NORMAL pass
whose class has its rotate mark set, the bays last ADMITTED after the others; the marks are cleared in a NORMAL pass alone; and the
pass in flight holds its snapshot (R45 to R53, R61, R65, R67, R69). That a bay ADMITTED at the last publication goes after the
others also where it is appended at this snapshot is the model's choice (log entry 46). It works on the figures that the SIU gives
(R34) and the band in force (R112, R113), which are stated of every state. The timer's due mark is the model's (log entry 6). -/
def Obligations.PassBegins : Prop :=
  (∀ s : State, Claims.siteFigures s ∧ Claims.bandFound s) ∧
  ∀ (s : State), s.powered = true → s.ae.timer.due = true → s.ae.pass = none →
    ∃ t p, exec .allocationPassStart s = .next t ∧ t.ae.pass = some p ∧ Claims.holdsSnapshot s p ∧
      (let settles := s.ae.settling = true ∧ ¬((s.gridPower.isSome ∧ s.shopFresh = true) ∨
          s.mr.site.settleTimeout ≤ (s.mu.uptime - s.ae.settleStart).toNat)
       let l1 := if s.bandInForce.peak then s.mr.site.peakTarget else s.mr.site.importLimit
       let l2 := if s.siu.shed.active then min l1 s.mr.site.shedTarget else l1
       let target := if s.gridPower = none then min l2 s.mr.site.fallbackTarget else l2
       (settles → p.basis = .settle ∧ p.budget = 0) ∧
       (¬settles → s.siu.freeze = true → p.basis = .frozen) ∧
       (¬settles → s.siu.freeze = false → s.mr.plan ≠ none → p.basis = .fallback ∧ p.budget = s.mr.site.fallbackBudget) ∧
       (¬settles → s.siu.freeze = false → s.mr.plan = none → p.basis = .normal) ∧
       (t.ae.settling = true ↔ settles) ∧
       (p.basis = .normal ∨ p.basis = .frozen →
         p.target = target ∧ p.trim = t.ae.trim ∧
         (∀ w, s.gridPower = some w → (target : Int) < w →
           t.ae.trim = min target (s.ae.trim + (w - target).toNat) ∧ t.isPending .importOver = true) ∧
         ((∀ w, s.gridPower = some w → w ≤ (target : Int)) → t.ae.trim = min (s.ae.trim - s.mr.site.trimDecay) target) ∧
         p.avail = (target : Int) - s.mr.site.margin - t.ae.trim - s.shopLoad + s.solarSum ∧
         p.offer = s.bd.offerBd ∧ (p.budget : Int) = max 0 (p.avail + s.bd.offerBd)) ∧
       (p.basis = .settle ∨ p.basis = .fallback → t.ae.trim = s.ae.trim)) ∧
      (∀ k : ClassNo, ∀ b, b ∈ t.ae.lists[k] ↔ (s.bay b).session.state = .active ∧ (s.bay b).config.cls = k) ∧
      (∀ k : ClassNo,
        let belongs (b : BayNo) : Bool := decide ((s.bay b).session.state = .active ∧ (s.bay b).config.cls = k)
        let stay := s.ae.lists[k].filter belongs
        let list := stay ++ (List.finRange 32).filter fun b => belongs b && decide (b ∉ stay)
        let admitted (b : BayNo) : Bool := decide ((s.bay b).alloc.outcome = .admitted)
        t.ae.lists[k] =
          (if p.basis = .normal ∧ s.ae.dwells[k].mark = true then list.filter (fun b => !admitted b) ++ list.filter admitted
            else list) ∧
        t.ae.dwells[k] =
          { s.ae.dwells[k] with mark := if p.basis = .normal then false else s.ae.dwells[k].mark }) ∧
      s.changesOnly t
        ({.allocTimer, .settle, .allocPass, .trim} ∪ Set.range Part.rotation ∪ Set.range Part.dwell ∪ raisedParts)

/-- The power that the admitted bays of class `k` take when each stands `x` dA above its minimum, or at its maximum (R57). -/
def Claims.classPower (volts : Nat) (admitted : List Candidate) (k : ClassNo) (x : Nat) : Nat :=
  ((admitted.filter fun c => c.cls == k).map fun c => powerOf (c.imin + min (c.imax - c.imin) x) volts c.phases).sum

/-- The largest gap of class `k` (R57). -/
def Claims.classGap (admitted : List Candidate) (k : ClassNo) : Nat :=
  ((admitted.filter fun c => c.cls == k).map fun c => c.imax - c.imin).foldl max 0

/-- The candidates of a pass are those of R51, and its grants stand on the rotation lists it leaves (each bay at most once in them).
NORMAL: first-fit admission of the minimums in list order, class 0 first; then a common step for each class, the greatest that the
budget allows, the classes after the first that does not reach its largest gap keeping their minimums (R56, R57, R58). FALLBACK: in
bay order, its minimum to each candidate whose minimum power the remainder holds, and 0 to the others (R61). A bay that is ACTIVE
and enabled takes WAITING_GUARD while its guard is above 0, and else WAITING_SHED while SHED is active and its class is above the
shed floor, with grant 0 (R51, R59, R60), and a bay that is not both takes part with neither outcome nor grant; that this holds of
an ACTIVE bay that is not enabled, which no run has, is the model's (log entry 30), as is the timer's due mark (log entry 6). -/
def Obligations.GrantsOfAPass : Prop :=
  ∀ (s : State), s.powered = true → s.ae.timer.due = true → s.ae.pass = none → RotationInv s →
    ∃ t p, exec .allocationPassStart s = .next t ∧ t.ae.pass = some p ∧ p.volts = s.mr.site.volts ∧
      (∀ c, c ∈ t.walkOrder ↔ Claims.isCandidate s c) ∧ (t.walkOrder.map (·.bay)).Sublist t.ae.lists.toList.flatten ∧
      (∀ c, c ∈ s.bayOrder ↔ Claims.isCandidate s c) ∧ (s.bayOrder.map (·.bay)).Pairwise (· < ·) ∧
      (p.basis = .normal →
        let admitted := t.walkOrder.filter fun c => p.lines[c.bay].outcome == .admitted
        (∀ front c back, t.walkOrder = front ++ c :: back →
          (p.lines[c.bay].outcome = .admitted ↔
            ((front.filter fun d => p.lines[d.bay].outcome == .admitted).map fun d => d.minPower p.volts).sum
              + c.minPower p.volts ≤ p.budget) ∧
          (p.lines[c.bay].outcome = .admitted ∨ (p.lines[c.bay].outcome = .waitingBudget ∧ p.lines[c.bay].grant = 0))) ∧
        ∃ step : ClassNo → Nat,
          (∀ c ∈ admitted, p.lines[c.bay].grant = c.imin + min (c.imax - c.imin) (step c.cls)) ∧
          ∀ k : ClassNo,
            let power (x : Nat) : Nat :=
              ((List.finRange 8).map fun j : ClassNo =>
                Claims.classPower p.volts admitted j (if j < k then step j else if j = k then x else 0)).sum
            if ∀ j : ClassNo, j < k → step j = Claims.classGap admitted j then
              step k ≤ Claims.classGap admitted k ∧ power (step k) ≤ p.budget ∧
                ∀ x, step k < x → x ≤ Claims.classGap admitted k → p.budget < power x
            else step k = 0) ∧
      (p.basis = .fallback →
        ∀ front c back, s.bayOrder = front ++ c :: back →
          p.lines[c.bay].outcome = .fallback ∧
          p.lines[c.bay].grant =
            (if (front.map fun d => powerOf p.lines[d.bay].grant p.volts d.phases).sum + c.minPower p.volts ≤ p.budget then
              c.imin else 0)) ∧
      ∀ b : BayNo,
        let x := s.bay b
        let running := x.session.state = .active ∧ x.config.enabled = true
        let shed := s.siu.shed.active = true ∧ s.mr.site.shedFloor < x.config.cls.val
        (running → 0 < x.alloc.guard.left → p.lines[b].outcome = .waitingGuard ∧ p.lines[b].grant = 0) ∧
          (running → x.alloc.guard.left = 0 → shed → p.lines[b].outcome = .waitingShed ∧ p.lines[b].grant = 0) ∧
          (¬running → p.lines[b].outcome = .none ∧ p.lines[b].grant = 0)

/-- The Down queue after own frames are offered to it one after the other: each replaces in place, is appended, or is dropped (R157,
R158). -/
def Claims.offered (queue frames : List Queued) : List Queued :=
  frames.foldl (fun q frame => (enqueue q frame).getD q) queue

/-- The GRANT that a publication owes a bay: to the bay's charger, where the last one sent is absent, differs from the grant and
outcome as published in `t`, or is due for refresh (R67). -/
def Claims.grantOwed (s t : State) (p : AllocPass) (b : BayNo) : Option Queued :=
  let a := (t.bay b).alloc
  let due : Bool :=
    match (s.bay b).alloc.sent with
    | none => true
    | some last => last.grant ≠ a.grant ∨ last.outcome ≠ a.outcome ∨ p.grantRefresh ≤ (s.mu.uptime - last.sentAt).toNat
  match p.lines[b].charger.bind (s.grantAddress b) with
  | some address =>
    if due then
      some ⟨⟨address, s.own, kindGrant,
        BitVec.ofNat 8 b.val :: (fieldI 2 a.grant ++ [a.outcome.code] ++ field16 (t.bay b).session.id ++
          fieldU 2 a.guard.left ++ field16 t.ae.balance.number)⟩, .grant b⟩
    else none
  | none => none

/-- The setpoint that the BD pass of a publication owes the battery, from the mode and charge offer of its evaluation and the balance
record published, all as they stand in `t` (R83, R84, R85). -/
def Claims.setpointOwed (s t : State) : Option Int :=
  let balance := t.ae.balance
  let cheap := if s.bandInForce.cheap then balance.gridSurplus else 0
  let power : Int :=
    match t.bd.mode with
    | .shave => if 0 < balance.batteryCall then balance.batteryCall else -(min t.bd.offerBc balance.solarSurplus : Nat)
    | .full => balance.batteryCall
    | .reserve => -(min t.bd.offerBc (balance.solarSurplus + cheap) : Nat)
    | .topUp => -(min t.bd.offerBc balance.totalSurplus : Nat)
    | .island | .off | .manual => 0
  let due : Bool :=
    match s.bd.sent with
    | none => true
    | some last =>
      (power ≠ last.power ∧ s.bd.table.step ≤ (power - last.power).natAbs) ∨
        s.bd.table.refresh ≤ (s.mu.uptime - last.sentAt).toNat
  if (t.bd.mode = .shave ∨ t.bd.mode = .full ∨ t.bd.mode = .reserve ∨ t.bd.mode = .topUp) ∧ due then some power else none

/-- PUBLICATION: the rows of R64 give every bay's grant and outcome (R62, R63), a grant that falls to 0 loads the guard (R59), the
balance record is that of R65, each dwell timer runs where a bay of its class waits for budget and is else stopped and loaded (R54),
the GRANTs of R67 are queued in ascending bay number and followed as R68 gives, and the BD pass evaluates and queues the setpoint of
R83 to R86, each frame that is dropped being counted. Which site table a publication reads is read from R45 and R46, and the guard's
due mark is the model's (log entries 6 and 29); the address of a GRANT is read from R67 and R185 (log entry 12); and a setpoint
formed from a FROZEN record after a RESUME during the pass is the model's choice (log entry 41). -/
def Obligations.PassIsPublished : Prop :=
  ∀ (s : State) (p : AllocPass), s.powered = true → s.ae.pass = some p →
    ∃ t, exec .publication s = .next t ∧ t.ae.pass = none ∧ t.ae.timer.left = s.mr.site.allocPeriod ∧
      (∀ b : BayNo,
        let frozen := p.basis = .frozen ∨ s.siu.freeze = true
        (p.basis = .settle → (t.bay b).alloc.grant = 0 ∧ (t.bay b).alloc.outcome = .none) ∧
        (p.basis ≠ .settle → (s.bay b).session.state = .disabled →
          (t.bay b).alloc.grant = 0 ∧ (t.bay b).alloc.outcome = .disabled) ∧
        (p.basis ≠ .settle → (s.bay b).session.state ≠ .disabled → frozen →
          (t.bay b).alloc.grant = 0 ∧ (t.bay b).alloc.outcome = .frozen) ∧
        (p.basis ≠ .settle → (s.bay b).session.state ≠ .disabled → ¬frozen →
          p.lines[b].active = false ∨ (s.bay b).session.state ≠ .active →
          (t.bay b).alloc.grant = 0 ∧ (t.bay b).alloc.outcome = .none) ∧
        (p.basis ≠ .settle → ¬frozen → p.lines[b].active = true → (s.bay b).session.state = .active →
          (t.bay b).alloc.grant = p.lines[b].grant ∧ (t.bay b).alloc.outcome = p.lines[b].outcome) ∧
        ((t.bay b).alloc.grant = 0 → 0 < (s.bay b).alloc.grant → (t.bay b).alloc.guard = ⟨p.restartGuard, false⟩) ∧
        (0 < (t.bay b).alloc.grant ∨ (s.bay b).alloc.grant = 0 → (t.bay b).alloc.guard = (s.bay b).alloc.guard)) ∧
      t.ae.balance.number = s.ae.balance.number + 1 ∧
      (p.basis = .settle → t.ae.balance = { Balance.zero with number := t.ae.balance.number }) ∧
      (p.basis ≠ .settle →
        (let granted := ((List.finRange 32).map fun b : BayNo =>
          ((t.bay b).alloc.grant * p.volts * p.lines[b].phases.toNat + 9) / 10).sum
         t.ae.balance.basis = (if s.siu.freeze then .frozen else p.basis) ∧
         t.ae.balance.gridFresh = p.gridFresh ∧ t.ae.balance.shed = p.shed ∧ t.ae.balance.peak = p.peak ∧
         t.ae.balance.target = p.target ∧ t.ae.balance.trim = p.trim ∧ t.ae.balance.shop = p.shop ∧
         t.ae.balance.solar = p.solar ∧ t.ae.balance.avail = p.avail ∧ t.ae.balance.offer = p.offer ∧
         t.ae.balance.granted = granted ∧ t.ae.balance.budget = p.budget ∧ t.ae.balance.slack = p.budget - granted ∧
         t.ae.balance.batteryCall = min p.offer ((granted : Int) - p.avail).toNat ∧
         (t.ae.balance.totalSurplus : Int) = max 0 (p.avail - granted) ∧
         t.ae.balance.solarSurplus = min t.ae.balance.totalSurplus ((p.solar : Int) - p.shop - granted).toNat ∧
         t.ae.balance.solarSurplus + t.ae.balance.gridSurplus = t.ae.balance.totalSurplus ∧
         t.ae.balance.unmet =
           (if t.ae.balance.basis = .frozen then 0
             else ((List.finRange 32).map fun b : BayNo =>
               if p.lines[b].candidate = true ∧ (s.bay b).session.state = .active then p.lines[b].maxPower else 0).sum -
                 granted))) ∧
      (∀ k : ClassNo,
        if ∃ b : BayNo, p.lines[b].cls = k ∧ (t.bay b).alloc.outcome = .waitingBudget then
          t.ae.dwells[k] = { s.ae.dwells[k] with running := true }
        else
          t.ae.dwells[k] =
            { s.ae.dwells[k] with
              running := false
              timer := ⟨if s.mr.site.dwell[k] = 0 then 65536 else s.mr.site.dwell[k], false⟩ }) ∧
      (∀ b pos e, p.lines[b].charger = some pos → s.fs.stations[pos] = some e → e.role = .charger b →
        ∀ frame, Claims.grantOwed s t p b = some frame → frame.frame.dest = e.address) ∧
      (let waiting (bays : List BayNo) : List Queued :=
        Claims.offered s.li.down.queue (bays.filterMap (Claims.grantOwed s t p))
       let before (b : BayNo) : List Queued := waiting ((List.finRange 32).filter (· < b))
       let kept :=
        if t.bd.mode ≠ s.bd.mode ∧ t.bd.mode.withdraws = true then
          (waiting (List.finRange 32)).filter fun q =>
            !decide (q.frame.kind = kindLimit ∧ s.batteryAddress = some q.frame.dest)
        else waiting (List.finRange 32)
       let setpointFrame : Option Queued :=
        match Claims.setpointOwed s t, s.batteryAddress with
        | some power, some address => some ⟨⟨address, s.own, kindLimit, limitPayload power⟩, .limit⟩
        | _, _ => none
       let lostGrants := ((List.finRange 32).filter fun b =>
        (Claims.grantOwed s t p b).any fun frame => (enqueue (before b) frame).isNone).length
       let lostSetpoint := if setpointFrame.any (fun frame => (enqueue kept frame).isNone) then 1 else 0
       (∀ b : BayNo,
        match Claims.grantOwed s t p b with
        | some frame =>
          if (enqueue (before b) frame).isSome then
            frame ∈ t.li.down.queue ∧
              (t.bay b).alloc.sent = some ⟨(t.bay b).alloc.grant, (t.bay b).alloc.outcome, s.mu.uptime⟩
          else (t.bay b).alloc.sent = (s.bay b).alloc.sent
        | none => (t.bay b).alloc.sent = (s.bay b).alloc.sent) ∧
       (match setpointFrame, Claims.setpointOwed s t with
        | some frame, some power =>
          t.li.down.queue = Claims.offered kept [frame] ∧
            t.bd.sent = (if (enqueue kept frame).isSome then some ⟨power, s.mu.uptime⟩ else s.bd.sent)
        | _, _ =>
          t.li.down.queue = kept ∧ t.bd.sent = (if t.bd.mode = .off ∨ t.bd.mode = .island then none else s.bd.sent)) ∧
       t.li.down.counters.drop =
        (if lostGrants + lostSetpoint = 0 then s.li.down.counters.drop
          else min 65535 (s.li.down.counters.drop + (lostGrants + lostSetpoint)))) ∧
      (∀ x, s.batteryFigures = some x → Claims.evaluatedOn s t x) ∧
      (s.batteryFigures = none → Claims.evaluatedStale s t) ∧ t.bd.manual = s.bd.manual ∧
      (s.bd.table.control = .manual → t.bd.mode = .manual) ∧
      (s.bd.table.control = .auto → s.siu.freeze = true → t.bd.mode = .island) ∧
      (s.bd.table.control = .auto → s.siu.freeze = false → s.batteryFigures = none → t.bd.mode = .off) ∧
      s.changesOnly t
        ({.balance, .allocTimer, .allocPass, .drops .down} ∪ Set.range Part.grant ∪ Set.range Part.dwell ∪ evaluatedParts)

/-- GUARD_EXPIRY: the guard stops at 0. DWELL_EXPIRY: the rotate mark of the class is set and the running timer is loaded again
from the site table, a dwell of 0 as 65,536 s (R55, R54, R59).  The due marks are the model's (log entry 6). -/
def Obligations.GuardAndDwellExpire : Prop :=
  (∀ (s : State) (b : BayNo), s.powered = true → (s.bay b).alloc.guard.due = true →
    ∃ t, exec (.guardExpiry b) s = .next t ∧ (t.bay b).alloc = { (s.bay b).alloc with guard := ⟨0, false⟩ } ∧
      s.changesOnly t {.grant b}) ∧
  ∀ (s : State) (k : ClassNo), s.powered = true → s.ae.dwells[k].running = true → s.ae.dwells[k].timer.due = true →
    ∃ t, exec (.dwellExpiry k) s = .next t ∧
      t.ae.dwells[k] =
        ⟨⟨if s.mr.site.dwell[k] = 0 then 65536 else s.mr.site.dwell[k], false⟩, true, true⟩ ∧
      s.changesOnly t {.dwell k}

/-- CANOPY_PASS_START: K by the release for cars, the export correction and the bound; and, where K is above 0, the greatest
common cap in steps of 10 W whose sum is within the target, with CURTAIL_FLOOR where even 0 is above it (R94 to R99).  The
premise says by the model's due mark that the pass timer has run out (log entry 6); the rules' figures do not rest on it. -/
def Obligations.CanopyPassBegins : Prop :=
  ∀ (s : State), s.powered = true → s.cc.timer.due = true → s.cc.pass = none →
    let table := s.cc.table
    let k1 := s.cc.amount - s.ae.balance.unmet
    let ratings := ((List.finRange 8).map fun j : StringNo =>
      if table.strings[j].enabled then table.strings[j].rating else 0).sum
    let sumAt (c : Nat) : Nat := ((List.finRange 8).map fun j : StringNo =>
      if table.strings[j].enabled then max table.strings[j].floor (min (s.stringPower j) c) else 0).sum
    let power := ((List.finRange 8).map fun j : StringNo => if table.strings[j].enabled then s.stringPower j else 0).sum
    ∃ t p k2, exec .canopyPassStart s = .next t ∧ t.cc.pass = some p ∧
      (s.gridPower = none → k2 = k1) ∧
      (∀ w, s.gridPower = some w →
        (table.limit < (-w).toNat → k2 = k1 + ((-w).toNat - table.limit)) ∧
        (0 < w → k2 = k1 - ((table.limit - table.deadband) + w.toNat)) ∧
        (w ≤ 0 → (-w).toNat < table.limit - table.deadband → k2 = k1 - (table.limit - table.deadband - (-w).toNat)) ∧
        (w ≤ 0 → (-w).toNat ≤ table.limit → table.limit - table.deadband ≤ (-w).toNat → k2 = k1)) ∧
      (∀ j : StringNo, p.enabled[j] = table.strings[j].enabled) ∧
      p.amount = (if table.enabled then min k2 ratings else 0) ∧
      (p.amount = 0 → ∀ j : StringNo, p.caps[j] = none) ∧
      (0 < p.amount → ∃ c : Nat, p.formed = some ((power : Int) - p.amount, c) ∧ c % 10 = 0 ∧
        (∀ j : StringNo, p.caps[j] =
          if table.strings[j].enabled then some (max table.strings[j].floor c) else none) ∧
        (((sumAt c : Nat) : Int) ≤ (power : Int) - p.amount ∨
          (c = 0 ∧ (power : Int) - p.amount < (sumAt 0 : Nat) ∧ t.isPending .curtailFloor = true)) ∧
        ∀ c', c' % 10 = 0 → c < c' → (power : Int) - p.amount < (sumAt c' : Nat)) ∧
      s.changesOnly t ({.canopyTimer, .canopyPass} ∪ raisedParts)

/-- Whether a canopy publication finds a string marked for release, or marks it: a mark set before; K going to 0 with the last cap
sent absent or off the rating and a PV_STRING entry; or the string disabled since the snapshot with a last cap sent off the rating
(R100, R102). -/
def Claims.marked (s t : State) (p : CanopyPass) (j : StringNo) : Bool :=
  let rating := s.cc.table.strings[j].rating
  let sent := s.cc.strings[j].sent.map (·.cap)
  s.cc.strings[j].release ||
    decide (0 < s.cc.amount ∧ t.cc.amount = 0 ∧ s.stringEntry j ≠ none ∧ sent ≠ some rating) ||
    decide (p.enabled[j] = true ∧ s.cc.table.strings[j].enabled = false ∧ sent ≠ none ∧ sent ≠ some rating)

/-- The power that a canopy publication owes a string: none without a PV_STRING entry; its cap in force where K is above 0, it is
enabled and the last cap sent is another or absent (R101); else its rating where it is marked (R102). -/
def Claims.powerOwed (s t : State) (p : CanopyPass) (j : StringNo) : Option Nat :=
  let sent := s.cc.strings[j].sent.map (·.cap)
  let capOwed := if 0 < t.cc.amount ∧ s.cc.table.strings[j].enabled = true ∧ t.cc.strings[j].cap ≠ sent then t.cc.strings[j].cap else none
  if s.stringEntry j = none then none
  else if capOwed ≠ none then capOwed
  else if Claims.marked s t p j then some s.cc.table.strings[j].rating
  else none

/-- The LIMIT that a canopy publication owes a string, to the address of its entry (R101, R102). -/
def Claims.limitOwed (s t : State) (p : CanopyPass) (j : StringNo) : Option Queued :=
  match Claims.powerOwed s t p j, s.stringEntry j with
  | some power, some (_, e) => some ⟨⟨e.address, s.own, kindLimit, limitPayload power⟩, .limit⟩
  | _, _ => none

/-- CANOPY_PUBLICATION: K and the caps in force against the enables as they stand now, CURTAIL_ACTIVE when K leaves 0; then the
LIMIT with its cap, or its rating where it is marked for release, is queued for each string that is owed one, in ascending string
number, to the address of its PV_STRING entry: taken, it is the last cap sent and clears the mark; dropped, it is counted and leaves
both (R100, R101, R102). What the last target and c are after a pass that formed none (log entry 28), the rating sent to a marked
string whose cap was sent before (log entry 20), the station table of the publication (log entry 38), the rating being that of the
canopy table at the publication (log entry 42), and that a dropped cap is not followed by a release (log entry 39) are the model's.
-/
def Obligations.CanopyIsPublished : Prop :=
  ∀ (s : State) (p : CanopyPass), s.powered = true → s.cc.pass = some p →
    let table := s.cc.table
    let ratings := ((List.finRange 8).map fun j : StringNo =>
      if table.strings[j].enabled then table.strings[j].rating else 0).sum
    ∃ t, exec .canopyPublication s = .next t ∧ t.cc.pass = none ∧ t.cc.timer.left = table.period ∧
      t.cc.amount = (if table.enabled then min p.amount ratings else 0) ∧
      (∀ j : StringNo, t.cc.strings[j].cap =
        if t.cc.amount = 0 ∨ table.strings[j].enabled = false then none else p.caps[j]) ∧
      (t.cc.target, t.cc.common) = p.formed.getD (s.cc.target, s.cc.common) ∧
      (s.cc.amount = 0 → 0 < t.cc.amount → t.isPending .curtailActive = true) ∧
      (∀ (j : StringNo) (pos : Position) (e : Station) (power : Nat), s.stringEntry j = some (pos, e) →
        Claims.powerOwed s t p j = some power →
        (∀ i place other, s.stringEntry i = some (place, other) → other.address = e.address → i = j) →
        (⟨⟨e.address, s.own, kindLimit, limitPayload power⟩, .limit⟩ ∈ t.li.down.queue ∧
            t.cc.strings[j].sent = some ⟨power, s.mu.uptime⟩ ∧ t.cc.strings[j].release = false) ∨
          (queueSize ≤ t.li.down.queue.length ∧ t.cc.strings[j].sent = s.cc.strings[j].sent)) ∧
      (let waiting (strings : List StringNo) : List Queued :=
        Claims.offered s.li.down.queue (strings.filterMap (Claims.limitOwed s t p))
       let before (j : StringNo) : List Queued := waiting ((List.finRange 8).filter (· < j))
       let lost := ((List.finRange 8).filter fun j =>
        (Claims.limitOwed s t p j).any fun frame => (enqueue (before j) frame).isNone).length
       t.li.down.queue = waiting (List.finRange 8) ∧
       (∀ j : StringNo,
        if (Claims.limitOwed s t p j).any fun frame => (enqueue (before j) frame).isSome then
          t.cc.strings[j].sent = (Claims.powerOwed s t p j).map (fun power => ⟨power, s.mu.uptime⟩) ∧
            t.cc.strings[j].release = false
        else t.cc.strings[j].sent = s.cc.strings[j].sent ∧ t.cc.strings[j].release = Claims.marked s t p j) ∧
       t.li.down.counters.drop =
        (if lost = 0 then s.li.down.counters.drop else min 65535 (s.li.down.counters.drop + lost))) ∧
      (t.cc.amount = 0 → s.cc.amount = 0 → (∀ j : StringNo, s.cc.strings[j].release = false) →
        (∀ j : StringNo, p.enabled[j] = true → table.strings[j].enabled = true) →
        t.li.down.queue = s.li.down.queue) ∧
      s.changesOnly t
        ({.curtailment, .canopyTimer, .canopyPass, .queue .down, .drops .down} ∪ Set.range Part.string ∪ raisedParts)

/-! ### Invariants that every step keeps -/

/-- No queue, list or table outgrows its capacity, no own frame waits twice for one bay or station, no payload outgrows a frame, and
every counter stops at 65,535 (R122, R130, R157, R158, R160, R164). -/
def Obligations.StepKeepsQueues : Prop :=
  ∀ s t : State, CapacityInv s ∧ OwnFramesInv s ∧ CountersInv s ∧ PayloadInv s → step s = .next t →
    CapacityInv t ∧ OwnFramesInv t ∧ CountersInv t ∧ PayloadInv t

/-- Every session's accounts agree: energy by source, free energy, and energy by band (R115, R120, R121, R122). -/
def Obligations.StepKeepsAccounts : Prop :=
  ∀ s t : State, AccountsInv s → step s = .next t → AccountsInv t

/-- Every bay's session part fits its state, pending links wait only at bays without a session, the held list is the bays in HELD,
each once, non-empty only while the receipt queue is full, and receipt numbers run consecutively (R3, R17, R21, R23, R25, R130,
R140). -/
def Obligations.StepKeepsSessions : Prop :=
  ∀ s t : State, SessionInv s ∧ LinksInv s ∧ HeldInv s ∧ NumbersInv s → step s = .next t →
    SessionInv t ∧ LinksInv t ∧ HeldInv t ∧ NumbersInv t

/-- What is granted stays within the charger budget, and the rotation lists hold each bay at most once across all eight (R52, R56,
R57, R61, R65). -/
def Obligations.StepKeepsAllocation : Prop :=
  ∀ s t : State, BudgetInv s ∧ RotationInv s → step s = .next t → BudgetInv t ∧ RotationInv t

/-- Every written field stays in its range, no current or grant exceeds 800 dA, and measurement records stand exactly at the measuring
entries, with every entry's address, divider and forward count in range (R4, R28, R29, R31, R51, R150, R154, R167). -/
def Obligations.StepKeepsRanges : Prop :=
  ∀ s t : State, TablesInv s ∧ CurrentsInv s ∧ RecordsInv s ∧ StationsInv s → step s = .next t →
    TablesInv t ∧ CurrentsInv t ∧ RecordsInv t ∧ StationsInv t

/-- The control inputs fit their senses and the grant freeze stands while ISLAND is active; the battery mode agrees with control,
freeze and flag, and modes without a setpoint offer nothing (R35, R36, R40, R41, R76 to R80). -/
def Obligations.StepKeepsControls : Prop :=
  ∀ s t : State, InputsInv s ∧ BatteryInv s → step s = .next t → InputsInv t ∧ BatteryInv t

/-- The curtailment amount stays within the enabled ratings, 0 without export control, and caps go with it (R92, R93, R98, R100). -/
def Obligations.StepKeepsCurtailment : Prop :=
  ∀ s t : State, CurtailmentInv s → step s = .next t → CurtailmentInv t
end

