-- ==== Sys2Proof/Laws/State.lean ====
section
/-! SUPPORT. The small lemmas of the named updates of State: what each leaves, field by field, and what it writes. -/

namespace Sys2Proof.Machine

/-! ### Raising an event -/

@[simp] theorem State.raise_pending (s : State) (e : Event) : (s.raise e).pending = s.pending := rfl
@[simp] theorem State.raise_powered (s : State) (e : Event) : (s.raise e).powered = s.powered := rfl
@[simp] theorem State.raise_li (s : State) (e : Event) : (s.raise e).li = s.li := rfl
@[simp] theorem State.raise_fs (s : State) (e : Event) : (s.raise e).fs = s.fs := rfl
@[simp] theorem State.raise_siu (s : State) (e : Event) : (s.raise e).siu = s.siu := rfl
@[simp] theorem State.raise_bays (s : State) (e : Event) : (s.raise e).bays = s.bays := rfl
@[simp] theorem State.raise_links (s : State) (e : Event) : (s.raise e).links = s.links := rfl
@[simp] theorem State.raise_held (s : State) (e : Event) : (s.raise e).held = s.held := rfl
@[simp] theorem State.raise_ae (s : State) (e : Event) : (s.raise e).ae = s.ae := rfl
@[simp] theorem State.raise_bd (s : State) (e : Event) : (s.raise e).bd = s.bd := rfl
@[simp] theorem State.raise_cc (s : State) (e : Event) : (s.raise e).cc = s.cc := rfl
@[simp] theorem State.raise_mu (s : State) (e : Event) : (s.raise e).mu = s.mu := rfl
@[simp] theorem State.raise_rq (s : State) (e : Event) : (s.raise e).rq = s.rq := rfl

@[simp] theorem State.raise_mr_site (s : State) (e : Event) : (s.raise e).mr.site = s.mr.site := rfl
@[simp] theorem State.raise_mr_requests (s : State) (e : Event) : (s.raise e).mr.requests = s.mr.requests := rfl
@[simp] theorem State.raise_mr_mask (s : State) (e : Event) : (s.raise e).mr.mask = s.mr.mask := rfl
@[simp] theorem State.raise_mr_plan (s : State) (e : Event) : (s.raise e).mr.plan = s.mr.plan := rfl
@[simp] theorem State.raise_mr_restart (s : State) (e : Event) : (s.raise e).mr.restart = s.mr.restart := rfl
@[simp] theorem State.raise_mr_resetArmed (s : State) (e : Event) : (s.raise e).mr.resetArmed = s.mr.resetArmed := rfl
@[simp] theorem State.raise_events (s : State) (e : Event) : (s.raise e).mr.events = s.mr.events ||| e.flag := rfl
@[simp] theorem State.raiseIf_true (s : State) (e : Event) : s.raiseIf true e = s.raise e := rfl
@[simp] theorem State.raiseIf_false (s : State) (e : Event) : s.raiseIf false e = s := rfl

/-! ### Raising an event where a condition holds -/

@[simp] theorem State.raiseIf_pending (s : State) (c : Bool) (e : Event) : (s.raiseIf c e).pending = s.pending := by
  cases c <;> rfl
@[simp] theorem State.raiseIf_powered (s : State) (c : Bool) (e : Event) : (s.raiseIf c e).powered = s.powered := by
  cases c <;> rfl
@[simp] theorem State.raiseIf_li (s : State) (c : Bool) (e : Event) : (s.raiseIf c e).li = s.li := by cases c <;> rfl
@[simp] theorem State.raiseIf_fs (s : State) (c : Bool) (e : Event) : (s.raiseIf c e).fs = s.fs := by cases c <;> rfl
@[simp] theorem State.raiseIf_siu (s : State) (c : Bool) (e : Event) : (s.raiseIf c e).siu = s.siu := by cases c <;> rfl
@[simp] theorem State.raiseIf_bays (s : State) (c : Bool) (e : Event) : (s.raiseIf c e).bays = s.bays := by cases c <;> rfl
@[simp] theorem State.raiseIf_links (s : State) (c : Bool) (e : Event) : (s.raiseIf c e).links = s.links := by
  cases c <;> rfl
@[simp] theorem State.raiseIf_held (s : State) (c : Bool) (e : Event) : (s.raiseIf c e).held = s.held := by cases c <;> rfl
@[simp] theorem State.raiseIf_ae (s : State) (c : Bool) (e : Event) : (s.raiseIf c e).ae = s.ae := by cases c <;> rfl
@[simp] theorem State.raiseIf_bd (s : State) (c : Bool) (e : Event) : (s.raiseIf c e).bd = s.bd := by cases c <;> rfl
@[simp] theorem State.raiseIf_cc (s : State) (c : Bool) (e : Event) : (s.raiseIf c e).cc = s.cc := by cases c <;> rfl
@[simp] theorem State.raiseIf_mu (s : State) (c : Bool) (e : Event) : (s.raiseIf c e).mu = s.mu := by cases c <;> rfl
@[simp] theorem State.raiseIf_rq (s : State) (c : Bool) (e : Event) : (s.raiseIf c e).rq = s.rq := by cases c <;> rfl

@[simp] theorem State.raiseIf_mr_site (s : State) (c : Bool) (e : Event) : (s.raiseIf c e).mr.site = s.mr.site := by
  cases c <;> rfl
@[simp] theorem State.raiseIf_mr_requests (s : State) (c : Bool) (e : Event) : (s.raiseIf c e).mr.requests = s.mr.requests := by
  cases c <;> rfl
@[simp] theorem State.raiseIf_mr_mask (s : State) (c : Bool) (e : Event) : (s.raiseIf c e).mr.mask = s.mr.mask := by
  cases c <;> rfl
@[simp] theorem State.raiseIf_mr_plan (s : State) (c : Bool) (e : Event) : (s.raiseIf c e).mr.plan = s.mr.plan := by
  cases c <;> rfl
@[simp] theorem State.raiseIf_mr_restart (s : State) (c : Bool) (e : Event) : (s.raiseIf c e).mr.restart = s.mr.restart := by
  cases c <;> rfl
@[simp] theorem State.raiseIf_mr_resetArmed (s : State) (c : Bool) (e : Event) : (s.raiseIf c e).mr.resetArmed = s.mr.resetArmed := by
  cases c <;> rfl

/-! ### A port -/

@[simp] theorem State.setPort_pending (s : State) (p : Port) (x : PortState) : (s.setPort p x).pending = s.pending := by
  cases p <;> rfl
@[simp] theorem State.setPort_powered (s : State) (p : Port) (x : PortState) : (s.setPort p x).powered = s.powered := by
  cases p <;> rfl
@[simp] theorem State.setPort_fs (s : State) (p : Port) (x : PortState) : (s.setPort p x).fs = s.fs := by cases p <;> rfl
@[simp] theorem State.setPort_siu (s : State) (p : Port) (x : PortState) : (s.setPort p x).siu = s.siu := by cases p <;> rfl
@[simp] theorem State.setPort_bays (s : State) (p : Port) (x : PortState) : (s.setPort p x).bays = s.bays := by
  cases p <;> rfl
@[simp] theorem State.setPort_links (s : State) (p : Port) (x : PortState) : (s.setPort p x).links = s.links := by
  cases p <;> rfl
@[simp] theorem State.setPort_held (s : State) (p : Port) (x : PortState) : (s.setPort p x).held = s.held := by
  cases p <;> rfl
@[simp] theorem State.setPort_ae (s : State) (p : Port) (x : PortState) : (s.setPort p x).ae = s.ae := by cases p <;> rfl
@[simp] theorem State.setPort_bd (s : State) (p : Port) (x : PortState) : (s.setPort p x).bd = s.bd := by cases p <;> rfl
@[simp] theorem State.setPort_cc (s : State) (p : Port) (x : PortState) : (s.setPort p x).cc = s.cc := by cases p <;> rfl
@[simp] theorem State.setPort_mu (s : State) (p : Port) (x : PortState) : (s.setPort p x).mu = s.mu := by cases p <;> rfl
@[simp] theorem State.setPort_rq (s : State) (p : Port) (x : PortState) : (s.setPort p x).rq = s.rq := by cases p <;> rfl
@[simp] theorem State.setPort_mr (s : State) (p : Port) (x : PortState) : (s.setPort p x).mr = s.mr := by cases p <;> rfl

@[simp] theorem State.setPort_port (s : State) (p : Port) (x : PortState) : (s.setPort p x).port p = x := by cases p <;> rfl
@[simp] theorem State.setPort_rate (s : State) (p : Port) (x : PortState) : (s.setPort p x).li.rate = s.li.rate := by
  cases p <;> rfl
/-- A port is not touched by an update of the other one. -/
theorem State.setPort_other (s : State) {p q : Port} (x : PortState) (h : q ≠ p) : (s.setPort p x).port q = s.port q := by
  cases p <;> cases q <;> first | rfl | exact absurd rfl h

/-! ### `setQueue` -/

@[simp] theorem State.setQueue_pending (s : State) (p : Port) (q : List Queued) : (s.setQueue p q).pending = s.pending := by
  cases p <;> rfl
@[simp] theorem State.setQueue_powered (s : State) (p : Port) (q : List Queued) : (s.setQueue p q).powered = s.powered := by
  cases p <;> rfl
@[simp] theorem State.setQueue_fs (s : State) (p : Port) (q : List Queued) : (s.setQueue p q).fs = s.fs := by cases p <;> rfl
@[simp] theorem State.setQueue_siu (s : State) (p : Port) (q : List Queued) : (s.setQueue p q).siu = s.siu := by
  cases p <;> rfl
@[simp] theorem State.setQueue_bays (s : State) (p : Port) (q : List Queued) : (s.setQueue p q).bays = s.bays := by
  cases p <;> rfl
@[simp] theorem State.setQueue_links (s : State) (p : Port) (q : List Queued) : (s.setQueue p q).links = s.links := by
  cases p <;> rfl
@[simp] theorem State.setQueue_held (s : State) (p : Port) (q : List Queued) : (s.setQueue p q).held = s.held := by
  cases p <;> rfl
@[simp] theorem State.setQueue_ae (s : State) (p : Port) (q : List Queued) : (s.setQueue p q).ae = s.ae := by cases p <;> rfl
@[simp] theorem State.setQueue_bd (s : State) (p : Port) (q : List Queued) : (s.setQueue p q).bd = s.bd := by cases p <;> rfl
@[simp] theorem State.setQueue_cc (s : State) (p : Port) (q : List Queued) : (s.setQueue p q).cc = s.cc := by cases p <;> rfl
@[simp] theorem State.setQueue_mu (s : State) (p : Port) (q : List Queued) : (s.setQueue p q).mu = s.mu := by cases p <;> rfl
@[simp] theorem State.setQueue_rq (s : State) (p : Port) (q : List Queued) : (s.setQueue p q).rq = s.rq := by cases p <;> rfl
@[simp] theorem State.setQueue_mr (s : State) (p : Port) (q : List Queued) : (s.setQueue p q).mr = s.mr := by cases p <;> rfl

/-! ### `countDrops` -/

@[simp] theorem State.countDrops_pending (s : State) (p : Port) (k : Nat) : (s.countDrops p k).pending = s.pending := by
  cases p <;> rfl
@[simp] theorem State.countDrops_powered (s : State) (p : Port) (k : Nat) : (s.countDrops p k).powered = s.powered := by
  cases p <;> rfl
@[simp] theorem State.countDrops_fs (s : State) (p : Port) (k : Nat) : (s.countDrops p k).fs = s.fs := by cases p <;> rfl
@[simp] theorem State.countDrops_siu (s : State) (p : Port) (k : Nat) : (s.countDrops p k).siu = s.siu := by cases p <;> rfl
@[simp] theorem State.countDrops_bays (s : State) (p : Port) (k : Nat) : (s.countDrops p k).bays = s.bays := by
  cases p <;> rfl
@[simp] theorem State.countDrops_links (s : State) (p : Port) (k : Nat) : (s.countDrops p k).links = s.links := by
  cases p <;> rfl
@[simp] theorem State.countDrops_held (s : State) (p : Port) (k : Nat) : (s.countDrops p k).held = s.held := by
  cases p <;> rfl
@[simp] theorem State.countDrops_ae (s : State) (p : Port) (k : Nat) : (s.countDrops p k).ae = s.ae := by cases p <;> rfl
@[simp] theorem State.countDrops_bd (s : State) (p : Port) (k : Nat) : (s.countDrops p k).bd = s.bd := by cases p <;> rfl
@[simp] theorem State.countDrops_cc (s : State) (p : Port) (k : Nat) : (s.countDrops p k).cc = s.cc := by cases p <;> rfl
@[simp] theorem State.countDrops_mu (s : State) (p : Port) (k : Nat) : (s.countDrops p k).mu = s.mu := by cases p <;> rfl
@[simp] theorem State.countDrops_rq (s : State) (p : Port) (k : Nat) : (s.countDrops p k).rq = s.rq := by cases p <;> rfl
@[simp] theorem State.countDrops_mr (s : State) (p : Port) (k : Nat) : (s.countDrops p k).mr = s.mr := by cases p <;> rfl

/-! ### `modCounters` -/

@[simp] theorem State.modCounters_pending (s : State) (p : Port) (g : PortCounters → PortCounters) : (s.modCounters p g).pending = s.pending := by
  cases p <;> rfl
@[simp] theorem State.modCounters_powered (s : State) (p : Port) (g : PortCounters → PortCounters) : (s.modCounters p g).powered = s.powered := by
  cases p <;> rfl
@[simp] theorem State.modCounters_fs (s : State) (p : Port) (g : PortCounters → PortCounters) : (s.modCounters p g).fs = s.fs := by
  cases p <;> rfl
@[simp] theorem State.modCounters_siu (s : State) (p : Port) (g : PortCounters → PortCounters) : (s.modCounters p g).siu = s.siu := by
  cases p <;> rfl
@[simp] theorem State.modCounters_bays (s : State) (p : Port) (g : PortCounters → PortCounters) : (s.modCounters p g).bays = s.bays := by
  cases p <;> rfl
@[simp] theorem State.modCounters_links (s : State) (p : Port) (g : PortCounters → PortCounters) : (s.modCounters p g).links = s.links := by
  cases p <;> rfl
@[simp] theorem State.modCounters_held (s : State) (p : Port) (g : PortCounters → PortCounters) : (s.modCounters p g).held = s.held := by
  cases p <;> rfl
@[simp] theorem State.modCounters_ae (s : State) (p : Port) (g : PortCounters → PortCounters) : (s.modCounters p g).ae = s.ae := by
  cases p <;> rfl
@[simp] theorem State.modCounters_bd (s : State) (p : Port) (g : PortCounters → PortCounters) : (s.modCounters p g).bd = s.bd := by
  cases p <;> rfl
@[simp] theorem State.modCounters_cc (s : State) (p : Port) (g : PortCounters → PortCounters) : (s.modCounters p g).cc = s.cc := by
  cases p <;> rfl
@[simp] theorem State.modCounters_mu (s : State) (p : Port) (g : PortCounters → PortCounters) : (s.modCounters p g).mu = s.mu := by
  cases p <;> rfl
@[simp] theorem State.modCounters_rq (s : State) (p : Port) (g : PortCounters → PortCounters) : (s.modCounters p g).rq = s.rq := by
  cases p <;> rfl
@[simp] theorem State.modCounters_mr (s : State) (p : Port) (g : PortCounters → PortCounters) : (s.modCounters p g).mr = s.mr := by
  cases p <;> rfl

/-! ### `countReceived` -/

@[simp] theorem State.countReceived_pending (s : State) (p : Port) : (s.countReceived p).pending = s.pending := by
  cases p <;> rfl
@[simp] theorem State.countReceived_powered (s : State) (p : Port) : (s.countReceived p).powered = s.powered := by
  cases p <;> rfl
@[simp] theorem State.countReceived_fs (s : State) (p : Port) : (s.countReceived p).fs = s.fs := by cases p <;> rfl
@[simp] theorem State.countReceived_siu (s : State) (p : Port) : (s.countReceived p).siu = s.siu := by cases p <;> rfl
@[simp] theorem State.countReceived_bays (s : State) (p : Port) : (s.countReceived p).bays = s.bays := by cases p <;> rfl
@[simp] theorem State.countReceived_links (s : State) (p : Port) : (s.countReceived p).links = s.links := by cases p <;> rfl
@[simp] theorem State.countReceived_held (s : State) (p : Port) : (s.countReceived p).held = s.held := by cases p <;> rfl
@[simp] theorem State.countReceived_ae (s : State) (p : Port) : (s.countReceived p).ae = s.ae := by cases p <;> rfl
@[simp] theorem State.countReceived_bd (s : State) (p : Port) : (s.countReceived p).bd = s.bd := by cases p <;> rfl
@[simp] theorem State.countReceived_cc (s : State) (p : Port) : (s.countReceived p).cc = s.cc := by cases p <;> rfl
@[simp] theorem State.countReceived_mu (s : State) (p : Port) : (s.countReceived p).mu = s.mu := by cases p <;> rfl
@[simp] theorem State.countReceived_rq (s : State) (p : Port) : (s.countReceived p).rq = s.rq := by cases p <;> rfl
@[simp] theorem State.countReceived_mr (s : State) (p : Port) : (s.countReceived p).mr = s.mr := by cases p <;> rfl

@[simp] theorem State.setQueue_queue (s : State) (p : Port) (q : List Queued) : ((s.setQueue p q).port p).queue = q := by
  cases p <;> rfl
@[simp] theorem State.setQueue_counters (s : State) (p r : Port) (q : List Queued) :
    ((s.setQueue p q).port r).counters = (s.port r).counters := by cases p <;> cases r <;> rfl
@[simp] theorem State.setQueue_sending (s : State) (p r : Port) (q : List Queued) :
    ((s.setQueue p q).port r).sending = (s.port r).sending := by cases p <;> cases r <;> rfl
@[simp] theorem State.setQueue_waiting (s : State) (p r : Port) (q : List Queued) :
    ((s.setQueue p q).port r).waiting = (s.port r).waiting := by cases p <;> cases r <;> rfl
@[simp] theorem State.countDrops_queue (s : State) (p r : Port) (k : Nat) :
    ((s.countDrops p k).port r).queue = (s.port r).queue := by cases p <;> cases r <;> rfl
@[simp] theorem State.countDrops_drop (s : State) (p : Port) (k : Nat) :
    ((s.countDrops p k).port p).counters.drop = bumpBy k (s.port p).counters.drop := by cases p <;> rfl
@[simp] theorem State.countDrops_line (s : State) (p r : Port) (k : Nat) :
    ((s.countDrops p k).port r).counters.line = (s.port r).counters.line := by cases p <;> cases r <;> rfl
@[simp] theorem State.modCounters_counters (s : State) (p : Port) (g : PortCounters → PortCounters) :
    ((s.modCounters p g).port p).counters = g (s.port p).counters := by cases p <;> rfl
@[simp] theorem State.modCounters_queue (s : State) (p r : Port) (g : PortCounters → PortCounters) :
    ((s.modCounters p g).port r).queue = (s.port r).queue := by cases p <;> cases r <;> rfl

/-! ### `setBay` -/

@[simp] theorem State.setBay_pending (s : State) (b : BayNo) (x : Bay) : (s.setBay b x).pending = s.pending := rfl
@[simp] theorem State.setBay_powered (s : State) (b : BayNo) (x : Bay) : (s.setBay b x).powered = s.powered := rfl
@[simp] theorem State.setBay_li (s : State) (b : BayNo) (x : Bay) : (s.setBay b x).li = s.li := rfl
@[simp] theorem State.setBay_fs (s : State) (b : BayNo) (x : Bay) : (s.setBay b x).fs = s.fs := rfl
@[simp] theorem State.setBay_siu (s : State) (b : BayNo) (x : Bay) : (s.setBay b x).siu = s.siu := rfl
@[simp] theorem State.setBay_links (s : State) (b : BayNo) (x : Bay) : (s.setBay b x).links = s.links := rfl
@[simp] theorem State.setBay_held (s : State) (b : BayNo) (x : Bay) : (s.setBay b x).held = s.held := rfl
@[simp] theorem State.setBay_ae (s : State) (b : BayNo) (x : Bay) : (s.setBay b x).ae = s.ae := rfl
@[simp] theorem State.setBay_bd (s : State) (b : BayNo) (x : Bay) : (s.setBay b x).bd = s.bd := rfl
@[simp] theorem State.setBay_cc (s : State) (b : BayNo) (x : Bay) : (s.setBay b x).cc = s.cc := rfl
@[simp] theorem State.setBay_mu (s : State) (b : BayNo) (x : Bay) : (s.setBay b x).mu = s.mu := rfl
@[simp] theorem State.setBay_rq (s : State) (b : BayNo) (x : Bay) : (s.setBay b x).rq = s.rq := rfl
@[simp] theorem State.setBay_mr (s : State) (b : BayNo) (x : Bay) : (s.setBay b x).mr = s.mr := rfl

/-! ### `modSession` -/

@[simp] theorem State.modSession_pending (s : State) (b : BayNo) (g : Session → Session) : (s.modSession b g).pending = s.pending := rfl
@[simp] theorem State.modSession_powered (s : State) (b : BayNo) (g : Session → Session) : (s.modSession b g).powered = s.powered := rfl
@[simp] theorem State.modSession_li (s : State) (b : BayNo) (g : Session → Session) : (s.modSession b g).li = s.li := rfl
@[simp] theorem State.modSession_fs (s : State) (b : BayNo) (g : Session → Session) : (s.modSession b g).fs = s.fs := rfl
@[simp] theorem State.modSession_siu (s : State) (b : BayNo) (g : Session → Session) : (s.modSession b g).siu = s.siu := rfl
@[simp] theorem State.modSession_links (s : State) (b : BayNo) (g : Session → Session) : (s.modSession b g).links = s.links := rfl
@[simp] theorem State.modSession_held (s : State) (b : BayNo) (g : Session → Session) : (s.modSession b g).held = s.held := rfl
@[simp] theorem State.modSession_ae (s : State) (b : BayNo) (g : Session → Session) : (s.modSession b g).ae = s.ae := rfl
@[simp] theorem State.modSession_bd (s : State) (b : BayNo) (g : Session → Session) : (s.modSession b g).bd = s.bd := rfl
@[simp] theorem State.modSession_cc (s : State) (b : BayNo) (g : Session → Session) : (s.modSession b g).cc = s.cc := rfl
@[simp] theorem State.modSession_mu (s : State) (b : BayNo) (g : Session → Session) : (s.modSession b g).mu = s.mu := rfl
@[simp] theorem State.modSession_rq (s : State) (b : BayNo) (g : Session → Session) : (s.modSession b g).rq = s.rq := rfl
@[simp] theorem State.modSession_mr (s : State) (b : BayNo) (g : Session → Session) : (s.modSession b g).mr = s.mr := rfl

/-! ### `modAlloc` -/

@[simp] theorem State.modAlloc_pending (s : State) (b : BayNo) (g : Alloc → Alloc) : (s.modAlloc b g).pending = s.pending := rfl
@[simp] theorem State.modAlloc_powered (s : State) (b : BayNo) (g : Alloc → Alloc) : (s.modAlloc b g).powered = s.powered := rfl
@[simp] theorem State.modAlloc_li (s : State) (b : BayNo) (g : Alloc → Alloc) : (s.modAlloc b g).li = s.li := rfl
@[simp] theorem State.modAlloc_fs (s : State) (b : BayNo) (g : Alloc → Alloc) : (s.modAlloc b g).fs = s.fs := rfl
@[simp] theorem State.modAlloc_siu (s : State) (b : BayNo) (g : Alloc → Alloc) : (s.modAlloc b g).siu = s.siu := rfl
@[simp] theorem State.modAlloc_links (s : State) (b : BayNo) (g : Alloc → Alloc) : (s.modAlloc b g).links = s.links := rfl
@[simp] theorem State.modAlloc_held (s : State) (b : BayNo) (g : Alloc → Alloc) : (s.modAlloc b g).held = s.held := rfl
@[simp] theorem State.modAlloc_ae (s : State) (b : BayNo) (g : Alloc → Alloc) : (s.modAlloc b g).ae = s.ae := rfl
@[simp] theorem State.modAlloc_bd (s : State) (b : BayNo) (g : Alloc → Alloc) : (s.modAlloc b g).bd = s.bd := rfl
@[simp] theorem State.modAlloc_cc (s : State) (b : BayNo) (g : Alloc → Alloc) : (s.modAlloc b g).cc = s.cc := rfl
@[simp] theorem State.modAlloc_mu (s : State) (b : BayNo) (g : Alloc → Alloc) : (s.modAlloc b g).mu = s.mu := rfl
@[simp] theorem State.modAlloc_rq (s : State) (b : BayNo) (g : Alloc → Alloc) : (s.modAlloc b g).rq = s.rq := rfl
@[simp] theorem State.modAlloc_mr (s : State) (b : BayNo) (g : Alloc → Alloc) : (s.modAlloc b g).mr = s.mr := rfl

/-! ### `mapBays` -/

@[simp] theorem State.mapBays_pending (s : State) (g : BayNo → Bay → Bay) : (s.mapBays g).pending = s.pending := by
  simp only [State.mapBays]
@[simp] theorem State.mapBays_powered (s : State) (g : BayNo → Bay → Bay) : (s.mapBays g).powered = s.powered := by
  simp only [State.mapBays]
@[simp] theorem State.mapBays_li (s : State) (g : BayNo → Bay → Bay) : (s.mapBays g).li = s.li := by
  simp only [State.mapBays]
@[simp] theorem State.mapBays_fs (s : State) (g : BayNo → Bay → Bay) : (s.mapBays g).fs = s.fs := by
  simp only [State.mapBays]
@[simp] theorem State.mapBays_siu (s : State) (g : BayNo → Bay → Bay) : (s.mapBays g).siu = s.siu := by
  simp only [State.mapBays]
@[simp] theorem State.mapBays_links (s : State) (g : BayNo → Bay → Bay) : (s.mapBays g).links = s.links := by
  simp only [State.mapBays]
@[simp] theorem State.mapBays_held (s : State) (g : BayNo → Bay → Bay) : (s.mapBays g).held = s.held := by
  simp only [State.mapBays]
@[simp] theorem State.mapBays_ae (s : State) (g : BayNo → Bay → Bay) : (s.mapBays g).ae = s.ae := by
  simp only [State.mapBays]
@[simp] theorem State.mapBays_bd (s : State) (g : BayNo → Bay → Bay) : (s.mapBays g).bd = s.bd := by
  simp only [State.mapBays]
@[simp] theorem State.mapBays_cc (s : State) (g : BayNo → Bay → Bay) : (s.mapBays g).cc = s.cc := by
  simp only [State.mapBays]
@[simp] theorem State.mapBays_mu (s : State) (g : BayNo → Bay → Bay) : (s.mapBays g).mu = s.mu := by
  simp only [State.mapBays]
@[simp] theorem State.mapBays_rq (s : State) (g : BayNo → Bay → Bay) : (s.mapBays g).rq = s.rq := by
  simp only [State.mapBays]
@[simp] theorem State.mapBays_mr (s : State) (g : BayNo → Bay → Bay) : (s.mapBays g).mr = s.mr := by
  simp only [State.mapBays]

@[simp] theorem State.setBay_bay (s : State) (b : BayNo) (x : Bay) : (s.setBay b x).bay b = x := by
  simp [State.setBay, State.bay]
/-- A bay is not touched by an update of another one. -/
theorem State.setBay_other (s : State) {b c : BayNo} (x : Bay) (h : c ≠ b) : (s.setBay b x).bay c = s.bay c := by
  have : (b : Nat) ≠ c := fun e => h (Fin.ext e.symm)
  simp [State.setBay, State.bay, Vector.getElem_set_ne, this]
@[simp] theorem State.modSession_session (s : State) (b : BayNo) (g : Session → Session) :
    ((s.modSession b g).bay b).session = g (s.bay b).session := by simp [State.modSession]
@[simp] theorem State.modSession_config (s : State) (b c : BayNo) (g : Session → Session) :
    ((s.modSession b g).bay c).config = (s.bay c).config := by
  by_cases h : c = b
  · subst h; simp [State.modSession]
  · simp [State.modSession, State.setBay_other _ _ h]
@[simp] theorem State.modSession_metering (s : State) (b c : BayNo) (g : Session → Session) :
    ((s.modSession b g).bay c).metering = (s.bay c).metering := by
  by_cases h : c = b
  · subst h; simp [State.modSession]
  · simp [State.modSession, State.setBay_other _ _ h]
@[simp] theorem State.modSession_alloc (s : State) (b c : BayNo) (g : Session → Session) :
    ((s.modSession b g).bay c).alloc = (s.bay c).alloc := by
  by_cases h : c = b
  · subst h; simp [State.modSession]
  · simp [State.modSession, State.setBay_other _ _ h]
@[simp] theorem State.modAlloc_alloc (s : State) (b : BayNo) (g : Alloc → Alloc) :
    ((s.modAlloc b g).bay b).alloc = g (s.bay b).alloc := by simp [State.modAlloc]
@[simp] theorem State.modAlloc_session (s : State) (b c : BayNo) (g : Alloc → Alloc) :
    ((s.modAlloc b g).bay c).session = (s.bay c).session := by
  by_cases h : c = b
  · subst h; simp [State.modAlloc]
  · simp [State.modAlloc, State.setBay_other _ _ h]
@[simp] theorem State.mapBays_bay (s : State) (g : BayNo → Bay → Bay) (b : BayNo) :
    (s.mapBays g).bay b = g b (s.bay b) := by simp [State.mapBays, State.bay]

/-! ### A measurement record -/

@[simp] theorem State.setRecord_pending (s : State) (pos : Position) (r : Option MeasRecord) : (s.setRecord pos r).pending = s.pending := rfl
@[simp] theorem State.setRecord_powered (s : State) (pos : Position) (r : Option MeasRecord) : (s.setRecord pos r).powered = s.powered := rfl
@[simp] theorem State.setRecord_li (s : State) (pos : Position) (r : Option MeasRecord) : (s.setRecord pos r).li = s.li := rfl
@[simp] theorem State.setRecord_fs (s : State) (pos : Position) (r : Option MeasRecord) : (s.setRecord pos r).fs = s.fs := rfl
@[simp] theorem State.setRecord_bays (s : State) (pos : Position) (r : Option MeasRecord) : (s.setRecord pos r).bays = s.bays := rfl
@[simp] theorem State.setRecord_links (s : State) (pos : Position) (r : Option MeasRecord) : (s.setRecord pos r).links = s.links := rfl
@[simp] theorem State.setRecord_held (s : State) (pos : Position) (r : Option MeasRecord) : (s.setRecord pos r).held = s.held := rfl
@[simp] theorem State.setRecord_ae (s : State) (pos : Position) (r : Option MeasRecord) : (s.setRecord pos r).ae = s.ae := rfl
@[simp] theorem State.setRecord_bd (s : State) (pos : Position) (r : Option MeasRecord) : (s.setRecord pos r).bd = s.bd := rfl
@[simp] theorem State.setRecord_cc (s : State) (pos : Position) (r : Option MeasRecord) : (s.setRecord pos r).cc = s.cc := rfl
@[simp] theorem State.setRecord_mu (s : State) (pos : Position) (r : Option MeasRecord) : (s.setRecord pos r).mu = s.mu := rfl
@[simp] theorem State.setRecord_rq (s : State) (pos : Position) (r : Option MeasRecord) : (s.setRecord pos r).rq = s.rq := rfl
@[simp] theorem State.setRecord_mr (s : State) (pos : Position) (r : Option MeasRecord) : (s.setRecord pos r).mr = s.mr := rfl

@[simp] theorem State.setRecord_record (s : State) (pos : Position) (r : Option MeasRecord) :
    (s.setRecord pos r).siu.records[pos] = r := by simp [State.setRecord]
/-- A record is not touched by an update of another one. -/
theorem State.setRecord_other (s : State) {pos other : Position} (r : Option MeasRecord) (h : other ≠ pos) :
    (s.setRecord pos r).siu.records[other] = s.siu.records[other] := by
  have : (pos : Nat) ≠ other := fun e => h (Fin.ext e.symm)
  simp [State.setRecord, Vector.getElem_set_ne, this]

/-! ### `countOwnDrop` -/

@[simp] theorem State.countOwnDrop_pending (s : State) : (s.countOwnDrop).pending = s.pending := rfl
@[simp] theorem State.countOwnDrop_powered (s : State) : (s.countOwnDrop).powered = s.powered := rfl
@[simp] theorem State.countOwnDrop_li (s : State) : (s.countOwnDrop).li = s.li := rfl
@[simp] theorem State.countOwnDrop_siu (s : State) : (s.countOwnDrop).siu = s.siu := rfl
@[simp] theorem State.countOwnDrop_bays (s : State) : (s.countOwnDrop).bays = s.bays := rfl
@[simp] theorem State.countOwnDrop_links (s : State) : (s.countOwnDrop).links = s.links := rfl
@[simp] theorem State.countOwnDrop_held (s : State) : (s.countOwnDrop).held = s.held := rfl
@[simp] theorem State.countOwnDrop_ae (s : State) : (s.countOwnDrop).ae = s.ae := rfl
@[simp] theorem State.countOwnDrop_bd (s : State) : (s.countOwnDrop).bd = s.bd := rfl
@[simp] theorem State.countOwnDrop_cc (s : State) : (s.countOwnDrop).cc = s.cc := rfl
@[simp] theorem State.countOwnDrop_mu (s : State) : (s.countOwnDrop).mu = s.mu := rfl
@[simp] theorem State.countOwnDrop_rq (s : State) : (s.countOwnDrop).rq = s.rq := rfl
@[simp] theorem State.countOwnDrop_mr (s : State) : (s.countOwnDrop).mr = s.mr := rfl

/-! ### `countClamp` -/

@[simp] theorem State.countClamp_pending (s : State) : (s.countClamp).pending = s.pending := rfl
@[simp] theorem State.countClamp_powered (s : State) : (s.countClamp).powered = s.powered := rfl
@[simp] theorem State.countClamp_li (s : State) : (s.countClamp).li = s.li := rfl
@[simp] theorem State.countClamp_siu (s : State) : (s.countClamp).siu = s.siu := rfl
@[simp] theorem State.countClamp_bays (s : State) : (s.countClamp).bays = s.bays := rfl
@[simp] theorem State.countClamp_links (s : State) : (s.countClamp).links = s.links := rfl
@[simp] theorem State.countClamp_held (s : State) : (s.countClamp).held = s.held := rfl
@[simp] theorem State.countClamp_ae (s : State) : (s.countClamp).ae = s.ae := rfl
@[simp] theorem State.countClamp_bd (s : State) : (s.countClamp).bd = s.bd := rfl
@[simp] theorem State.countClamp_cc (s : State) : (s.countClamp).cc = s.cc := rfl
@[simp] theorem State.countClamp_mu (s : State) : (s.countClamp).mu = s.mu := rfl
@[simp] theorem State.countClamp_rq (s : State) : (s.countClamp).rq = s.rq := rfl
@[simp] theorem State.countClamp_mr (s : State) : (s.countClamp).mr = s.mr := rfl

/-! ### `countAutoDrop` -/

@[simp] theorem State.countAutoDrop_pending (s : State) : (s.countAutoDrop).pending = s.pending := rfl
@[simp] theorem State.countAutoDrop_powered (s : State) : (s.countAutoDrop).powered = s.powered := rfl
@[simp] theorem State.countAutoDrop_li (s : State) : (s.countAutoDrop).li = s.li := rfl
@[simp] theorem State.countAutoDrop_siu (s : State) : (s.countAutoDrop).siu = s.siu := rfl
@[simp] theorem State.countAutoDrop_bays (s : State) : (s.countAutoDrop).bays = s.bays := rfl
@[simp] theorem State.countAutoDrop_links (s : State) : (s.countAutoDrop).links = s.links := rfl
@[simp] theorem State.countAutoDrop_held (s : State) : (s.countAutoDrop).held = s.held := rfl
@[simp] theorem State.countAutoDrop_ae (s : State) : (s.countAutoDrop).ae = s.ae := rfl
@[simp] theorem State.countAutoDrop_bd (s : State) : (s.countAutoDrop).bd = s.bd := rfl
@[simp] theorem State.countAutoDrop_cc (s : State) : (s.countAutoDrop).cc = s.cc := rfl
@[simp] theorem State.countAutoDrop_mu (s : State) : (s.countAutoDrop).mu = s.mu := rfl
@[simp] theorem State.countAutoDrop_rq (s : State) : (s.countAutoDrop).rq = s.rq := rfl
@[simp] theorem State.countAutoDrop_mr (s : State) : (s.countAutoDrop).mr = s.mr := rfl

/-! ### The manual setpoint -/

@[simp] theorem State.takeManual_pending (s : State) (v : Int) : (s.takeManual v).pending = s.pending := rfl
@[simp] theorem State.takeManual_powered (s : State) (v : Int) : (s.takeManual v).powered = s.powered := rfl
@[simp] theorem State.takeManual_li (s : State) (v : Int) : (s.takeManual v).li = s.li := rfl
@[simp] theorem State.takeManual_fs (s : State) (v : Int) : (s.takeManual v).fs = s.fs := rfl
@[simp] theorem State.takeManual_siu (s : State) (v : Int) : (s.takeManual v).siu = s.siu := rfl
@[simp] theorem State.takeManual_bays (s : State) (v : Int) : (s.takeManual v).bays = s.bays := rfl
@[simp] theorem State.takeManual_links (s : State) (v : Int) : (s.takeManual v).links = s.links := rfl
@[simp] theorem State.takeManual_held (s : State) (v : Int) : (s.takeManual v).held = s.held := rfl
@[simp] theorem State.takeManual_ae (s : State) (v : Int) : (s.takeManual v).ae = s.ae := rfl
@[simp] theorem State.takeManual_cc (s : State) (v : Int) : (s.takeManual v).cc = s.cc := rfl
@[simp] theorem State.takeManual_mu (s : State) (v : Int) : (s.takeManual v).mu = s.mu := rfl
@[simp] theorem State.takeManual_rq (s : State) (v : Int) : (s.takeManual v).rq = s.rq := rfl
@[simp] theorem State.takeManual_mr (s : State) (v : Int) : (s.takeManual v).mr = s.mr := rfl

/-! ### The pending set cleared -/

@[simp] theorem State.clearPending_pending (s : State) : (s.clearPending).pending = s.pending := rfl
@[simp] theorem State.clearPending_powered (s : State) : (s.clearPending).powered = s.powered := rfl
@[simp] theorem State.clearPending_li (s : State) : (s.clearPending).li = s.li := rfl
@[simp] theorem State.clearPending_fs (s : State) : (s.clearPending).fs = s.fs := rfl
@[simp] theorem State.clearPending_siu (s : State) : (s.clearPending).siu = s.siu := rfl
@[simp] theorem State.clearPending_bays (s : State) : (s.clearPending).bays = s.bays := rfl
@[simp] theorem State.clearPending_links (s : State) : (s.clearPending).links = s.links := rfl
@[simp] theorem State.clearPending_held (s : State) : (s.clearPending).held = s.held := rfl
@[simp] theorem State.clearPending_ae (s : State) : (s.clearPending).ae = s.ae := rfl
@[simp] theorem State.clearPending_bd (s : State) : (s.clearPending).bd = s.bd := rfl
@[simp] theorem State.clearPending_cc (s : State) : (s.clearPending).cc = s.cc := rfl
@[simp] theorem State.clearPending_mu (s : State) : (s.clearPending).mu = s.mu := rfl
@[simp] theorem State.clearPending_rq (s : State) : (s.clearPending).rq = s.rq := rfl

/-! ### An expired guard -/

@[simp] theorem State.expireGuard_pending (s : State) (b : BayNo) : (s.expireGuard b).pending = s.pending := rfl
@[simp] theorem State.expireGuard_powered (s : State) (b : BayNo) : (s.expireGuard b).powered = s.powered := rfl
@[simp] theorem State.expireGuard_li (s : State) (b : BayNo) : (s.expireGuard b).li = s.li := rfl
@[simp] theorem State.expireGuard_fs (s : State) (b : BayNo) : (s.expireGuard b).fs = s.fs := rfl
@[simp] theorem State.expireGuard_siu (s : State) (b : BayNo) : (s.expireGuard b).siu = s.siu := rfl
@[simp] theorem State.expireGuard_links (s : State) (b : BayNo) : (s.expireGuard b).links = s.links := rfl
@[simp] theorem State.expireGuard_held (s : State) (b : BayNo) : (s.expireGuard b).held = s.held := rfl
@[simp] theorem State.expireGuard_ae (s : State) (b : BayNo) : (s.expireGuard b).ae = s.ae := rfl
@[simp] theorem State.expireGuard_bd (s : State) (b : BayNo) : (s.expireGuard b).bd = s.bd := rfl
@[simp] theorem State.expireGuard_cc (s : State) (b : BayNo) : (s.expireGuard b).cc = s.cc := rfl
@[simp] theorem State.expireGuard_mu (s : State) (b : BayNo) : (s.expireGuard b).mu = s.mu := rfl
@[simp] theorem State.expireGuard_rq (s : State) (b : BayNo) : (s.expireGuard b).rq = s.rq := rfl
@[simp] theorem State.expireGuard_mr (s : State) (b : BayNo) : (s.expireGuard b).mr = s.mr := rfl

/-! ### An expired dwell timer -/

@[simp] theorem State.expireDwell_pending (s : State) (k : ClassNo) : (s.expireDwell k).pending = s.pending := rfl
@[simp] theorem State.expireDwell_powered (s : State) (k : ClassNo) : (s.expireDwell k).powered = s.powered := rfl
@[simp] theorem State.expireDwell_li (s : State) (k : ClassNo) : (s.expireDwell k).li = s.li := rfl
@[simp] theorem State.expireDwell_fs (s : State) (k : ClassNo) : (s.expireDwell k).fs = s.fs := rfl
@[simp] theorem State.expireDwell_siu (s : State) (k : ClassNo) : (s.expireDwell k).siu = s.siu := rfl
@[simp] theorem State.expireDwell_bays (s : State) (k : ClassNo) : (s.expireDwell k).bays = s.bays := rfl
@[simp] theorem State.expireDwell_links (s : State) (k : ClassNo) : (s.expireDwell k).links = s.links := rfl
@[simp] theorem State.expireDwell_held (s : State) (k : ClassNo) : (s.expireDwell k).held = s.held := rfl
@[simp] theorem State.expireDwell_bd (s : State) (k : ClassNo) : (s.expireDwell k).bd = s.bd := rfl
@[simp] theorem State.expireDwell_cc (s : State) (k : ClassNo) : (s.expireDwell k).cc = s.cc := rfl
@[simp] theorem State.expireDwell_mu (s : State) (k : ClassNo) : (s.expireDwell k).mu = s.mu := rfl
@[simp] theorem State.expireDwell_rq (s : State) (k : ClassNo) : (s.expireDwell k).rq = s.rq := rfl
@[simp] theorem State.expireDwell_mr (s : State) (k : ClassNo) : (s.expireDwell k).mr = s.mr := rfl

/-! ### A forgotten cap -/

@[simp] theorem State.forgetCap_pending (s : State) (j : StringNo) : (s.forgetCap j).pending = s.pending := rfl
@[simp] theorem State.forgetCap_powered (s : State) (j : StringNo) : (s.forgetCap j).powered = s.powered := rfl
@[simp] theorem State.forgetCap_li (s : State) (j : StringNo) : (s.forgetCap j).li = s.li := rfl
@[simp] theorem State.forgetCap_fs (s : State) (j : StringNo) : (s.forgetCap j).fs = s.fs := rfl
@[simp] theorem State.forgetCap_siu (s : State) (j : StringNo) : (s.forgetCap j).siu = s.siu := rfl
@[simp] theorem State.forgetCap_bays (s : State) (j : StringNo) : (s.forgetCap j).bays = s.bays := rfl
@[simp] theorem State.forgetCap_links (s : State) (j : StringNo) : (s.forgetCap j).links = s.links := rfl
@[simp] theorem State.forgetCap_held (s : State) (j : StringNo) : (s.forgetCap j).held = s.held := rfl
@[simp] theorem State.forgetCap_ae (s : State) (j : StringNo) : (s.forgetCap j).ae = s.ae := rfl
@[simp] theorem State.forgetCap_bd (s : State) (j : StringNo) : (s.forgetCap j).bd = s.bd := rfl
@[simp] theorem State.forgetCap_mu (s : State) (j : StringNo) : (s.forgetCap j).mu = s.mu := rfl
@[simp] theorem State.forgetCap_rq (s : State) (j : StringNo) : (s.forgetCap j).rq = s.rq := rfl
@[simp] theorem State.forgetCap_mr (s : State) (j : StringNo) : (s.forgetCap j).mr = s.mr := rfl

end Sys2Proof.Machine
end

