-- ==== Sys2Proof/Laws/Frames.lean ====
section
/-! SUPPORT. The algebra of frames, and the frame of each shared operation. -/

namespace Sys2Proof.Machine

/-! ### Frames compose -/

theorem State.same_refl (s : State) (part : Part) : s.same s part := by
  cases part <;> simp [State.same]

theorem State.same_trans {s t u : State} {part : Part} (h : s.same t part) (k : t.same u part) : s.same u part := by
  cases part <;> simp only [State.same] at * <;>
    first
    | exact k.trans h
    | exact ⟨k.1.trans h.1, k.2.trans h.2⟩
    | exact ⟨k.1.trans h.1, k.2.1.trans h.2.1, k.2.2.trans h.2.2⟩
    | (cases hs : s.bd; cases ht : t.bd; cases hu : u.bd; simp_all)

theorem State.changesOnly_refl (s : State) (a : Set Part) : s.changesOnly s a := fun part _ => s.same_refl part

theorem State.changesOnly_mono {s t : State} {a b : Set Part} (h : s.changesOnly t a) (ab : a ⊆ b) : s.changesOnly t b :=
  fun part hp => h part fun ha => hp (ab ha)

theorem State.changesOnly_trans {s t u : State} {a b : Set Part} (h : s.changesOnly t a) (k : t.changesOnly u b) :
    s.changesOnly u (a ∪ b) :=
  fun part hp => State.same_trans (h part fun ha => hp (.inl ha)) (k part fun hb => hp (.inr hb))

/-- Two changes within one frame stay within it. -/
theorem State.changesOnly_within {s t u : State} {a : Set Part} (h : s.changesOnly t a) (k : t.changesOnly u a) :
    s.changesOnly u a := by simpa using State.changesOnly_trans h k

/-! ### The frame of each shared operation -/

/-- Raising an event changes the pending set alone (R173). -/
theorem State.raise_frame (s : State) (e : Event) : s.changesOnly (s.raise e) {.events} := by
  intro part hp
  cases part <;> first | exact absurd rfl hp | exact ⟨rfl, rfl⟩ | exact ⟨rfl, rfl, rfl⟩ | rfl

theorem State.raiseIf_frame (s : State) (c : Bool) (e : Event) : s.changesOnly (s.raiseIf c e) {.events} := by
  cases c
  · exact s.changesOnly_refl _
  · exact s.raise_frame e

/-- New contents of a transmit queue change that queue alone. -/
theorem State.setQueue_frame (s : State) (p : Port) (q : List Queued) : s.changesOnly (s.setQueue p q) {.queue p} := by
  intro part hp
  cases p <;> cases part <;>
    first
    | rfl
    | exact ⟨rfl, rfl⟩
    | exact ⟨rfl, rfl, rfl⟩
    | (rename_i r; cases r <;> first | rfl | exact absurd rfl hp)

/-- Counted drops change that counter alone (R157, R160). -/
theorem State.countDrops_frame (s : State) (p : Port) (k : Nat) : s.changesOnly (s.countDrops p k) {.drops p} := by
  intro part hp
  cases p <;> cases part <;>
    first
    | rfl
    | exact ⟨rfl, rfl⟩
    | exact ⟨rfl, rfl, rfl⟩
    | (rename_i r; cases r <;> first | rfl | exact absurd rfl hp)

/-- The count of a received frame changes the line counters of its port alone (R147). -/
theorem State.countReceived_frame (s : State) (p : Port) : s.changesOnly (s.countReceived p) {.counters p} := by
  intro part hp
  cases p <;> cases part <;>
    first
    | rfl
    | exact ⟨rfl, rfl⟩
    | exact ⟨rfl, rfl, rfl⟩
    | (rename_i r; cases r <;> first | rfl | exact absurd rfl hp)

/-- A change of one bay's session part changes that part alone. -/
theorem State.modSession_frame (s : State) (b : BayNo) (g : Session → Session) :
    s.changesOnly (s.modSession b g) {.session b} := by
  intro part hp
  cases part with
  | session c =>
    have h : c ≠ b := fun e => hp (by subst e; rfl)
    simp [State.same, State.modSession, State.setBay_other _ _ h]
  | config c => simp [State.same]
  | metering c => simp [State.same]
  | grant c => simp [State.same]
  | _ => first | rfl | exact ⟨rfl, rfl⟩ | exact ⟨rfl, rfl, rfl⟩

/-- A change of one bay's allocation part changes that part alone. -/
theorem State.modAlloc_frame (s : State) (b : BayNo) (g : Alloc → Alloc) : s.changesOnly (s.modAlloc b g) {.grant b} := by
  intro part hp
  cases part with
  | grant c =>
    have h : c ≠ b := fun e => hp (by subst e; rfl)
    simp [State.same, State.modAlloc, State.setBay_other _ _ h]
  | session c => simp [State.same]
  | config c =>
    by_cases h : c = b
    · subst h; simp [State.same, State.modAlloc]
    · simp [State.same, State.modAlloc, State.setBay_other _ _ h]
  | metering c =>
    by_cases h : c = b
    · subst h; simp [State.same, State.modAlloc]
    · simp [State.same, State.modAlloc, State.setBay_other _ _ h]
  | _ => first | rfl | exact ⟨rfl, rfl⟩ | exact ⟨rfl, rfl, rfl⟩

/-- A replaced measurement record changes that record alone. -/
theorem State.setRecord_frame (s : State) (pos : Position) (r : Option MeasRecord) :
    s.changesOnly (s.setRecord pos r) {.record pos} := by
  intro part hp
  cases part with
  | record other =>
    have h : other ≠ pos := fun e => hp (by subst e; rfl)
    simpa [State.same] using s.setRecord_other r h
  | _ => first | rfl | exact ⟨rfl, rfl⟩ | exact ⟨rfl, rfl, rfl⟩

theorem State.countClamp_frame (s : State) : s.changesOnly s.countClamp {.limitClamps} := by
  intro part hp
  cases part <;> first | exact absurd rfl hp | exact ⟨rfl, rfl⟩ | exact ⟨rfl, rfl, rfl⟩ | rfl

theorem State.countAutoDrop_frame (s : State) : s.changesOnly s.countAutoDrop {.autoBatteryDrops} := by
  intro part hp
  cases part <;> first | exact absurd rfl hp | exact ⟨rfl, rfl⟩ | exact ⟨rfl, rfl, rfl⟩ | rfl

theorem State.countOwnDrop_frame (s : State) : s.changesOnly s.countOwnDrop {.ownAddressDrops} := by
  intro part hp
  cases part <;> first | exact absurd rfl hp | exact ⟨rfl, rfl⟩ | exact ⟨rfl, rfl, rfl⟩ | rfl

/-- A withdrawal changes the Down queue alone, and counts no drop (R159). -/
theorem State.withdraw_frame (s : State) (addresses : List Byte) : s.changesOnly (s.withdraw addresses) {.queue .down} :=
  s.setQueue_frame .down _

end Sys2Proof.Machine
end

