-- ==== Sys2Proof/Laws/Ops.lean ====
section
/-! SUPPORT. Once for each shared operation, everything it can do: offers to the transmit queues, one event of the part, the
reception of a frame, the service of a request, the session timers and the search loops. -/

namespace Sys2Proof.Machine

/-! ### Offers (R157, R158) -/

/-- What `replaceIn` finds: no frame to replace, or the first one, replaced in its place. -/
theorem replaceIn_cases (new : Queued) (queue : List Queued) :
    (replaceIn new queue = none ∧ ∀ x ∈ queue, replaces new x = false) ∨
      ∃ front old back, queue = front ++ old :: back ∧ (∀ x ∈ front, replaces new x = false) ∧ replaces new old = true ∧
        replaceIn new queue = some (front ++ new :: back) := by
  induction queue with
  | nil => exact .inl ⟨rfl, by simp⟩
  | cons old rest ih =>
    by_cases h : replaces new old = true
    · exact .inr ⟨[], old, rest, rfl, by simp, h, by simp [replaceIn, h]⟩
    · rcases ih with ⟨hn, ha⟩ | ⟨front, x, back, rfl, hf, hx, he⟩
      · exact .inl ⟨by simp [replaceIn, h, hn], by simpa [h] using ha⟩
      · exact .inr ⟨old :: front, x, back, rfl, by simpa [h] using hf, hx, by simp [replaceIn, h, he]⟩

/-- The three outcomes of an offer: in the place of a waiting own frame, at the tail, or dropped. -/
theorem enqueue_cases (queue : List Queued) (new : Queued) :
    (∃ front old back, queue = front ++ old :: back ∧ (∀ x ∈ front, replaces new x = false) ∧ replaces new old = true ∧
        enqueue queue new = some (front ++ new :: back)) ∨
      ((∀ x ∈ queue, replaces new x = false) ∧
        ((queue.length < queueSize ∧ enqueue queue new = some (queue ++ [new])) ∨
          (queueSize ≤ queue.length ∧ enqueue queue new = none))) := by
  rcases replaceIn_cases new queue with ⟨hn, ha⟩ | ⟨front, old, back, hq, hf, ho, he⟩
  · refine .inr ⟨ha, ?_⟩
    by_cases h : queue.length < queueSize
    · exact .inl ⟨h, by simp [enqueue, hn, h]⟩
    · exact .inr ⟨by omega, by simp [enqueue, hn, h]⟩
  · exact .inl ⟨front, old, back, hq, hf, ho, by simp [enqueue, he]⟩

/-- An offer either gives the queue new contents and is taken, or counts one drop and is not. -/
theorem State.offer_cases (s : State) (p : Port) (new : Queued) :
    (∃ q, enqueue (s.port p).queue new = some q ∧ s.offer p new = (s.setQueue p q, true)) ∨
      (enqueue (s.port p).queue new = none ∧ s.offer p new = (s.countDrops p 1, false)) := by
  unfold State.offer
  cases h : enqueue (s.port p).queue new with
  | some q => exact .inl ⟨q, rfl, rfl⟩
  | none => exact .inr ⟨rfl, rfl⟩

/-- An offered frame never makes a queue longer than its capacity. -/
theorem enqueue_length {queue q : List Queued} {new : Queued} (h : enqueue queue new = some q)
    (hl : queue.length ≤ queueSize) : q.length ≤ queueSize := by
  rcases enqueue_cases queue new with ⟨front, old, back, rfl, -, -, he⟩ | ⟨-, ⟨hlt, he⟩ | ⟨-, he⟩⟩ <;>
    rw [h] at he <;> simp_all

/-- A frame that replaces nothing is appended or dropped: every frame but an own GRANT or LIMIT (R158). -/
theorem replaces_forwarded (f : Frame) (x : Queued) : replaces ⟨f, .forwarded⟩ x = false := rfl

/-! ### What an offer leaves -/

@[simp] theorem State.offer_pending (s : State) (p : Port) (q : Queued) : (s.offer p q).1.pending = s.pending := by
  rcases s.offer_cases p q with ⟨_, _, e⟩ | ⟨_, e⟩ <;> simp [e]
@[simp] theorem State.offer_powered (s : State) (p : Port) (q : Queued) : (s.offer p q).1.powered = s.powered := by
  rcases s.offer_cases p q with ⟨_, _, e⟩ | ⟨_, e⟩ <;> simp [e]
@[simp] theorem State.offer_fs (s : State) (p : Port) (q : Queued) : (s.offer p q).1.fs = s.fs := by
  rcases s.offer_cases p q with ⟨_, _, e⟩ | ⟨_, e⟩ <;> simp [e]
@[simp] theorem State.offer_siu (s : State) (p : Port) (q : Queued) : (s.offer p q).1.siu = s.siu := by
  rcases s.offer_cases p q with ⟨_, _, e⟩ | ⟨_, e⟩ <;> simp [e]
@[simp] theorem State.offer_bays (s : State) (p : Port) (q : Queued) : (s.offer p q).1.bays = s.bays := by
  rcases s.offer_cases p q with ⟨_, _, e⟩ | ⟨_, e⟩ <;> simp [e]
@[simp] theorem State.offer_links (s : State) (p : Port) (q : Queued) : (s.offer p q).1.links = s.links := by
  rcases s.offer_cases p q with ⟨_, _, e⟩ | ⟨_, e⟩ <;> simp [e]
@[simp] theorem State.offer_held (s : State) (p : Port) (q : Queued) : (s.offer p q).1.held = s.held := by
  rcases s.offer_cases p q with ⟨_, _, e⟩ | ⟨_, e⟩ <;> simp [e]
@[simp] theorem State.offer_ae (s : State) (p : Port) (q : Queued) : (s.offer p q).1.ae = s.ae := by
  rcases s.offer_cases p q with ⟨_, _, e⟩ | ⟨_, e⟩ <;> simp [e]
@[simp] theorem State.offer_bd (s : State) (p : Port) (q : Queued) : (s.offer p q).1.bd = s.bd := by
  rcases s.offer_cases p q with ⟨_, _, e⟩ | ⟨_, e⟩ <;> simp [e]
@[simp] theorem State.offer_cc (s : State) (p : Port) (q : Queued) : (s.offer p q).1.cc = s.cc := by
  rcases s.offer_cases p q with ⟨_, _, e⟩ | ⟨_, e⟩ <;> simp [e]
@[simp] theorem State.offer_mu (s : State) (p : Port) (q : Queued) : (s.offer p q).1.mu = s.mu := by
  rcases s.offer_cases p q with ⟨_, _, e⟩ | ⟨_, e⟩ <;> simp [e]
@[simp] theorem State.offer_rq (s : State) (p : Port) (q : Queued) : (s.offer p q).1.rq = s.rq := by
  rcases s.offer_cases p q with ⟨_, _, e⟩ | ⟨_, e⟩ <;> simp [e]
@[simp] theorem State.offer_mr (s : State) (p : Port) (q : Queued) : (s.offer p q).1.mr = s.mr := by
  rcases s.offer_cases p q with ⟨_, _, e⟩ | ⟨_, e⟩ <;> simp [e]

@[simp] theorem State.offerAll_pending (s : State) (p : Port) (l : List Queued) : (s.offerAll p l).pending = s.pending := by
  unfold State.offerAll; split <;> simp
@[simp] theorem State.offerAll_powered (s : State) (p : Port) (l : List Queued) : (s.offerAll p l).powered = s.powered := by
  unfold State.offerAll; split <;> simp
@[simp] theorem State.offerAll_fs (s : State) (p : Port) (l : List Queued) : (s.offerAll p l).fs = s.fs := by
  unfold State.offerAll; split <;> simp
@[simp] theorem State.offerAll_siu (s : State) (p : Port) (l : List Queued) : (s.offerAll p l).siu = s.siu := by
  unfold State.offerAll; split <;> simp
@[simp] theorem State.offerAll_bays (s : State) (p : Port) (l : List Queued) : (s.offerAll p l).bays = s.bays := by
  unfold State.offerAll; split <;> simp
@[simp] theorem State.offerAll_links (s : State) (p : Port) (l : List Queued) : (s.offerAll p l).links = s.links := by
  unfold State.offerAll; split <;> simp
@[simp] theorem State.offerAll_held (s : State) (p : Port) (l : List Queued) : (s.offerAll p l).held = s.held := by
  unfold State.offerAll; split <;> simp
@[simp] theorem State.offerAll_ae (s : State) (p : Port) (l : List Queued) : (s.offerAll p l).ae = s.ae := by
  unfold State.offerAll; split <;> simp
@[simp] theorem State.offerAll_bd (s : State) (p : Port) (l : List Queued) : (s.offerAll p l).bd = s.bd := by
  unfold State.offerAll; split <;> simp
@[simp] theorem State.offerAll_cc (s : State) (p : Port) (l : List Queued) : (s.offerAll p l).cc = s.cc := by
  unfold State.offerAll; split <;> simp
@[simp] theorem State.offerAll_mu (s : State) (p : Port) (l : List Queued) : (s.offerAll p l).mu = s.mu := by
  unfold State.offerAll; split <;> simp
@[simp] theorem State.offerAll_rq (s : State) (p : Port) (l : List Queued) : (s.offerAll p l).rq = s.rq := by
  unfold State.offerAll; split <;> simp
@[simp] theorem State.offerAll_mr (s : State) (p : Port) (l : List Queued) : (s.offerAll p l).mr = s.mr := by
  unfold State.offerAll; split <;> simp

@[simp] theorem State.sendStatus_pending (s : State) : s.sendStatus.pending = s.pending := by
  simp [State.sendStatus]
@[simp] theorem State.sendStatus_powered (s : State) : s.sendStatus.powered = s.powered := by
  simp [State.sendStatus]
@[simp] theorem State.sendStatus_fs (s : State) : s.sendStatus.fs = s.fs := by
  simp [State.sendStatus]
@[simp] theorem State.sendStatus_siu (s : State) : s.sendStatus.siu = s.siu := by
  simp [State.sendStatus]
@[simp] theorem State.sendStatus_bays (s : State) : s.sendStatus.bays = s.bays := by
  simp [State.sendStatus]
@[simp] theorem State.sendStatus_links (s : State) : s.sendStatus.links = s.links := by
  simp [State.sendStatus]
@[simp] theorem State.sendStatus_held (s : State) : s.sendStatus.held = s.held := by
  simp [State.sendStatus]
@[simp] theorem State.sendStatus_ae (s : State) : s.sendStatus.ae = s.ae := by
  simp [State.sendStatus]
@[simp] theorem State.sendStatus_bd (s : State) : s.sendStatus.bd = s.bd := by
  simp [State.sendStatus]
@[simp] theorem State.sendStatus_cc (s : State) : s.sendStatus.cc = s.cc := by
  simp [State.sendStatus]
@[simp] theorem State.sendStatus_mu (s : State) : s.sendStatus.mu = s.mu := by
  simp [State.sendStatus]
@[simp] theorem State.sendStatus_rq (s : State) : s.sendStatus.rq = s.rq := by
  simp [State.sendStatus]
@[simp] theorem State.sendStatus_mr (s : State) : s.sendStatus.mr = s.mr := by
  simp [State.sendStatus]

@[simp] theorem State.answer_pending (s : State) (dest : Byte) (payload : List Byte) : (s.answer dest payload).pending = s.pending := by
  simp [State.answer]
@[simp] theorem State.answer_powered (s : State) (dest : Byte) (payload : List Byte) : (s.answer dest payload).powered = s.powered := by
  simp [State.answer]
@[simp] theorem State.answer_fs (s : State) (dest : Byte) (payload : List Byte) : (s.answer dest payload).fs = s.fs := by
  simp [State.answer]
@[simp] theorem State.answer_siu (s : State) (dest : Byte) (payload : List Byte) : (s.answer dest payload).siu = s.siu := by
  simp [State.answer]
@[simp] theorem State.answer_bays (s : State) (dest : Byte) (payload : List Byte) : (s.answer dest payload).bays = s.bays := by
  simp [State.answer]
@[simp] theorem State.answer_links (s : State) (dest : Byte) (payload : List Byte) : (s.answer dest payload).links = s.links := by
  simp [State.answer]
@[simp] theorem State.answer_held (s : State) (dest : Byte) (payload : List Byte) : (s.answer dest payload).held = s.held := by
  simp [State.answer]
@[simp] theorem State.answer_ae (s : State) (dest : Byte) (payload : List Byte) : (s.answer dest payload).ae = s.ae := by
  simp [State.answer]
@[simp] theorem State.answer_bd (s : State) (dest : Byte) (payload : List Byte) : (s.answer dest payload).bd = s.bd := by
  simp [State.answer]
@[simp] theorem State.answer_cc (s : State) (dest : Byte) (payload : List Byte) : (s.answer dest payload).cc = s.cc := by
  simp [State.answer]
@[simp] theorem State.answer_mu (s : State) (dest : Byte) (payload : List Byte) : (s.answer dest payload).mu = s.mu := by
  simp [State.answer]
@[simp] theorem State.answer_rq (s : State) (dest : Byte) (payload : List Byte) : (s.answer dest payload).rq = s.rq := by
  simp [State.answer]
@[simp] theorem State.answer_mr (s : State) (dest : Byte) (payload : List Byte) : (s.answer dest payload).mr = s.mr := by
  simp [State.answer]

@[simp] theorem State.forward_pending (s : State) (p : Port) (f : Frame) : (s.forward p f).pending = s.pending := by
  simp [State.forward]
@[simp] theorem State.forward_powered (s : State) (p : Port) (f : Frame) : (s.forward p f).powered = s.powered := by
  simp [State.forward]
@[simp] theorem State.forward_fs (s : State) (p : Port) (f : Frame) : (s.forward p f).fs = s.fs := by
  simp [State.forward]
@[simp] theorem State.forward_siu (s : State) (p : Port) (f : Frame) : (s.forward p f).siu = s.siu := by
  simp [State.forward]
@[simp] theorem State.forward_bays (s : State) (p : Port) (f : Frame) : (s.forward p f).bays = s.bays := by
  simp [State.forward]
@[simp] theorem State.forward_links (s : State) (p : Port) (f : Frame) : (s.forward p f).links = s.links := by
  simp [State.forward]
@[simp] theorem State.forward_held (s : State) (p : Port) (f : Frame) : (s.forward p f).held = s.held := by
  simp [State.forward]
@[simp] theorem State.forward_ae (s : State) (p : Port) (f : Frame) : (s.forward p f).ae = s.ae := by
  simp [State.forward]
@[simp] theorem State.forward_bd (s : State) (p : Port) (f : Frame) : (s.forward p f).bd = s.bd := by
  simp [State.forward]
@[simp] theorem State.forward_cc (s : State) (p : Port) (f : Frame) : (s.forward p f).cc = s.cc := by
  simp [State.forward]
@[simp] theorem State.forward_mu (s : State) (p : Port) (f : Frame) : (s.forward p f).mu = s.mu := by
  simp [State.forward]
@[simp] theorem State.forward_rq (s : State) (p : Port) (f : Frame) : (s.forward p f).rq = s.rq := by
  simp [State.forward]
@[simp] theorem State.forward_mr (s : State) (p : Port) (f : Frame) : (s.forward p f).mr = s.mr := by
  simp [State.forward]

@[simp] theorem State.withdraw_pending (s : State) (l : List Byte) : (s.withdraw l).pending = s.pending := by
  simp [State.withdraw]
@[simp] theorem State.withdraw_powered (s : State) (l : List Byte) : (s.withdraw l).powered = s.powered := by
  simp [State.withdraw]
@[simp] theorem State.withdraw_fs (s : State) (l : List Byte) : (s.withdraw l).fs = s.fs := by
  simp [State.withdraw]
@[simp] theorem State.withdraw_siu (s : State) (l : List Byte) : (s.withdraw l).siu = s.siu := by
  simp [State.withdraw]
@[simp] theorem State.withdraw_bays (s : State) (l : List Byte) : (s.withdraw l).bays = s.bays := by
  simp [State.withdraw]
@[simp] theorem State.withdraw_links (s : State) (l : List Byte) : (s.withdraw l).links = s.links := by
  simp [State.withdraw]
@[simp] theorem State.withdraw_held (s : State) (l : List Byte) : (s.withdraw l).held = s.held := by
  simp [State.withdraw]
@[simp] theorem State.withdraw_ae (s : State) (l : List Byte) : (s.withdraw l).ae = s.ae := by
  simp [State.withdraw]
@[simp] theorem State.withdraw_bd (s : State) (l : List Byte) : (s.withdraw l).bd = s.bd := by
  simp [State.withdraw]
@[simp] theorem State.withdraw_cc (s : State) (l : List Byte) : (s.withdraw l).cc = s.cc := by
  simp [State.withdraw]
@[simp] theorem State.withdraw_mu (s : State) (l : List Byte) : (s.withdraw l).mu = s.mu := by
  simp [State.withdraw]
@[simp] theorem State.withdraw_rq (s : State) (l : List Byte) : (s.withdraw l).rq = s.rq := by
  simp [State.withdraw]
@[simp] theorem State.withdraw_mr (s : State) (l : List Byte) : (s.withdraw l).mr = s.mr := by
  simp [State.withdraw]

/-! ### One event (R174) -/

/-- One event is its work, or its work with a STATUS frame behind it where the unmasked pending set went from empty to
non-empty. -/
theorem inEvent_cases (work : State → State) (s : State) :
    (¬(s.unmasked = 0 ∧ (work s).unmasked ≠ 0) ∧ inEvent work s = work s) ∨
      (s.unmasked = 0 ∧ (work s).unmasked ≠ 0 ∧ inEvent work s = (work s).sendStatus) := by
  unfold inEvent
  by_cases h : s.unmasked = 0 ∧ (work s).unmasked ≠ 0
  · exact .inr ⟨h.1, h.2, if_pos h⟩
  · exact .inl ⟨h, if_neg h⟩

/-- A command of the running part always completes, and does its event. -/
theorem takeEvent_powered (work : State → State) {s : State} (h : s.powered = true) :
    takeEvent work s = .next (inEvent work s) := by simp [takeEvent, h]

/-- A part held in reset takes nothing (R177). -/
theorem takeEvent_unpowered (work : State → State) {s : State} (h : s.powered = false) : takeEvent work s = .next s := by
  simp [takeEvent, h]

/-! ### Reception (R146, R147) -/

/-- A reception is an event of its row exactly when a good frame of that row reaches a receiver that takes bytes. -/
theorem State.receive_cases (s : State) (p : Port) (row : FrameRow) (r : Reception) (work : Frame → State → State) :
    (∃ f, (s.port p).waiting = false ∧ goodFrame r = some f ∧ s.frameRow p f = row ∧
        s.receive p row r work = work f (s.countReceived p)) ∨
      (((s.port p).waiting = true ∨ ∀ f, goodFrame r = some f → s.frameRow p f ≠ row) ∧ s.receive p row r work = s) := by
  unfold State.receive
  cases hw : (s.port p).waiting
  · cases hg : goodFrame r with
    | none => exact .inr ⟨.inr (by simp), by simp⟩
    | some f =>
      by_cases hr : s.frameRow p f = row
      · exact .inl ⟨f, rfl, rfl, hr, by simp [hr]⟩
      · exact .inr ⟨.inr (by simpa using hr), by simp [hr]⟩
  · exact .inr ⟨.inl rfl, by simp⟩

/-! ### Requests (R164, R165, R171) -/

/-- A service serves exactly the request at the head that is of its row, while no restart is scheduled. -/
theorem State.serve_cases (row : Service) (work : Request → State → State) (s : State) :
    (∃ r rest, s.mr.requests = r :: rest ∧ s.mr.restart = .idle ∧ serviceOf r.payload = row ∧
        s.serve row work = { work r s with mr.requests := rest }) ∨
      s.serve row work = s := by
  unfold State.serve
  cases hq : s.mr.requests with
  | nil => exact .inr rfl
  | cons r rest =>
    by_cases h : s.mr.restart = .idle ∧ serviceOf r.payload = row
    · exact .inl ⟨r, rest, rfl, h.1, h.2, by simp [h]⟩
    · exact .inr (by simp [h])

/-- Behind the manager check a write or command has its effect and answers its status, or answers NOT_MANAGER without one. -/
theorem checked_cases (work : List Byte → State → State × Status) (r : Request) (s : State) :
    (s.passesManagers r.source = true ∧
        checked work r s =
          (work r.payload s).1.answer r.source
            (answerOf r.payload (work r.payload s).2 (work r.payload s).1.mr.plan)) ∨
      (s.passesManagers r.source = false ∧
        checked work r s = s.answer r.source (answerOf r.payload .notManager s.mr.plan)) := by
  unfold checked
  cases h : s.passesManagers r.source
  · exact .inr ⟨rfl, by simp⟩
  · exact .inl ⟨rfl, by simp⟩

/-! ### Fields -/

@[simp] theorem bytesOf_length (w n : Nat) : (bytesOf w n).length = w := by
  induction w with
  | zero => rfl
  | succ w ih => simp [bytesOf, ih]

@[simp] theorem fieldU_length (w n : Nat) : (fieldU w n).length = w := by
  unfold fieldU; split <;> simp [unfit]

@[simp] theorem fieldI_length (w : Nat) (z : Int) : (fieldI w z).length = w := by
  unfold fieldI; split <;> simp [unfit]

@[simp] theorem field32_length (v : BitVec 32) : (field32 v).length = 4 := by simp [field32]

@[simp] theorem field16_length (v : BitVec 16) : (field16 v).length = 2 := by simp [field16]

/-! ### Searches -/

/-- The greatest number up to `n` with a property: none above it has the property, and it has it itself or is 0. -/
theorem greatest_spec (p : Nat → Bool) (n : Nat) :
    greatest p n ≤ n ∧ (greatest p n = 0 ∨ p (greatest p n) = true) ∧ ∀ x, greatest p n < x → x ≤ n → p x = false := by
  induction n with
  | zero => exact ⟨le_refl 0, .inl rfl, fun x h k => by simp [greatest] at h; omega⟩
  | succ n ih =>
    unfold greatest
    by_cases h : p (n + 1) = true
    · simp only [h, if_true]
      exact ⟨le_refl _, .inr trivial, fun x a b => by omega⟩
    · simp only [h]
      refine ⟨by simpa using Nat.le_succ_of_le ih.1, by simpa using ih.2.1, fun x a b => ?_⟩
      rcases Nat.lt_or_ge n x with hx | hx
      · have : x = n + 1 := by omega
        subst this; simpa using h
      · exact ih.2.2 x (by simpa using a) hx

/-- An entry that a search finds stands at its position and satisfies what was sought (R150). -/
theorem State.findStation_some {s : State} {p : Station → Bool} {pos : Position} {e : Station}
    (h : s.findStation p = some (pos, e)) : s.fs.stations[pos] = some e ∧ p e = true := by
  unfold State.findStation at h
  rw [List.findSome?_eq_some_iff] at h
  obtain ⟨_, i, _, _, hi, _⟩ := h
  cases hs : s.fs.stations[i] with
  | none => simp [hs] at hi
  | some x =>
    simp only [hs] at hi
    split at hi
    · simp only [Option.some.injEq, Prod.mk.injEq] at hi
      obtain ⟨rfl, rfl⟩ := hi
      exact ⟨hs, by assumption⟩
    · exact absurd hi (by simp)

/-! ### Session timers -/

/-- A timer started now has not run out, whatever its duration (R10). -/
theorem State.newTimer_due (s : State) : s.newTimer.due = false := rfl

/-- A mark is set exactly when the duration of the state has been reached (R10). -/
theorem SessionTimer.tick_due (t : SessionTimer) (now : Uptime) (duration : Option Nat) :
    (t.tick now duration).due = true ↔ ∃ d, duration = some d ∧ d ≤ elapsed now t.start := by
  cases duration <;> simp [SessionTimer.tick]

/-- A second takes a countdown one down, and its last second makes it due and leaves it at 1 (log entry 6). -/
theorem Countdown.tick_cases (t : Countdown) :
    (2 ≤ t.left ∧ t.tick = ⟨t.left - 1, t.due⟩) ∨ (t.left = 1 ∧ t.tick = ⟨1, true⟩) ∨ (t.left = 0 ∧ t.tick = t) := by
  obtain ⟨left, due⟩ := t
  match left with
  | 0 => exact .inr (.inr ⟨rfl, rfl⟩)
  | 1 => exact .inr (.inl ⟨rfl, rfl⟩)
  | n + 2 => exact .inl ⟨by simp, by simp [Countdown.tick]⟩

end Sys2Proof.Machine
end

