-- ==== Sys2Proof/Laws/Blocks.lean ====
section
/-! SUPPORT. Once for each operation of a block, what it can do: BD's evaluation, the receipt queue, finalisation, and the inputs. -/

namespace Sys2Proof.Machine

/-! ### What the operations of the blocks leave -/

@[simp] theorem State.evaluateWith_pending (s : State) (also : List Byte) : (s.evaluateWith also).pending = s.pending := by
  simp only [State.evaluateWith]; split <;> simp
@[simp] theorem State.evaluateWith_powered (s : State) (also : List Byte) : (s.evaluateWith also).powered = s.powered := by
  simp only [State.evaluateWith]; split <;> simp
@[simp] theorem State.evaluateWith_fs (s : State) (also : List Byte) : (s.evaluateWith also).fs = s.fs := by
  simp only [State.evaluateWith]; split <;> simp
@[simp] theorem State.evaluateWith_siu (s : State) (also : List Byte) : (s.evaluateWith also).siu = s.siu := by
  simp only [State.evaluateWith]; split <;> simp
@[simp] theorem State.evaluateWith_bays (s : State) (also : List Byte) : (s.evaluateWith also).bays = s.bays := by
  simp only [State.evaluateWith]; split <;> simp
@[simp] theorem State.evaluateWith_links (s : State) (also : List Byte) : (s.evaluateWith also).links = s.links := by
  simp only [State.evaluateWith]; split <;> simp
@[simp] theorem State.evaluateWith_held (s : State) (also : List Byte) : (s.evaluateWith also).held = s.held := by
  simp only [State.evaluateWith]; split <;> simp
@[simp] theorem State.evaluateWith_ae (s : State) (also : List Byte) : (s.evaluateWith also).ae = s.ae := by
  simp only [State.evaluateWith]; split <;> simp
@[simp] theorem State.evaluateWith_cc (s : State) (also : List Byte) : (s.evaluateWith also).cc = s.cc := by
  simp only [State.evaluateWith]; split <;> simp
@[simp] theorem State.evaluateWith_mu (s : State) (also : List Byte) : (s.evaluateWith also).mu = s.mu := by
  simp only [State.evaluateWith]; split <;> simp
@[simp] theorem State.evaluateWith_rq (s : State) (also : List Byte) : (s.evaluateWith also).rq = s.rq := by
  simp only [State.evaluateWith]; split <;> simp

@[simp] theorem State.buildReceipt_pending (s : State) (b : BayNo) : (s.buildReceipt b).pending = s.pending := by
  simp [State.buildReceipt]
@[simp] theorem State.buildReceipt_powered (s : State) (b : BayNo) : (s.buildReceipt b).powered = s.powered := by
  simp [State.buildReceipt]
@[simp] theorem State.buildReceipt_fs (s : State) (b : BayNo) : (s.buildReceipt b).fs = s.fs := by
  simp [State.buildReceipt]
@[simp] theorem State.buildReceipt_siu (s : State) (b : BayNo) : (s.buildReceipt b).siu = s.siu := by
  simp [State.buildReceipt]
@[simp] theorem State.buildReceipt_bays (s : State) (b : BayNo) : (s.buildReceipt b).bays = s.bays := by
  simp [State.buildReceipt]
@[simp] theorem State.buildReceipt_links (s : State) (b : BayNo) : (s.buildReceipt b).links = s.links := by
  simp [State.buildReceipt]
@[simp] theorem State.buildReceipt_held (s : State) (b : BayNo) : (s.buildReceipt b).held = s.held := by
  simp [State.buildReceipt]
@[simp] theorem State.buildReceipt_ae (s : State) (b : BayNo) : (s.buildReceipt b).ae = s.ae := by
  simp [State.buildReceipt]
@[simp] theorem State.buildReceipt_bd (s : State) (b : BayNo) : (s.buildReceipt b).bd = s.bd := by
  simp [State.buildReceipt]
@[simp] theorem State.buildReceipt_cc (s : State) (b : BayNo) : (s.buildReceipt b).cc = s.cc := by
  simp [State.buildReceipt]
@[simp] theorem State.buildReceipt_mu (s : State) (b : BayNo) : (s.buildReceipt b).mu = s.mu := by
  simp [State.buildReceipt]
@[simp] theorem State.buildReceipt_mr (s : State) (b : BayNo) : (s.buildReceipt b).mr = s.mr := by
  simp [State.buildReceipt]

@[simp] theorem State.evalHigh_pending (s : State) : s.evalHigh.pending = s.pending := by
  simp [State.evalHigh]
@[simp] theorem State.evalHigh_powered (s : State) : s.evalHigh.powered = s.powered := by
  simp [State.evalHigh]
@[simp] theorem State.evalHigh_li (s : State) : s.evalHigh.li = s.li := by
  simp [State.evalHigh]
@[simp] theorem State.evalHigh_fs (s : State) : s.evalHigh.fs = s.fs := by
  simp [State.evalHigh]
@[simp] theorem State.evalHigh_siu (s : State) : s.evalHigh.siu = s.siu := by
  simp [State.evalHigh]
@[simp] theorem State.evalHigh_bays (s : State) : s.evalHigh.bays = s.bays := by
  simp [State.evalHigh]
@[simp] theorem State.evalHigh_links (s : State) : s.evalHigh.links = s.links := by
  simp [State.evalHigh]
@[simp] theorem State.evalHigh_held (s : State) : s.evalHigh.held = s.held := by
  simp [State.evalHigh]
@[simp] theorem State.evalHigh_ae (s : State) : s.evalHigh.ae = s.ae := by
  simp [State.evalHigh]
@[simp] theorem State.evalHigh_bd (s : State) : s.evalHigh.bd = s.bd := by
  simp [State.evalHigh]
@[simp] theorem State.evalHigh_cc (s : State) : s.evalHigh.cc = s.cc := by
  simp [State.evalHigh]
@[simp] theorem State.evalHigh_mu (s : State) : s.evalHigh.mu = s.mu := by
  simp [State.evalHigh]

@[simp] theorem State.blockedGrant_pending (s : State) (b : BayNo) : (s.blockedGrant b).pending = s.pending := by
  unfold State.blockedGrant; split <;> simp
@[simp] theorem State.blockedGrant_powered (s : State) (b : BayNo) : (s.blockedGrant b).powered = s.powered := by
  unfold State.blockedGrant; split <;> simp
@[simp] theorem State.blockedGrant_fs (s : State) (b : BayNo) : (s.blockedGrant b).fs = s.fs := by
  unfold State.blockedGrant; split <;> simp
@[simp] theorem State.blockedGrant_siu (s : State) (b : BayNo) : (s.blockedGrant b).siu = s.siu := by
  unfold State.blockedGrant; split <;> simp
@[simp] theorem State.blockedGrant_bays (s : State) (b : BayNo) : (s.blockedGrant b).bays = s.bays := by
  unfold State.blockedGrant; split <;> simp
@[simp] theorem State.blockedGrant_links (s : State) (b : BayNo) : (s.blockedGrant b).links = s.links := by
  unfold State.blockedGrant; split <;> simp
@[simp] theorem State.blockedGrant_held (s : State) (b : BayNo) : (s.blockedGrant b).held = s.held := by
  unfold State.blockedGrant; split <;> simp
@[simp] theorem State.blockedGrant_ae (s : State) (b : BayNo) : (s.blockedGrant b).ae = s.ae := by
  unfold State.blockedGrant; split <;> simp
@[simp] theorem State.blockedGrant_bd (s : State) (b : BayNo) : (s.blockedGrant b).bd = s.bd := by
  unfold State.blockedGrant; split <;> simp
@[simp] theorem State.blockedGrant_cc (s : State) (b : BayNo) : (s.blockedGrant b).cc = s.cc := by
  unfold State.blockedGrant; split <;> simp
@[simp] theorem State.blockedGrant_mu (s : State) (b : BayNo) : (s.blockedGrant b).mu = s.mu := by
  unfold State.blockedGrant; split <;> simp
@[simp] theorem State.blockedGrant_rq (s : State) (b : BayNo) : (s.blockedGrant b).rq = s.rq := by
  unfold State.blockedGrant; split <;> simp
@[simp] theorem State.blockedGrant_mr (s : State) (b : BayNo) : (s.blockedGrant b).mr = s.mr := by
  unfold State.blockedGrant; split <;> simp

/-! ### Battery Dispatch -/

/-- What an evaluation leaves in BD, beside the last setpoint sent (R75, R76, R80). -/
theorem State.evaluateWith_bd (s : State) (also : List Byte) :
    let flag := topUpAfter s.bd.table s.siu.freeze s.batteryFigures s.bd.topUp
    let memory := s.batteryFigures.map fun f => nextMemory s.bd.table f.soc s.bd.memory
    let t := s.evaluateWith also
    t.bd.table = s.bd.table ∧ t.bd.memory = memory ∧ t.bd.topUp = flag.1 ∧
      t.bd.mode = modeOf s.bd.table s.siu.freeze memory flag.1 ∧
      (t.bd.offerBd, t.bd.offerBc) = offerOf s.bd.table t.bd.mode s.bd.manual s.batteryFigures ∧
      t.bd.manual = s.bd.manual := by
  simp only [State.evaluateWith]
  split <;> simp [State.withdraw]

/-- An evaluation changes BD, its two events and the Down queue alone (R76, R79, R82). -/
theorem State.evaluateWith_frame (s : State) (also : List Byte) :
    s.changesOnly (s.evaluateWith also) ({.battery, .events, .queue .down} : Set Part) := by
  have frame (x : BatteryState) (h : x.table = s.bd.table) : s.changesOnly { s with bd := x } {.battery} := by
    intro part hp
    cases part <;> first | exact absurd rfl hp | exact h | exact ⟨rfl, rfl⟩ | exact ⟨rfl, rfl, rfl⟩ | rfl
  have sub (a : Part) (h : a ∈ ({.battery, .events, .queue .down} : Set Part)) :
      ({a} : Set Part) ⊆ {.battery, .events, .queue .down} := by simpa using h
  have evaluated (x : BatteryState) (h : x.table = s.bd.table) (done changed : Bool) :
      s.changesOnly ((({ s with bd := x } : State).raiseIf done .topUpDone).raiseIf changed .batteryMode)
        ({.battery, .events, .queue .down} : Set Part) :=
    State.changesOnly_within
      (State.changesOnly_within (State.changesOnly_mono (frame x h) (sub _ (by simp)))
        (State.changesOnly_mono (State.raiseIf_frame _ _ _) (sub _ (by simp))))
      (State.changesOnly_mono (State.raiseIf_frame _ _ _) (sub _ (by simp)))
  have withdrawn (c : Bool) (t : State) (l : List Byte) :
      t.changesOnly (if c then t.withdraw l else t) ({.battery, .events, .queue .down} : Set Part) := by
    cases c
    · exact t.changesOnly_refl _
    · exact State.changesOnly_mono (t.withdraw_frame l) (sub (.queue .down) (by simp))
  unfold State.evaluateWith
  refine State.changesOnly_within (evaluated _ ?_ _ _) (withdrawn _ _ _)
  rfl

/-- Every evaluation leaves the modes and offers of BatteryInv, from a state that its inputs fit (R76, R78, R80, R82). -/
theorem modeOf_cases (t : BatteryTable) (frozen : Bool) (memory : Option Memory) (flag : Bool) :
    (modeOf t frozen memory flag = .manual ↔ t.control = .manual) ∧
      (modeOf t frozen memory flag = .island ↔ t.control = .auto ∧ frozen = true) ∧
      (modeOf t frozen memory flag = .off ↔ t.control = .auto ∧ frozen = false ∧ memory = none) := by
  cases hc : t.control <;> cases frozen <;> rcases memory with _ | (_ | _ | _) <;> cases flag <;>
    simp [modeOf, hc, Memory.mode]

/-! ### Receipt Queue -/

/-- The high condition follows the count of receipts and the mark (R141). -/
theorem State.evalHigh_rq (s : State) :
    s.evalHigh.rq = { s.rq with high := decide (s.mr.site.highWater ≤ s.rq.receipts.length) } := by
  simp [State.evalHigh]

/-- Building a receipt appends one receipt with the next number; nothing of it is lost where its frames are dropped
(R129, R130, R137). -/
theorem State.buildReceipt_rq (s : State) (b : BayNo) :
    (s.buildReceipt b).rq = { s.rq with receipts := s.rq.receipts ++ [s.receiptOf b], next := s.rq.next + 1 } := by
  simp only [State.buildReceipt, State.offerAll]
  split <;> simp

/-! ### Session Manager -/

/-- Finalisation builds a receipt while the queue has room, and holds the bay where it has none (R14, R17). -/
theorem State.finalise_receipts (s : State) (b : BayNo) (reason : EndReason) (final : Option Register) :
    (s.rq.receipts.length < receiptSlots ∧ (s.finalise b reason final).held = s.held ∧
        (s.finalise b reason final).rq.receipts.length = s.rq.receipts.length + 1) ∨
      (receiptSlots ≤ s.rq.receipts.length ∧ (s.finalise b reason final).held = s.held ++ [b] ∧
        (s.finalise b reason final).rq = s.rq) := by
  unfold State.finalise
  by_cases h : s.rq.receipts.length < receiptSlots
  · refine .inl ⟨h, ?_, ?_⟩ <;> simp [h, State.evalHigh_rq, State.buildReceipt_rq]
  · refine .inr ⟨by omega, ?_, ?_⟩ <;> simp only [State.modSession_rq, h, if_false] <;> split <;> simp

/-! ### Site Input Unit -/

/-- An input formed anew fits its sense (R37, R43, R44). -/
theorem Input.formed_fits (sense : Sense) (high : Bool) : (Input.formed sense high).fits sense := by
  cases sense <;> simp [Input.formed, Input.fits, Sense.levelActive]

/-- An input that fits its sense still fits it after any pin level (R35, R36). -/
theorem Input.take_fits (i : Input) (sense : Sense) (high : Bool) : (i.take sense high).fits sense := by
  cases sense <;> simp [Input.take, Input.formed, Input.fits, Sense.isLevel, Sense.levelActive]

/-- A cleared input that fits its sense still fits it (R39, R41). -/
theorem Input.cleared_fits {i : Input} {sense : Sense} (h : i.fits sense) : (i.cleared sense).fits sense := by
  cases sense <;> simp_all [Input.cleared, Input.fits, Sense.isLevel]

end Sys2Proof.Machine
end

