-- ==== Sys2Proof/WellFormed.lean ====
section
/-! DEFINITION. The checks on a command that need no state: what its operands must be for the row it stands for.  A command that
fails its check stands for no event of its row, and its meaning then changes nothing (log entry 2). -/

namespace Sys2Proof

open Machine

/-- A reception holds at least its opening byte (R146). -/
def Reception.wellFormed (r : Reception) : Bool := !r.bytes.isEmpty

/-- The operands fit the row. -/
def Instr.wellFormed : Instr → Bool
  | .frameError _ r => r.wellFormed && (goodFrame r).isNone
  | .sampleFrame r => isGoodOf [kindSample] r
  | .demandFrame r => isGoodOf [kindDemand] r
  | .linkFrame r => isGoodOf [kindLink] r
  | .manageFrame r => isGoodOf [kindManage] r
  | .upLimitScreen r => isGoodOf [kindLimit, kindGrant] r
  | .forwardUp r => (goodFrame r).isSome
  | .forwardDown r => (goodFrame r).isSome
  | .ownAddressDrop _ r => (goodFrame r).isSome
  | .ownSourceDiscard _ r => (goodFrame r).isSome
  | .transmitStart _ => true
  | .read => true
  | .siteWrite => true
  | .stationWrite => true
  | .bayWrite => true
  | .tariffWrite => true
  | .batteryWrite => true
  | .canopyWrite => true
  | .eventMaskWrite => true
  | .setClock => true
  | .restart => true
  | .resume => true
  | .shedClear => true
  | .topUp => true
  | .forceClose => true
  | .releaseReceipt => true
  | .clearEvents => true
  | .clearCounters => true
  | .unknownCommand => true
  | .warmRestart _ _ _ => true
  | .supplyLoss => true
  | .coldReset _ _ _ _ => true
  | .shedPinLevel _ => true
  | .islandPinLevel _ => true
  | .meteringTick => true
  | .measureAgeTick => true
  | .recordStale _ => true
  | .silenceExpiry _ => true
  | .silentCloseExpiry _ => true
  | .closeHoldExpiry _ => true
  | .pendingLinkExpiry _ => true
  | .allocationPassStart => true
  | .publication => true
  | .guardExpiry _ => true
  | .dwellExpiry _ => true
  | .canopyPassStart => true
  | .canopyPublication => true
  | .frameTransmitEnd _ => true
  | .receiverIdlePeriod _ => true
  | .resetPinReturnHigh => true
  | .badTableWrite => true

end Sys2Proof
end

