-- ==== Sys2Proof/Laws/PerInstr.lean ====
section
/-! SUPPORT. The per-command family of LAWS.json, about the operands of a command: a command that carries no reception is always
well formed, and one that carries a reception is well formed only if the reception holds a byte, and, unless it is FRAME_ERROR,
only if it is a good frame (R146, R147). -/

namespace Sys2Proof.Laws.Operands

open Sys2Proof Machine

/-- The reception that a command carries. -/
def reception : Instr → Option Reception
  | .frameError _ r => some r
  | .sampleFrame r => some r
  | .demandFrame r => some r
  | .linkFrame r => some r
  | .manageFrame r => some r
  | .upLimitScreen r => some r
  | .forwardUp r => some r
  | .forwardDown r => some r
  | .ownAddressDrop _ r => some r
  | .ownSourceDiscard _ r => some r
  | .transmitStart _ => none
  | .read => none
  | .siteWrite => none
  | .stationWrite => none
  | .bayWrite => none
  | .tariffWrite => none
  | .batteryWrite => none
  | .canopyWrite => none
  | .eventMaskWrite => none
  | .setClock => none
  | .restart => none
  | .resume => none
  | .shedClear => none
  | .topUp => none
  | .forceClose => none
  | .releaseReceipt => none
  | .clearEvents => none
  | .clearCounters => none
  | .unknownCommand => none
  | .warmRestart _ _ _ => none
  | .supplyLoss => none
  | .coldReset _ _ _ _ => none
  | .shedPinLevel _ => none
  | .islandPinLevel _ => none
  | .meteringTick => none
  | .measureAgeTick => none
  | .recordStale _ => none
  | .silenceExpiry _ => none
  | .silentCloseExpiry _ => none
  | .closeHoldExpiry _ => none
  | .pendingLinkExpiry _ => none
  | .allocationPassStart => none
  | .publication => none
  | .guardExpiry _ => none
  | .dwellExpiry _ => none
  | .canopyPassStart => none
  | .canopyPublication => none
  | .frameTransmitEnd _ => none
  | .receiverIdlePeriod _ => none
  | .resetPinReturnHigh => none
  | .badTableWrite => none

/-- Whether a command is FRAME_ERROR. -/
def isFrameError : Instr → Bool
  | .frameError _ _ => true
  | .sampleFrame _ => false
  | .demandFrame _ => false
  | .linkFrame _ => false
  | .manageFrame _ => false
  | .upLimitScreen _ => false
  | .forwardUp _ => false
  | .forwardDown _ => false
  | .ownAddressDrop _ _ => false
  | .ownSourceDiscard _ _ => false
  | .transmitStart _ => false
  | .read => false
  | .siteWrite => false
  | .stationWrite => false
  | .bayWrite => false
  | .tariffWrite => false
  | .batteryWrite => false
  | .canopyWrite => false
  | .eventMaskWrite => false
  | .setClock => false
  | .restart => false
  | .resume => false
  | .shedClear => false
  | .topUp => false
  | .forceClose => false
  | .releaseReceipt => false
  | .clearEvents => false
  | .clearCounters => false
  | .unknownCommand => false
  | .warmRestart _ _ _ => false
  | .supplyLoss => false
  | .coldReset _ _ _ _ => false
  | .shedPinLevel _ => false
  | .islandPinLevel _ => false
  | .meteringTick => false
  | .measureAgeTick => false
  | .recordStale _ => false
  | .silenceExpiry _ => false
  | .silentCloseExpiry _ => false
  | .closeHoldExpiry _ => false
  | .pendingLinkExpiry _ => false
  | .allocationPassStart => false
  | .publication => false
  | .guardExpiry _ => false
  | .dwellExpiry _ => false
  | .canopyPassStart => false
  | .canopyPublication => false
  | .frameTransmitEnd _ => false
  | .receiverIdlePeriod _ => false
  | .resetPinReturnHigh => false
  | .badTableWrite => false

/-- What the operands of a well-formed command are. -/
def Statement (i : Instr) : Prop :=
  (reception i = none → i.wellFormed = true) ∧
    ∀ r, reception i = some r → i.wellFormed = true →
      r.bytes ≠ [] ∧ ((goodFrame r).isSome = !isFrameError i)

/-- A good frame was received with at least one byte. -/
theorem bytes_of_good {r : Reception} (h : (goodFrame r).isSome = true) : r.bytes ≠ [] := by
  intro e
  simp [goodFrame, judge, e] at h

/-- A command that carries no reception and is well formed. -/
theorem statement_plain {i : Instr} (h : reception i = none) (w : i.wellFormed = true) : Statement i :=
  ⟨fun _ => w, fun r e => by rw [h] at e; cases e⟩

/-- A command whose check asks for a good frame. -/
theorem statement_good {i : Instr} {r : Reception} (h : reception i = some r) (n : isFrameError i = false)
    (g : i.wellFormed = true → (goodFrame r).isSome = true) : Statement i :=
  ⟨fun e => by simp [h] at e, fun x e w => by
    have : r = x := by simpa [h] using e
    subst this
    exact ⟨bytes_of_good (g w), by rw [n]; simpa using g w⟩⟩

/-- A reception of one of some kinds is a good frame. -/
theorem good_of_kinds {kinds : List Byte} {r : Reception} (h : isGoodOf kinds r = true) : (goodFrame r).isSome = true := by
  unfold isGoodOf at h
  cases hg : goodFrame r <;> simp_all

theorem frameError (a : Port) (b : Reception) : Statement (.frameError a b) := by
  refine ⟨(nomatch ·), fun r h w => ?_⟩
  obtain rfl : b = r := by simpa [reception] using h
  simp only [Instr.wellFormed, Reception.wellFormed, Bool.and_eq_true] at w
  exact ⟨by simpa using w.1, by simpa [isFrameError] using w.2⟩
theorem sampleFrame (a : Reception) : Statement (.sampleFrame a) := statement_good rfl rfl good_of_kinds
theorem demandFrame (a : Reception) : Statement (.demandFrame a) := statement_good rfl rfl good_of_kinds
theorem linkFrame (a : Reception) : Statement (.linkFrame a) := statement_good rfl rfl good_of_kinds
theorem manageFrame (a : Reception) : Statement (.manageFrame a) := statement_good rfl rfl good_of_kinds
theorem upLimitScreen (a : Reception) : Statement (.upLimitScreen a) := statement_good rfl rfl good_of_kinds
theorem forwardUp (a : Reception) : Statement (.forwardUp a) := statement_good rfl rfl id
theorem forwardDown (a : Reception) : Statement (.forwardDown a) := statement_good rfl rfl id
theorem ownAddressDrop (a : Port) (b : Reception) : Statement (.ownAddressDrop a b) := statement_good rfl rfl id
theorem ownSourceDiscard (a : Port) (b : Reception) : Statement (.ownSourceDiscard a b) := statement_good rfl rfl id
theorem transmitStart (a : Port) : Statement (.transmitStart a) := statement_plain rfl rfl
theorem read : Statement .read := statement_plain rfl rfl
theorem siteWrite : Statement .siteWrite := statement_plain rfl rfl
theorem stationWrite : Statement .stationWrite := statement_plain rfl rfl
theorem bayWrite : Statement .bayWrite := statement_plain rfl rfl
theorem tariffWrite : Statement .tariffWrite := statement_plain rfl rfl
theorem batteryWrite : Statement .batteryWrite := statement_plain rfl rfl
theorem canopyWrite : Statement .canopyWrite := statement_plain rfl rfl
theorem eventMaskWrite : Statement .eventMaskWrite := statement_plain rfl rfl
theorem setClock : Statement .setClock := statement_plain rfl rfl
theorem restart : Statement .restart := statement_plain rfl rfl
theorem resume : Statement .resume := statement_plain rfl rfl
theorem shedClear : Statement .shedClear := statement_plain rfl rfl
theorem topUp : Statement .topUp := statement_plain rfl rfl
theorem forceClose : Statement .forceClose := statement_plain rfl rfl
theorem releaseReceipt : Statement .releaseReceipt := statement_plain rfl rfl
theorem clearEvents : Statement .clearEvents := statement_plain rfl rfl
theorem clearCounters : Statement .clearCounters := statement_plain rfl rfl
theorem unknownCommand : Statement .unknownCommand := statement_plain rfl rfl
theorem warmRestart (a : RestartCause) (b : Bool) (c : Bool) : Statement (.warmRestart a b c) := statement_plain rfl rfl
theorem supplyLoss : Statement .supplyLoss := statement_plain rfl rfl
theorem coldReset (a : Bool) (b : Bool) (c : Bool) (d : Bool) : Statement (.coldReset a b c d) := statement_plain rfl rfl
theorem shedPinLevel (a : Bool) : Statement (.shedPinLevel a) := statement_plain rfl rfl
theorem islandPinLevel (a : Bool) : Statement (.islandPinLevel a) := statement_plain rfl rfl
theorem meteringTick : Statement .meteringTick := statement_plain rfl rfl
theorem measureAgeTick : Statement .measureAgeTick := statement_plain rfl rfl
theorem recordStale (a : Position) : Statement (.recordStale a) := statement_plain rfl rfl
theorem silenceExpiry (a : BayNo) : Statement (.silenceExpiry a) := statement_plain rfl rfl
theorem silentCloseExpiry (a : BayNo) : Statement (.silentCloseExpiry a) := statement_plain rfl rfl
theorem closeHoldExpiry (a : BayNo) : Statement (.closeHoldExpiry a) := statement_plain rfl rfl
theorem pendingLinkExpiry (a : BayNo) : Statement (.pendingLinkExpiry a) := statement_plain rfl rfl
theorem allocationPassStart : Statement .allocationPassStart := statement_plain rfl rfl
theorem publication : Statement .publication := statement_plain rfl rfl
theorem guardExpiry (a : BayNo) : Statement (.guardExpiry a) := statement_plain rfl rfl
theorem dwellExpiry (a : ClassNo) : Statement (.dwellExpiry a) := statement_plain rfl rfl
theorem canopyPassStart : Statement .canopyPassStart := statement_plain rfl rfl
theorem canopyPublication : Statement .canopyPublication := statement_plain rfl rfl
theorem frameTransmitEnd (a : Port) : Statement (.frameTransmitEnd a) := statement_plain rfl rfl
theorem receiverIdlePeriod (a : Port) : Statement (.receiverIdlePeriod a) := statement_plain rfl rfl
theorem resetPinReturnHigh : Statement .resetPinReturnHigh := statement_plain rfl rfl
theorem badTableWrite : Statement .badTableWrite := statement_plain rfl rfl

end Sys2Proof.Laws.Operands
end

