-- ==== Sys2Proof/Tests/Slice0.lean ====
section
/-! SUPPORT. Tests of the model's own: the checks of WellFormed, the spec's worked cases and short steps with values worked out from
its rules, and one witness for the hypotheses of each statement. -/

namespace Sys2Proof.Tests

set_option Elab.async false

open Sys2Proof Sys2Proof.Machine

/-! ### A small site -/

/-- The state after a command. -/
def after (c : Instr) (s : State) : State :=
  match exec c s with
  | .next t => t
  | .fault _ => s
  | .refused _ => s

/-- The values of a record that has been fresh for a second. -/
def fresh (v : Values) : Option MeasRecord := some ⟨some v, 1, 0, false⟩

/-- A bay of class 0 in a session state. -/
def bayIn (state : SessionState) : Bay := { Bay.cold with config := ⟨true, 0, 0⟩, session.state := state }

/-- A meter of each kind, a battery, two strings and two chargers; bays 0 and 1 VACANT; both receivers open. -/
def yard : State :=
  { State.reset with
    li.down.waiting := false
    li.up.waiting := false
    fs.stations :=
      (((((((Vector.replicate 64 none).set 0 (some ⟨0x10, .gridMeter, 1⟩)).set 1 (some ⟨0x11, .shopMeter, 1⟩)).set 2
        (some ⟨0x40, .battery, 1⟩)).set 3 (some ⟨0x30, .pvString 0, 1⟩)).set 4 (some ⟨0x31, .pvString 1, 3⟩)).set 5
        (some ⟨0x20, .charger 0, 1⟩)).set 6 (some ⟨0x21, .charger 1, 2⟩)
    siu.records :=
      (((((Vector.replicate 64 none).set 0 (fresh (.grid 1000 7))).set 1 (fresh (.shop 12000))).set 2
        (fresh (.battery 0 500 30000 20000))).set 3 (fresh (.pv 9000 10000))).set 4 (fresh (.pv 7500 10000))
    bays := ((Vector.replicate 32 Bay.cold).set 0 (bayIn .vacant)).set 1 (bayIn .vacant) }

/-- The yard with a session part at bay 0. -/
def yardWith (x : Session) : State := yard.modSession 0 fun _ => x

/-- Charger figures of a car that asks for 32.0 A on three phases. -/
def asking : Figures := ⟨.requesting, 320, 60, 320, .three, 11040, 48210, 0⟩

/-- An open session in a state. -/
def openIn (state : SessionState) : Session :=
  { (bayIn state).session with
    id := 7, startUptime := some 0, startRegister := some 48210, timer := some ⟨0, false⟩, figures := some asking
    endReason := if state = .closing ∨ state = .held then some .unplugged else none }

/-- Figures in a charger state. -/
def figuresIn (state : ChargerState) : Figures := { asking with state }

/-- The DEMAND of bay 0's charger that carries figures. -/
def demandFrom (f : Figures) : Frame := ⟨0xFF, 0x20, kindDemand, figureBytes (some f)⟩

/-- A SAMPLE. -/
def sampleFrom (source : Byte) (v : Values) : Frame := ⟨0xFF, source, kindSample, valueBytes (some v)⟩

/-- The battery's SAMPLE at a state of charge. -/
def batterySample (soc : Nat) : Frame := sampleFrom 0x40 (.battery 0 soc 30000 20000)

/-- A request of station 02h at the head of the queue. -/
def asks (s : State) (payload : List Byte) : State := { s with mr.requests := [⟨0x02, payload⟩] }

/-- A receipt of a number. -/
def receiptNo (n : Nat) : Receipt :=
  { formReceipt SiteTable.cold (BitVec.ofNat 32 n) 0 Bay.cold with number := BitVec.ofNat 32 n }

/-- A full receipt queue, 500 to 547 (7.8). -/
def fullQueue (s : State) : State :=
  { s with rq := ⟨(List.range 48).map fun i => receiptNo (500 + i), 548, true⟩ }

/-! ### The checks of WellFormed -/

theorem test_frame_error_refuses_no_bytes : (Instr.frameError .down ⟨[], true⟩).wellFormed = false := by decide
theorem test_frame_error_refuses_good : (Instr.frameError .up (received (batterySample 500))).wellFormed = false := by
  decide +kernel
theorem test_sample_refuses_demand : (Instr.sampleFrame (received (demandFrom asking))).wellFormed = false := by decide +kernel
theorem test_demand_refuses_sample : (Instr.demandFrame (received (batterySample 500))).wellFormed = false := by decide +kernel
theorem test_link_refuses_manage : (Instr.linkFrame (received ⟨0xF0, 2, kindManage, []⟩)).wellFormed = false := by
  decide +kernel
theorem test_manage_refuses_link : (Instr.manageFrame (received ⟨0xF0, 2, kindLink, []⟩)).wellFormed = false := by
  decide +kernel
theorem test_up_limit_refuses_sample : (Instr.upLimitScreen (received (batterySample 500))).wellFormed = false := by
  decide +kernel
theorem test_forward_up_refuses_fragment : (Instr.forwardUp ⟨[0xFF, 0x10], true⟩).wellFormed = false := by decide +kernel
theorem test_forward_down_refuses_bad_crc : (Instr.forwardDown ⟨[0xFF, 2, 0x21, 0, 0, 0], true⟩).wellFormed = false := by
  decide +kernel
theorem test_own_drop_refuses_oversize : (Instr.ownAddressDrop .up ⟨[0xF0, 2, 0x10, 97], true⟩).wellFormed = false := by
  decide +kernel
theorem test_own_source_refuses_missing_stop :
    (Instr.ownSourceDiscard .up ⟨frameBytes ⟨0xFF, 0xF0, 0x10, []⟩, false⟩).wellFormed = false := by decide +kernel

/-! ### Frames (R148, R182) -/

/-- R148's own check: the nine bytes give 29B1h. -/
theorem test_crc_check_value : crc [0x31, 0x32, 0x33, 0x34, 0x35, 0x36, 0x37, 0x38, 0x39] = 0x29B1#16 := by decide +kernel

/-- A length byte of 96 is within a frame, one of 97 is oversize whatever follows (8.1, R147). -/
theorem test_longest_frame :
    judge ⟨[1, 2, 3, 96, 0], true⟩ = .fragment ∧ judge ⟨[1, 2, 3, 97, 0], true⟩ = .oversize ∧
      judge (received ⟨1, 2, 3, []⟩) = .good ⟨1, 2, 3, []⟩ := by decide +kernel

/-- R156: a LIMIT above the published grant is held to it, one below 0 to 0; a rewritten frame keeps its other bytes (R182). -/
theorem test_limit_screen :
    clampToGrant 100 320 = 100 ∧ clampToGrant 100 (-1) = 0 ∧ clampToGrant 100 99 = 99 ∧
      withValue ⟨0x20, 2, kindGrant, [0, 1, 0x40, 1, 9]⟩ 100 = ⟨0x20, 2, kindGrant, [0, 0, 100, 1, 9]⟩ := by decide +kernel

/-! ### The worked cases -/

/-- 3.14: A0, C, grants and balance, by the fill over the list order given there. -/
theorem test_full_budget :
    let c (bay : BayNo) (cls : ClassNo) (imin imax : Nat) (ph : Phases) : Candidate := ⟨bay, cls, imin, imax, ph⟩
    (allocate 230 61400
        [c 3 0 60 320 .three, c 7 1 60 160 .three, c 8 1 60 320 .one, c 12 2 60 320 .three, c 20 2 80 320 .three]).map
      (fun g => (g.1.bay.val, g.2)) = [(3, 320), (7, 160), (8, 320), (12, 141), (20, 161)] := by decide +kernel

/-- 3.15: each bay's power is rounded up on its own. -/
theorem test_ceilings :
    let cs : List Candidate := [⟨14, 4, 61, 100, .one⟩, ⟨15, 4, 60, 100, .three⟩]
    classStep 231 cs 2000 = 21 ∧ stepCost 231 cs 21 = 1941 ∧ stepCost 231 cs 22 = 2033 := by decide +kernel

/-- 3.16: a budget of 7,000 W admits bay 4 alone and raises it to 101 dA. -/
theorem test_negative_budget :
    (allocate 230 7000 [⟨4, 0, 60, 160, .three⟩, ⟨9, 0, 60, 320, .three⟩]).map (fun g => (g.1.bay.val, g.2)) = [(4, 101)] := by
  decide +kernel

/-- The canopy table of 5.8. -/
def canopy (floor : Nat) : CanopyTable :=
  ⟨true, 20000, 500, 5, Vector.ofFn fun j : Fin 8 => ⟨decide (j.val < 4), 10000, if j.val < 4 then floor else 0⟩⟩

/-- The string outputs of 5.8. -/
def outputs (j : StringNo) : Nat := [9000, 7500, 4200, 6100].getD j.val 0

/-- 5.8, first pass: K 5,000 W and a common cap of 5,860 W. -/
theorem test_curtailment :
    boundAmount (canopy 0) (correctExport (canopy 0) (releaseForCars 2000 0) (some (-23000))) = 5000 ∧
      commonCap (canopy 0) outputs 21800 = 5860 := by decide +kernel

/-- 5.8, second pass: K falls to 0. -/
theorem test_release_of_curtailment :
    boundAmount (canopy 0) (correctExport (canopy 0) (releaseForCars 5000 4000) (some (-17980))) = 0 := by decide +kernel

/-- 5.9: with floors of 3,000 W the floors exceed a target of 10,000 W. -/
theorem test_floors_exceed :
    commonCap (canopy 3000) (fun j => [6000, 5500, 4000, 3500].getD j.val 0) 10000 = 0 ∧
      floorsExceed (canopy 3000) (fun j => [6000, 5500, 4000, 3500].getD j.val 0) 10000 = true := by decide +kernel

/-- 6.8: the site split. -/
theorem test_split_of_a_tick :
    siteSplit 28129 18400 0 12000 = ⟨28129, 18400, 0, 12000, 6400, 0, 0, 6400, 0, 21729⟩ := by decide +kernel

/-- 6.8: the solar shares, bays 7, 8 and 12. -/
theorem test_solar_shares :
    let w := (((Vector.replicate 32 0).set 7 11040).set 8 7360).set 12 9729
    ((shares 6400 w)[7], (shares 6400 w)[8], (shares 6400 w)[12]) = (2512, 1674, 2214) := by decide +kernel

/-- 6.9: equal remainders go to the lower bay numbers. -/
theorem test_tied_shares :
    let w := (((Vector.replicate 32 0).set 5 3000).set 6 3000).set 9 3000
    ((shares 2000 w)[5], (shares 2000 w)[6], (shares 2000 w)[9]) = (667, 667, 666) := by decide +kernel

/-- 6.9: bay 5's allowance is spent on grid energy first; its cost and bay 6's. -/
theorem test_allowance_and_cost :
    let band : Band := ⟨0, 285, 190, false, false⟩
    let t : TickShare := ⟨3000, 667, 1000, 1333⟩
    freeOf (some ⟨5, 0, 1500⟩) t = (1333, 167) ∧ tickCost band t (1333, 167) = 285000 ∧
      tickCost band t (0, 0) = 696635 := by decide +kernel

/-- 6.11: the band in force at the site times of its table. -/
theorem test_bands_of_a_saturday :
    profileOfDay 0x60 1208 = .a ∧ profileOfDay 0x60 1209 = .b ∧
      (let a := [360, 960, 1260].map fun m => (⟨m, 0, 0, false, false⟩ : Band)
       let b := [420, 1020, 1320].map fun m => (⟨m, 0, 0, false, false⟩ : Band)
       positionAt a 630 = 0 ∧ positionAt a 1390 = 2 ∧ positionAt b 120 = 2 ∧ positionAt b 1020 = 1) := by decide +kernel

/-- The session of 7.6 at its finalisation. -/
def hourBay : Bay :=
  { Bay.cold with
    session :=
      { (openIn .closing) with
        id := 88, startTime := some ⟨1206, 50400⟩, endTime := some ⟨1206, 54000⟩, startRegister := some 48210
        finalRegister := some 59262, startUptime := some 230400, endUptime := some 234000, link := some ⟨1, 5000, 0⟩ }
    metering := ⟨39744000, 0, 0, 39744000, 18000000, [⟨⟨.a, 1⟩, 39744000, 6197040000⟩], false, 160, 0, 0⟩ }

/-- 7.6: one receipt built. -/
theorem test_receipt_of_one_hour :
    let r := formReceipt SiteTable.cold 1053 3 hourBay
    r.duration = 3600 ∧ r.gridWh = 11040 ∧ r.energyWh = 11040 ∧ r.freeWh = 5000 ∧ r.bands = [⟨⟨.a, 1⟩, 11040, 172⟩] ∧
      r.amount = 172 ∧ r.chargerWh = some 11052 ∧ r.registerMismatch = false ∧ r.estimated = false ∧ r.mask = 0x3F := by
  decide +kernel

/-- 7.7: halves are rounded up, source by source and band by band. -/
theorem test_rounding_on_a_receipt :
    (whOf 5401800, whOf 3601800, whOf 7196400, whOf 7200000) = (1501, 1001, 1999, 2000) ∧
      receiptBand ⟨⟨.b, 1⟩, 9720000, 3654000000⟩ = ⟨⟨.b, 1⟩, 2700, 102⟩ ∧ registersDiffer 100 4501 (some 4652) = true := by
  decide +kernel

/-! ### One step of each command -/

theorem test_frame_error : (after (.frameError .down ⟨[0xFF, 0x10, 0x10, 97], true⟩) yard).li.down.counters.oversize = 1 := by
  decide +kernel
theorem test_sample_frame :
    (after (.sampleFrame (received (sampleFrom 0x31 (.pv 4200 10000)))) yard).siu.records[(4 : Position)] =
      some ⟨some (.pv 4200 10000), 0, 0, false⟩ := by decide +kernel
theorem test_demand_frame_opens : (after (.demandFrame (received (demandFrom asking))) yard).bays[0].session.state = .active := by
  decide +kernel
/-- R8: ENDED finalises with the final register, here 11 Wh after the start. -/
theorem test_demand_frame_ends :
    ((after (.demandFrame (received (demandFrom { (figuresIn .ended) with register := 48221 })))
      (yardWith (openIn .active))).rq.receipts.map fun r => (r.chargerWh, r.number)) = [(some 11, 1)] := by decide +kernel
/-- R22: an allowance of 5,000 Wh is 18,000,000 J. -/
theorem test_link_frame :
    (after (.linkFrame (received ⟨0xF0, 3, kindLink, [0] ++ bytesOf 8 77 ++ bytesOf 2 5000⟩)) (yardWith (openIn .active))).bays[0].session.link =
      some ⟨77, 5000, 18000000⟩ := by decide +kernel
theorem test_manage_frame :
    (after (.manageFrame (received ⟨0xF0, 2, kindManage, [7, 3, 3]⟩)) yard).mr.requests = [⟨2, [7, 3, 3]⟩] := by decide +kernel
theorem test_up_limit_screen :
    (after (.upLimitScreen (received ⟨0x20, 2, kindLimit, fieldI 4 320⟩)) (yard.modAlloc 0 fun a => { a with grant := 100 })).li.down.queue =
      [⟨⟨0x20, 2, kindLimit, [0, 0, 0, 100]⟩, .forwarded⟩] := by decide +kernel
theorem test_forward_up_unknown : (after (.forwardUp (received ⟨0xFF, 0x55, 0x77, []⟩)) yard).fs.unknownStation = 1 := by
  decide +kernel
theorem test_forward_down_broadcast_limit :
    (after (.forwardDown (received ⟨0xFF, 2, kindLimit, fieldI 4 0⟩)) yard).li.down.queue = [] := by decide +kernel
theorem test_own_address_drop :
    (after (.ownAddressDrop .down (received ⟨0xF0, 0x20, kindManage, []⟩)) yard).fs.ownAddressDrops = 1 := by decide +kernel
theorem test_own_source_discard :
    (after (.ownSourceDiscard .up (received ⟨0xFF, 0xF0, 0x77, []⟩)) yard).li.up.counters.received = 1 := by decide +kernel
theorem test_transmit_start :
    (after (.transmitStart .up) (yard.setQueue .up [⟨⟨1, 2, 3, []⟩, .forwarded⟩])).li.up.sending =
      some ⟨⟨1, 2, 3, []⟩, .forwarded⟩ := by decide +kernel
/-- 10.6: IDENTITY is answered with its length, 15, before it. -/
theorem test_read_identity :
    (after .read (asks yard [7, 1, 18, 0, 0, 0, 0, 0, 1])).li.up.queue.map (fun q => q.frame.payload.take 8) =
      [[7, 1, 0, 18, 1, 15, 0x5C, 0x32]] := by decide +kernel
/-- R164: the answer to a SITE write comes from the new own address; R169: FFh is taken as FEh and CLAMPED. -/
theorem test_site_write :
    (after .siteWrite (asks yard ([7, 2, 1, 0] ++ siteRecord { SiteTable.cold with ownAddress := 0xFF }))).li.up.queue.map
      (fun q => (q.frame.source, q.frame.payload.take 5)) = [(0xFE, [7, 2, 1, 1, 0])] := by decide +kernel
/-- R28, R150: the record of a new GRID_METER entry is created never-received with age 255. -/
theorem test_station_write :
    (after .stationWrite (asks yard [7, 2, 2, 9, 0x12, 2, 0, 1])).siu.records[(9 : Position)] = some ⟨none, 255, 0, false⟩ := by
  decide +kernel
/-- R16: disabling an ACTIVE bay closes its session with BAY_DISABLED. -/
theorem test_bay_write :
    (let x := (after .bayWrite (asks (yardWith (openIn .active)) [7, 2, 3, 0, 0, 2, 0, 100])).bays[0]
     (x.session.state, x.session.endReason, x.config)) = (.closing, some .bayDisabled, ⟨false, 2, 100⟩) := by decide +kernel
theorem test_tariff_write :
    (after .tariffWrite (asks yard ([7, 2, 5, 0, 1] ++ bytesOf 2 1500 ++ bytesOf 2 285 ++ bytesOf 2 190 ++ [3]))).mu.profileB =
      ⟨⟨1439, 285, 190, true, true⟩, []⟩ := by decide +kernel
theorem test_battery_write :
    (after .batteryWrite (asks yard ([7, 2, 6, 0] ++ batteryRecord { BatteryTable.cold with control := .manual }))).bd.mode =
      .manual := by decide +kernel
/-- R92: disabling export control takes K to 0 and marks the string for release. -/
theorem test_canopy_write :
    (let s := { yard with cc.amount := 500, cc.table := canopy 0, cc.strings := yard.cc.strings.set 0 ⟨some 400, some ⟨400, 0⟩, false⟩ }
     let t := after .canopyWrite (asks s ([7, 2, 7, 0] ++
       ({ s with cc.table.enabled := false } : State).canopyRecord.take 82))
     (t.cc.amount, t.cc.strings[0].cap, t.cc.strings[0].release)) = (0, none, true) := by decide +kernel
theorem test_event_mask_write : (after .eventMaskWrite (asks yard [7, 2, 8, 0, 0x12, 0x34])).mr.mask = 0x1234 := by decide +kernel
theorem test_set_clock :
    (after .setClock (asks yard ([7, 3, 1] ++ bytesOf 2 1209 ++ bytesOf 3 86400))).mu.clock = some ⟨1209, 86399⟩ := by
  decide +kernel
theorem test_restart : (after .restart (asks yard [7, 3, 2])).mr.restart = .answering := by decide +kernel
theorem test_resume :
    (after .resume (asks { yard with siu.freeze := true, bd.mode := .island } [7, 3, 3])).siu.freeze = false := by decide +kernel
theorem test_shed_clear_level : (after .shedClear (asks yard [7, 3, 4])).li.up.queue.map (·.frame.payload) = [[7, 3, 7, 4]] := by
  decide +kernel
theorem test_top_up :
    (after .topUp (asks { yard with bd.mode := .shave, bd.memory := some .shave } [7, 3, 5])).bd.mode = .topUp := by decide +kernel
theorem test_force_close :
    (after .forceClose (asks (yardWith (openIn .silent)) [7, 3, 6, 0])).bays[0].session.endReason = some .forced := by
  decide +kernel
/-- 7.8: the release of receipt 500 gives its slot to the head held bay, whose receipt is 548. -/
theorem test_release_receipt :
    (let s := { (fullQueue (yardWith { (openIn .held) with blocked := true })) with held := [0] }
     let t := after .releaseReceipt (asks s ([7, 3, 7] ++ bytesOf 4 500))
     (t.rq.receipts.length, t.rq.receipts.getLast?.map (·.number), t.rq.next, t.held, t.bays[0].session.state)) =
      (48, some 548, 549, [], .active) := by decide +kernel
theorem test_clear_events :
    (after .clearEvents (asks { yard with mr.events := 0x0003 } [7, 3, 8, 0, 1])).mr.events = 2 := by decide +kernel
theorem test_clear_counters :
    (after .clearCounters (asks { yard with fs.limitClamps := 9 } [7, 3, 9])).fs.limitClamps = 0 := by decide +kernel
theorem test_unknown_command : (after .unknownCommand (asks yard [7, 3, 10])).li.up.queue.map (·.frame.payload) = [[7, 3, 10, 10]] := by
  decide +kernel
theorem test_bad_table_write :
    (after .badTableWrite (asks yard [7, 2, 9, 0])).li.up.queue.map (·.frame.payload) = [[7, 2, 6, 9, 0, 0, 0, 0]] := by
  decide +kernel
/-- R27, R44: an open session stays open with the restarted flag; a record is never-received. -/
theorem test_warm_restart :
    (let t := after (.warmRestart .resetPin false false) (yardWith (openIn .active))
     (t.bays[0].session.state, t.bays[0].session.restarted, t.siu.records[(0 : Position)])) =
      (.active, true, some ⟨none, 255, 0, false⟩) := by decide +kernel
/-- R38: a restart that finds SHED active and leaves it inactive is a change. -/
theorem test_warm_restart_clears_shed :
    (let t := after (.warmRestart .resetPin false false) { yard with siu.shed := ⟨true, true, false⟩ }
     (t.siu.shed.active, t.isPending .shedChange)) = (false, true) := by decide +kernel
theorem test_supply_loss : (after .supplyLoss (yardWith (openIn .active))).powered = false := by decide +kernel
/-- R43, R90: a high ISLAND pin at a cold reset raises ISLAND_ON and sets the freeze; the mode is then ISLAND, and the table is cold. -/
theorem test_cold_reset :
    (let t := after (.coldReset true true false true) { yard with powered := false }
     (t.li.rate, t.siu.freeze, t.isPending .islandOn, t.bd.mode, t.bd.table)) =
      (.r460800, true, true, .island, BatteryTable.cold) := by decide +kernel
theorem test_shed_pin : (after (.shedPinLevel true) yard).mr.events = 1 := by decide +kernel
theorem test_island_pin : (after (.islandPinLevel true) yard).bd.mode = .island := by decide +kernel
/-- R108: the last second of day 65,535 is followed by the first of day 0. -/
theorem test_metering_tick_clock :
    (after .meteringTick { yard with mu.clock := some ⟨65535, 86399⟩ }).mu.clock = some ⟨0, 0⟩ := by decide +kernel
/-- R117, R118: a CONNECTED bay is metered by its figures; 4,500 J of the 16,500 W solar are left after the shop. -/
theorem test_metering_tick_energy :
    (let m := (after .meteringTick (yardWith (openIn .active))).bays[0].metering
     (m.energy, m.solar, m.battery, m.grid)) = (11040, 4500, 0, 6540) := by decide +kernel
theorem test_measure_age_tick : ((after .measureAgeTick yard).siu.records[(0 : Position)].map (·.age)) = some 2 := by decide +kernel
/-- R31, R32: age 5 is fresh at a hold time of 5, age 6 is stale. -/
theorem test_record_stale :
    (let s (age : Nat) := yard.setRecord 0 (some ⟨some (.grid 0 0), age, 0, false⟩)
     ((after (.recordStale 0) (s 5)).mr.events, (after (.recordStale 0) (s 6)).mr.events)) = (0, 4) := by decide +kernel
theorem test_silence_expiry :
    (after (.silenceExpiry 0) { (yardWith { (openIn .active) with timer := some ⟨0, true⟩ }) with mu.uptime := 10 }).bays[0].session.state =
      .silent := by decide +kernel
theorem test_silent_close_expiry :
    ((after (.silentCloseExpiry 0) { (yardWith { (openIn .silent) with timer := some ⟨0, true⟩ }) with mu.uptime := 300 }).rq.receipts.map
      (·.endReason)) = [.silent] := by decide +kernel
theorem test_close_hold_expiry :
    ((after (.closeHoldExpiry 0) { (yardWith { (openIn .closing) with timer := some ⟨0, true⟩ }) with mu.uptime := 30 }).rq.receipts.map
      (·.estimated)) = [true] := by decide +kernel
theorem test_pending_link_expiry :
    (after (.pendingLinkExpiry 0) { yard with mu.uptime := 900, links := [⟨0, 5, 0, 0, true⟩] }).links = [] := by decide +kernel
/-- R50: A0 = 20,000 − 5,000 − 0 − 12,000 + 16,500 = 19,500 W. -/
theorem test_allocation_pass_start :
    ((after .allocationPassStart { yard with ae.timer := ⟨1, true⟩, mr.site.importLimit := 20000 }).ae.pass.map
      fun p => (p.basis, p.avail, p.budget)) = some (.normal, 19500, 19500) := by decide +kernel
/-- R72: a ROTATION read during a pass does not show the bay that the pass has appended. -/
theorem test_rotation_in_flight :
    (let s := after .allocationPassStart { (yard.modSession 0 fun _ => openIn .active) with ae.timer := ⟨1, true⟩ }
     (s.ae.lists[0], (s.rotationShown 0).1)) = ([0], []) := by decide +kernel
/-- R69: a settle pass is published with basis SETTLE and number one higher. -/
theorem test_publication :
    (let s := after .allocationPassStart { yard with ae.timer := ⟨1, true⟩, mr.site.holdTime := 0 }
     let t := after .publication s
     (t.ae.balance.basis, t.ae.balance.number, t.ae.timer.left, t.ae.pass)) = (.settle, 1, 2, none) := by decide +kernel
theorem test_guard_expiry :
    (after (.guardExpiry 0) (yard.modAlloc 0 fun a => { a with guard := ⟨1, true⟩ })).bays[0].alloc.guard = ⟨0, false⟩ := by
  decide +kernel
theorem test_dwell_expiry :
    (after (.dwellExpiry 1) { yard with ae.dwells := yard.ae.dwells.set 1 ⟨⟨1, true⟩, true, false⟩ }).ae.dwells[1] =
      ⟨⟨900, false⟩, true, true⟩ := by decide +kernel
/-- R97: an export of 23,000 W with a limit of 20,000 W gives K = 3,000 W. -/
theorem test_canopy_pass_start :
    ((after .canopyPassStart
      { (yard.setRecord 0 (fresh (.grid (-23000) 0))) with cc.timer := ⟨1, true⟩, cc.table := canopy 0 }).cc.pass.map (·.amount)) =
      some 3000 := by decide +kernel
theorem test_canopy_publication :
    (let s := { yard with cc.table := canopy 0, cc.pass := some ⟨3000, Vector.ofFn fun j : Fin 8 => if j.val < 4 then some 5000 else none,
        Vector.ofFn (canopy 0).on, none⟩ }
     let t := after .canopyPublication s
     (t.cc.amount, t.mr.events, t.li.down.queue.map (·.frame.dest))) = (3000, 0x400, [0x30, 0x31]) := by decide +kernel
/-- 5.8, second pass: at the end of a curtailment every string hears its rating, in string order. -/
theorem test_canopy_publication_releases :
    (let strings := (yard.cc.strings.set 0 ⟨some 5860, some ⟨5860, 0⟩, false⟩).set 1 ⟨some 5860, none, false⟩
     let s : State := { yard with
      cc.table := canopy 0, cc.amount := 5000, cc.strings := strings
      cc.pass := some ⟨0, Vector.replicate 8 none, Vector.ofFn (canopy 0).on, none⟩ }
     let t := after .canopyPublication s
     (t.li.down.queue.map fun q => (q.frame.dest, q.frame.payload), t.cc.strings[1])) =
      ([(0x30, fieldI 4 10000), (0x31, fieldI 4 10000)], ⟨none, some ⟨10000, 0⟩, false⟩) := by decide +kernel
theorem test_frame_transmit_end :
    (after (.frameTransmitEnd .up)
      { yard with li.up.sending := some ⟨⟨2, 0xF0, kindManageAnswer, [7, 3, 0, 2]⟩, .restartAnswer⟩, mr.restart := .answering }).mr.restart =
      .due := by decide +kernel
theorem test_receiver_idle_period : (after (.receiverIdlePeriod .up) State.reset).li.up.waiting = false := by decide +kernel
theorem test_reset_pin_return_high :
    (after .resetPinReturnHigh { yard with mr.resetArmed := false }).mr.resetArmed = true := by decide +kernel

/-! ### Witnesses: states and operands that meet the hypotheses of each statement -/

/-- The hypotheses of a DEMAND statement, in decidable form. -/
theorem demand_holds {s : State} {f : Frame} {b : BayNo} {g : Figures} (pos : Position) (e : Station)
    (h : s.powered = true ∧ (s.port .down).waiting = false ∧ f.payload.length ≤ 96 ∧ f.source ≠ s.own ∧ f.dest ≠ s.own ∧
      f.kind = kindDemand ∧ s.stationOf f.source = some (pos, e) ∧ e.role = .charger b ∧ readDemand f.payload s.now = some g) :
    Claims.demandOf s f b g :=
  ⟨⟨h.1, h.2.1, h.2.2.1⟩, h.2.2.2.1, h.2.2.2.2.1, h.2.2.2.2.2.1, ⟨pos, e, h.2.2.2.2.2.2.1, h.2.2.2.2.2.2.2.1⟩,
    h.2.2.2.2.2.2.2.2⟩

/-- The hypotheses of a served write or command, in decidable form. -/
theorem allowed_holds {s : State} {r : Request} {rest : List Request}
    (h : s.powered = true ∧ s.mr.restart = .idle ∧ s.mr.requests = r :: rest ∧ s.passesManagers r.source = true) :
    Claims.allowed s r rest := ⟨⟨h.1, h.2.1, h.2.2.1⟩, h.2.2.2⟩

/-- Bay 0 in a state, its charger's DEMAND in another. -/
theorem demand_at (state : SessionState) (charger : ChargerState) :
    Claims.demandOf (yardWith (openIn state)) (demandFrom (figuresIn charger)) 0 (figuresIn charger) :=
  demand_holds 5 ⟨0x20, .charger 0, 1⟩ (by cases state <;> cases charger <;> decide +kernel)

theorem witness_StepTakesTheFrontCommand : yard.pending = [] := rfl

theorem witness_BadFrameIsCounted :
    yard.powered = true ∧ (yard.port .up).waiting = false ∧ judge ⟨[0xFF, 0x10, 0x10, 97], true⟩ = .oversize ∧
      judge ⟨[0xFF, 0x10, 0x10, 96, 0], true⟩ = .fragment ∧ judge ⟨[0xFF, 0x10, 0x10, 0, 0, 0], false⟩ = .fragment ∧
      judge ⟨[0xFF, 0x10, 0x10, 0, 0, 0], true⟩ = .crcError := by decide +kernel

/-- With a forward count of 0, and with one that the divider takes back to 0; and for each role a payload one byte short. -/
theorem witness_SampleIsTapped :
    (∃ f pos e r v, yard.hears .down f ∧ f.source ≠ yard.own ∧ f.dest ≠ yard.own ∧ f.kind = kindSample ∧
      yard.stationOf f.source = some (pos, e) ∧ e.role.measures = true ∧ e.role ≠ .battery ∧
      yard.siu.records[pos] = some r ∧ readSample e.role f.payload = some v ∧ yard.fs.counts[pos] = 0) ∧
    (let s : State := { yard with fs.counts := yard.fs.counts.set 4 2 }
     ∃ f pos e r v, s.hears .down f ∧ f.source ≠ s.own ∧ f.dest ≠ s.own ∧ f.kind = kindSample ∧
      s.stationOf f.source = some (pos, e) ∧ e.role.measures = true ∧ e.role ≠ .battery ∧
      s.siu.records[pos] = some r ∧ readSample e.role f.payload = some v ∧ s.fs.counts[pos] = 2) ∧
    (∀ x ∈ [((0x10 : Byte), (0 : Position), 7), (0x11, 1, 3), (0x30, 3, 7), (0x40, 2, 13)],
      let f : Frame := ⟨0xFF, x.1, kindSample, List.replicate x.2.2 0⟩
      f.payload.length ≤ 96 ∧ f.source ≠ yard.own ∧ f.dest ≠ yard.own ∧
        (yard.stationOf f.source).any (fun e => e.1 == x.2.1 && decide (x.2.2 + 1 = sampleLength e.2.role)) = true) ∧
    Claims.shortSample .gridMeter (List.replicate 7 0) ∧ Claims.shortSample .shopMeter (List.replicate 3 0) ∧
    Claims.shortSample (.pvString 7) (List.replicate 7 0) ∧ Claims.shortSample .battery (List.replicate 13 0) :=
  ⟨⟨sampleFrom 0x10 (.grid (-5) 8), 0, ⟨0x10, .gridMeter, 1⟩, ⟨some (.grid 1000 7), 1, 0, false⟩, .grid (-5) 8,
      ⟨rfl, rfl, by decide⟩, by decide +kernel⟩,
    ⟨sampleFrom 0x31 (.pv 5 8), 4, ⟨0x31, .pvString 1, 3⟩, ⟨some (.pv 7500 10000), 1, 0, false⟩, .pv 5 8,
      ⟨rfl, rfl, by decide⟩, by decide +kernel⟩, by decide +kernel, .inl ⟨rfl, by decide⟩, .inr (.inl ⟨rfl, by decide⟩),
    .inr (.inr (.inl ⟨⟨7, rfl⟩, by decide⟩)), .inr (.inr (.inr ⟨rfl, by decide⟩))⟩

/-- Each control, freeze and flag of the statement, at the thresholds 300, 350, 900 and 950 of the band memory. -/
theorem witness_BatterySampleEvaluates :
    (∀ soc ∈ [299, 300, 349, 350, 899, 900, 901, 949, 950],
      let f := batterySample soc
      f.payload.length ≤ 96 ∧ f.source ≠ yard.own ∧ f.dest ≠ yard.own ∧ f.kind = kindSample ∧
        yard.stationOf f.source = some (2, ⟨0x40, .battery, 1⟩) ∧ yard.stationFor .battery = some (2, ⟨0x40, .battery, 1⟩) ∧
        readSample .battery f.payload = some (.battery 0 soc 30000 20000)) ∧
      yard.powered = true ∧ (yard.port .down).waiting = false ∧
      yard.siu.records[(2 : Position)] = some ⟨some (.battery 0 500 30000 20000), 1, 0, false⟩ ∧
      yard.bd.table.control = .auto ∧ yard.siu.freeze = false ∧ yard.bd.topUp = false ∧
      ({ yard with bd.topUp := true } : State).bd.topUp = true ∧ yard.bd.table.topUpTarget = 900 ∧
      ({ yard with siu.freeze := true } : State).siu.freeze = true ∧
      ({ yard with bd.table.control := .manual } : State).bd.table.control = .manual := by decide +kernel

/-- The yard with a second BATTERY entry, at position 9. -/
def twoBatteries : State :=
  ({ yard with fs.stations := yard.fs.stations.set 9 (some ⟨0x41, .battery, 2⟩) } : State).setRecord 9 (some ⟨none, 255, 0, false⟩)

/-- The entry at the higher position, with the figures of the lower one fresh and stale. -/
theorem witness_BatterySampleEvaluates_second :
    twoBatteries.stationOf 0x41 = some (9, ⟨0x41, .battery, 2⟩) ∧
      twoBatteries.stationFor .battery ≠ some (9, ⟨0x41, .battery, 2⟩) ∧
      twoBatteries.siu.records[(9 : Position)] = some ⟨none, 255, 0, false⟩ ∧
      twoBatteries.batteryFigures = some ⟨0, 500, 30000, 20000⟩ ∧
      ({ twoBatteries with mr.site.holdTime := 0 } : State).batteryFigures = none ∧ twoBatteries.powered = true ∧
      (twoBatteries.port .down).waiting = false := by decide +kernel

theorem witness_DemandOpensSession :
    ∀ g ∈ [figuresIn .connected, asking, { asking with requested := 0 }],
      Claims.demandOf yard (demandFrom g) 0 g ∧ (yard.bay 0).session.state = .vacant ∧
        (g.state = .connected ∨ g.state = .requesting) := by
  intro g hg
  refine ⟨demand_holds 5 ⟨0x20, .charger 0, 1⟩ ?_, by decide +kernel, ?_⟩ <;> revert g <;> decide +kernel

theorem witness_DemandKeepsSession :
    (∃ y, Claims.sessionAfterDemand 0 (openIn .silent) asking y) ∧
      (∃ y, Claims.sessionAfterDemand 0 (openIn .active) (figuresIn .ending) y) ∧
      (∃ y, Claims.sessionAfterDemand 0 (openIn .closing) (figuresIn .connected) y) ∧
      (∃ y, Claims.sessionAfterDemand 0 (openIn .vacant) (figuresIn .ended) y) ∧
      (∃ y, Claims.sessionAfterDemand 0 (openIn .disabled) asking y) ∧
      Claims.demandOf (yardWith (openIn .silent)) (demandFrom asking) 0 asking :=
  ⟨⟨_, .inl ⟨by decide, by decide, rfl⟩⟩, ⟨_, .inr (.inl ⟨by decide, rfl, rfl⟩)⟩,
    ⟨_, .inr (.inr (.inl ⟨rfl, by decide, rfl⟩))⟩, ⟨_, .inr (.inr (.inr (.inl ⟨rfl, by decide, rfl⟩)))⟩,
    ⟨_, .inr (.inr (.inr (.inr ⟨rfl, rfl⟩)))⟩, demand_at .silent .requesting⟩

/-- Each way in which a DEMAND ends a session. -/
theorem endings :
    Claims.endsWith (openIn .active) (figuresIn .ended) .unplugged ∧
      Claims.endsWith (openIn .connected) (figuresIn .available) .vehicleLeft ∧
      Claims.endsWith (openIn .silent) (figuresIn .fault) .chargerFault ∧
      Claims.endsWith (openIn .closing) (figuresIn .ended) .unplugged ∧
      Claims.endsWith (openIn .closing) (figuresIn .available) .unplugged ∧
      Claims.endsWith (openIn .closing) (figuresIn .fault) .chargerFault := by
  unfold Claims.endsWith; dsimp only; refine ⟨?_, ?_, ?_, ?_, ?_, ?_⟩ <;> decide +kernel

/-- With a final register and without one, and with 14, 15 and 16 frames in the Up queue before the receipt's two. -/
theorem witness_DemandBuildsReceipt :
    Claims.demandOf (yardWith (openIn .active)) (demandFrom (figuresIn .ended)) 0 (figuresIn .ended) ∧
      Claims.endsWith ((yardWith (openIn .active)).bay 0).session (figuresIn .ended) .unplugged ∧
      (yardWith (openIn .active)).rq.receipts.length < receiptSlots ∧
      ((yardWith (openIn .active)).bay 0).session.startRegister = some 48210 ∧ (figuresIn .fault).state ≠ .ended ∧
      (∀ n ∈ [14, 15, 16],
        (after (.demandFrame (received (demandFrom (figuresIn .ended))))
          ((yardWith (openIn .active)).setQueue .up (List.replicate n ⟨⟨1, 2, 3, []⟩, .forwarded⟩))).li.up.queue.map (·.origin) =
          List.replicate n .forwarded ++ (if n = 14 then [.receipt, .receipt] else if n = 15 then [.forwarded] else [])) :=
  ⟨demand_at .active .ended, by rw [State.bay]; exact endings.1, by decide +kernel⟩

theorem witness_DemandHoldsSession :
    let s := fullQueue (yardWith (openIn .active))
    Claims.demandOf s (demandFrom (figuresIn .ended)) 0 (figuresIn .ended) ∧
      Claims.endsWith (s.bay 0).session (figuresIn .ended) .unplugged ∧ receiptSlots ≤ s.rq.receipts.length :=
  ⟨demand_holds 5 ⟨0x20, .charger 0, 1⟩ (by decide +kernel), by rw [State.bay]; exact endings.1, by decide +kernel⟩

theorem witness_DemandAtHeldBay :
    Claims.demandOf (yardWith (openIn .held)) (demandFrom asking) 0 asking ∧
      ((yardWith (openIn .held)).bay 0).session.state = .held ∧ ((yardWith (openIn .held)).bay 0).session.blocked = false ∧
      (yardWith (openIn .held)).li.down.queue.length < queueSize :=
  ⟨demand_at .held .requesting, by decide +kernel⟩

/-- A LINK to the own address. -/
def linkTo (bay : Byte) : Frame := ⟨0xF0, 3, kindLink, bay :: (bytesOf 8 77 ++ bytesOf 2 5000) ++ []⟩

/-- 16 pending links, one of them for bay 2. -/
def fullLinks : List PendingLink := (List.range 16).map fun i => ⟨Fin.ofNat 32 (i + 2), 0, 0, 0, false⟩

/-- Bays 31 and 32, and each row of R21 with the table at 15 and 16 entries. -/
theorem witness_LinkIsAnswered :
    yard.hears .up (linkTo 31) ∧ yard.hears .up (linkTo 32) ∧ (linkTo 0).source ≠ yard.own ∧ (linkTo 0).dest = yard.own ∧
      (linkTo 0).kind = kindLink ∧ (5000 < 65536) ∧ (31 : Byte).toNat = (31 : BayNo).val ∧ 32 ≤ (32 : Byte).toNat ∧
      (openIn .silent).link = none ∧ (({ (openIn .active) with link := some ⟨1, 0, 0⟩ } : Session).link ≠ none) ∧
      (∃ e ∈ fullLinks, e.bay = 2) ∧ (¬∃ e ∈ fullLinks, e.bay = 1) ∧ fullLinks.length = linkSlots ∧
      fullLinks.tail.length < linkSlots :=
  ⟨⟨rfl, rfl, by decide⟩, ⟨rfl, rfl, by decide⟩, by decide +kernel⟩

theorem witness_ManageIsQueued :
    let f : Frame := ⟨0xF0, 2, kindManage, [7, 3, 3]⟩
    yard.hears .up f ∧ f.source ≠ yard.own ∧ f.dest = yard.own ∧ f.kind = kindManage ∧
      (List.replicate 3 (⟨2, []⟩ : Request)).length < requestSlots ∧ requestSlots ≤ (List.replicate 4 (⟨2, []⟩ : Request)).length :=
  ⟨⟨rfl, rfl, by decide⟩, by decide +kernel⟩

theorem witness_LimitIsHeld :
    let s : State :=
      { (yard.modAlloc 0 fun a => { a with grant := 800 }) with
        cc.amount := 1, cc.table := canopy 0, cc.strings := yard.cc.strings.set 0 ⟨some 4000, none, false⟩ }
    let f : Frame := ⟨0x20, 2, kindLimit, fieldI 4 801⟩
    let h : Frame := ⟨0x20, 2, kindGrant, 0 :: fieldI 2 (-1)⟩
    let g : Frame := ⟨0x30, 2, kindLimit, fieldI 4 5000⟩
    (s.hears .up f ∧ s.stationOf f.dest = some (5, ⟨0x20, .charger 0, 1⟩) ∧ f.source ≠ s.own ∧ f.dest ≠ s.own ∧
        0 + 4 ≤ f.payload.length ∧ (s.bay 0).alloc.grant ≤ 800) ∧
      (s.hears .up h ∧ h.source ≠ s.own ∧ h.dest ≠ s.own ∧ 1 + 2 ≤ h.payload.length) ∧
      s.hears .up g ∧ s.stationOf g.dest = some (3, ⟨0x30, .pvString 0, 1⟩) ∧ g.source ≠ s.own ∧ g.dest ≠ s.own ∧
        0 < s.cc.amount ∧ s.cc.table.strings[(0 : StringNo)].enabled = true ∧ s.cc.strings[(0 : StringNo)].cap = some 4000 ∧
        (4000 : Int) = min (readI g.payload 0 4) 4000 ∧ yard.cc.amount = 0 :=
  ⟨⟨⟨rfl, rfl, by decide⟩, by decide +kernel⟩, ⟨⟨rfl, rfl, by decide⟩, by decide +kernel⟩, ⟨rfl, rfl, by decide⟩,
    by decide +kernel⟩

theorem witness_BatteryLimit :
    let f : Frame := ⟨0x40, 2, kindLimit, fieldI 4 500⟩
    yard.hears .up f ∧ yard.bd.table.inRange ∧ f.source ≠ yard.own ∧ f.dest ≠ yard.own ∧ f.kind = kindLimit ∧
      yard.stationOf f.dest = some (2, ⟨0x40, .battery, 1⟩) ∧ 4 ≤ f.payload.length ∧ yard.bd.table.control = .auto ∧
      ({ yard with bd.table.control := .manual } : State).bd.table.control = .manual ∧
      yard.li.down.queue.length < queueSize ∧
      queueSize ≤ (yard.setQueue .down (List.replicate 16 ⟨f, .forwarded⟩)).li.down.queue.length :=
  ⟨⟨rfl, rfl, by decide⟩, by unfold BatteryTable.inRange; decide +kernel, by decide +kernel⟩

theorem witness_ShortOrUnscreenedLimit :
    (∀ f ∈ [(⟨0x10, 2, kindLimit, []⟩ : Frame), ⟨0x40, 2, kindGrant, []⟩, ⟨0x30, 2, kindGrant, []⟩,
        ⟨0x20, 2, kindLimit, [0, 0, 0]⟩, ⟨0x20, 2, kindGrant, [0, 0]⟩, ⟨0x30, 2, kindLimit, [0, 0, 0]⟩,
        ⟨0x40, 2, kindLimit, [0, 0, 0]⟩],
      f.payload.length ≤ 96 ∧ f.source ≠ yard.own ∧ f.dest ≠ yard.own ∧ (f.kind = kindLimit ∨ f.kind = kindGrant) ∧
        (yard.stationOf f.dest).isSome = true) ∧ yard.bd.table.control = .auto ∧ yard.powered = true ∧ (yard.port .up).waiting = false := by decide +kernel

theorem witness_UntappedFrameGoesUp :
    (∀ f ∈ [(⟨0xFF, 0x55, 0x77, []⟩ : Frame), ⟨0xFF, 0x10, kindDemand, []⟩, ⟨0xFF, 0x21, kindSample, []⟩,
        ⟨0xFF, 0x20, kindDemand, List.replicate 15 0⟩, ⟨0xFF, 0x20, kindDemand, List.replicate 16 6⟩],
      f.payload.length ≤ 96 ∧ f.source ≠ yard.own ∧ f.dest ≠ yard.own) ∧ yard.powered = true ∧
      (yard.port .down).waiting = false ∧ yard.stationOf 0x55 = none ∧
      yard.stationOf 0x10 = some (0, ⟨0x10, .gridMeter, 1⟩) ∧ yard.stationOf 0x21 = some (6, ⟨0x21, .charger 1, 2⟩) ∧
      yard.fs.counts[(6 : Position)] = 0 ∧
      ({ yard with fs.counts := yard.fs.counts.set 6 1 } : State).fs.counts[(6 : Position)] ≠ 0 := by decide +kernel

theorem witness_UnscreenedFrameGoesDown :
    (∀ f ∈ [(⟨0xFF, 2, kindGrant, []⟩ : Frame), ⟨0xFF, 2, kindSample, []⟩, ⟨0x55, 2, kindLimit, []⟩],
      f.payload.length ≤ 96 ∧ f.source ≠ yard.own ∧ f.dest ≠ yard.own) ∧ yard.powered = true ∧
      (yard.port .up).waiting = false ∧ yard.stationOf 0x55 = none := by decide +kernel

/-- A frame to the own address at either port and a LINK of 10 bytes: each is counted as received and as a drop. -/
theorem witness_OwnFramesAreAbsorbed_counters :
    [(Instr.ownAddressDrop .up (received ⟨0xF0, 2, 0x77, []⟩), Port.up),
        (.ownAddressDrop .down (received ⟨0xF0, 0x10, kindSample, []⟩), .down),
        (.linkFrame (received ⟨0xF0, 2, kindLink, List.replicate 10 0⟩), .up)].map
      (fun x => let t := after x.1 yard; ((t.port x.2).counters.received, t.fs.ownAddressDrops, t.fs.counts[(0 : Position)])) =
        [(1, 1, 0), (1, 1, 0), (1, 1, 0)] := by decide +kernel

theorem witness_OwnFramesAreAbsorbed :
    yard.hears .up ⟨0xFF, 0xF0, 0x77, []⟩ ∧ yard.hears .down ⟨0xF0, 0x20, kindManage, []⟩ ∧
      yard.hears .up ⟨0xF0, 2, kindLink, List.replicate 10 0⟩ ∧ yard.own = 0xF0 ∧ (List.replicate 10 (0 : Byte)).length < 11 :=
  ⟨⟨rfl, rfl, by decide⟩, ⟨rfl, rfl, by decide⟩, ⟨rfl, rfl, by decide⟩, rfl, by decide⟩

theorem witness_Transmission :
    yard.powered = true ∧ (yard.port .up).sending = none ∧
      ((yard.setQueue .up [⟨⟨1, 2, 3, []⟩, .forwarded⟩]).port .up).queue = [⟨⟨1, 2, 3, []⟩, .forwarded⟩] ∧
      (({ yard with li.up.sending := some ⟨⟨1, 2, 3, []⟩, .restartAnswer⟩ } : State).port .up).sending =
        some ⟨⟨1, 2, 3, []⟩, .restartAnswer⟩ ∧ (State.reset.port .down).waiting = true := by decide +kernel

theorem witness_OfferRule :
    let old : Queued := ⟨⟨0x20, 0xF0, kindGrant, []⟩, .grant 0⟩
    let s := yard.setQueue .down [⟨⟨1, 2, 3, []⟩, .forwarded⟩, old]
    enqueue (s.port .down).queue old = some (s.port .down).queue ∧
      enqueue (List.replicate 16 ⟨⟨1, 2, 3, []⟩, .forwarded⟩) old = none ∧
      (List.replicate 14 old).length + 2 ≤ queueSize ∧ queueSize < (List.replicate 15 old).length + 2 ∧
    (s.port .down).queue = [⟨⟨1, 2, 3, []⟩, .forwarded⟩] ++ old :: [] ∧ replaces old old = true ∧
      replaces old ⟨⟨1, 2, 3, []⟩, .forwarded⟩ = false ∧ (∀ x ∈ (s.port .down).queue, replaces ⟨⟨0x21, 0xF0, kindGrant, []⟩, .grant 1⟩ x = false) := by
  decide +kernel

theorem witness_StatusFrameOnFirstEvent :
    yard.powered = true ∧ yard.alert = false ∧ exec (.shedPinLevel true) yard = .next (after (.shedPinLevel true) yard) ∧
      (after (.shedPinLevel true) yard).alert = true ∧
      ({ yard with mr.events := 1 } : State).alert = true ∧
      (let masked : State := { yard with mr.mask := 0xFFFF }
       masked.alert = false ∧ (after (.shedPinLevel true) masked).alert = false ∧
        (after (.shedPinLevel true) masked).isPending .shedChange = true) :=
  ⟨by decide +kernel, by decide +kernel, rfl, by decide +kernel, by decide +kernel, by decide +kernel⟩

/-- The payload of a READ. -/
def readOf (code first part count : Nat) : List Byte :=
  [7, 1, BitVec.ofNat 8 code] ++ bytesOf 4 first ++ [BitVec.ofNat 8 part, BitVec.ofNat 8 count]

/-- The last STATION record with a count that more than fills an answer, the empty HELD table, an index and a table that are not there,
a receipt's parts 1 and 2, and a READ one byte short. -/
theorem witness_ReadIsAnswered :
    (∀ p, (asks yard p).heads ⟨2, p⟩ []) ∧ tableOf 2 = some .station ∧ 63 < 4294967296 ∧ 255 < 256 ∧
      Claims.readable yard .station 63 0 (some ((yard.tableRecords .station).drop 63)) ∧
      Claims.readable yard .station 64 0 none ∧ Claims.readable yard .held 0 0 (some []) ∧ Claims.readable yard .held 1 0 none ∧
      tableOf 19 = none ∧ tableOf 0 = none ∧ tableOf 16 = some .receipt ∧
      Claims.readable yard .receipt 1 1 none ∧ (([7, 1] ++ (readOf 2 0 0 1).drop 2).dropLast.drop 2).length < 7 := by
  refine ⟨fun _ => ⟨rfl, rfl, rfl⟩, by decide +kernel, by decide, by decide, ⟨nofun, fun _ => by decide +kernel⟩,
    ⟨nofun, fun _ => by decide +kernel⟩, ⟨nofun, fun _ => by decide +kernel⟩, ⟨nofun, fun _ => by decide +kernel⟩,
    by decide +kernel, by decide +kernel, by decide +kernel, ⟨fun _ => ⟨?_, fun _ => rfl⟩, nofun⟩, by decide +kernel⟩
  intro before r later h
  exact absurd h (by cases before <;> nofun)

/-- A full receipt queue read by number: its last receipt, by part 1 and by a part that is not one. -/
theorem witness_ReadIsAnswered_receipt :
    (fullQueue yard).readRecords .receipt 547 1 = some (((fullQueue yard).rq.receipts.drop 47).map receiptParts).flatten ∧
      (fullQueue yard).readRecords .receipt 547 3 = none ∧ (fullQueue yard).readRecords .receipt 548 1 = none := by
  decide +kernel

/-- A manager list with one address, in its last place; a command, a WRITE, and requests that end after operation and after table code. -/
theorem witness_OnlyManagersWrite :
    ∀ p ∈ [[(7 : Byte), 3, 3], [7, 2, 8, 0, 0, 0], [7, 2], [7, 3], [7, 2, 5]],
      let s := asks { yard with mr.site.managers := yard.mr.site.managers.set 3 0x09 } p
      s.powered = true ∧ s.mr.restart = .idle ∧ s.mr.requests = [⟨2, p⟩] ∧ (p.getD 1 0 = 2 ∨ p.getD 1 0 = 3) ∧
        s.mr.site.managers[(3 : Fin 4)] ≠ 0xFF ∧ (∀ i : Fin 4, s.mr.site.managers[i] ≠ 2 ∨ (2 : Byte) = 0xFF) ∧
        s.li.up.queue.length < queueSize ∧
        ((after (Claims.commandOf (serviceOf p)) s).li.up.queue.map fun q => q.frame.payload.take 3) = [[7, p.getD 1 0, 8]] := by
  decide +kernel

/-- The part allows a request of station 02h with payload `p` at its head. -/
def served (s : State) (p : List Byte) : Prop := Claims.allowed (asks s p) ⟨2, p⟩ []

/-- A request by station 02h to a part without managers is allowed. -/
theorem allowed_at (s : State) (p : List Byte)
    (h : s.powered = true ∧ s.mr.restart = .idle ∧ (asks s p).passesManagers 2 = true) :
    served s p := ⟨⟨h.1, h.2.1, rfl⟩, h.2.2⟩

/-- The yard allows every request. -/
theorem allowed_yard (p : List Byte) : served yard p :=
  allowed_at yard p ⟨rfl, rfl, rfl⟩

/-- Position 63; entries that are created, kept, changed and refused. -/
theorem witness_StationIsWritten :
    served yard ([7, 2, 2, BitVec.ofNat 8 (63 : Position).val] ++ [0x12, 2, 0, 1]) ∧
      (takeStation none [0x12, 2, 0, 1]).1 = some ⟨0x12, .gridMeter, 1⟩ ∧
      (takeStation (some ⟨0x31, .pvString 1, 3⟩) [0x31, 4, 1, 16]).1.map Station.identity =
        Option.map Station.identity (some ⟨0x31, .pvString 1, 3⟩) ∧
      (takeStation (some ⟨0x20, .charger 0, 1⟩) [0x22, 1, 0, 1]).1 = some ⟨0x22, .charger 0, 1⟩ ∧
      served (yardWith (openIn .held)) ([7, 2, 2, BitVec.ofNat 8 (5 : Position).val] ++ [0xFF, 0, 0, 1]) ∧
      (asks (yardWith (openIn .held)) []).fs.stations[(5 : Position)] = some ⟨0x20, .charger 0, 1⟩ ∧
      ((asks (yardWith (openIn .held)) []).bay 0).session.state = .held ∧
      (takeStation (some ⟨0x20, .charger 0, 1⟩) [0xFF, 0, 0, 1]).1 = none :=
  ⟨allowed_yard _, by decide +kernel, by decide +kernel, by decide +kernel, allowed_at _ _ ⟨rfl, rfl, rfl⟩,
    by decide +kernel, by decide +kernel, by decide +kernel⟩

/-- A SHAVE battery at position 2 with figures fresh, and LIMITs waiting to 40h, to 44h and to a string. -/
def shaving : State :=
  { yard with
    bd.mode := .shave
    bd.memory := some .shave
    li.down.queue := [0x40, 0x44, 0x30].map fun a => ⟨⟨a, 9, kindLimit, [0, 0, 0, 0]⟩, .forwarded⟩ }

/-- A BATTERY entry created below the one that stands (44h, no sample yet), created above it, emptied, and given another address: BD's
mode, its band memory and the LIMITs that still wait (R28, R76, R77, R79). -/
theorem witness_StationIsWritten_battery :
    let write (pos : Byte) (record : List Byte) : State := after .stationWrite (asks shaving ([7, 2, 2, pos] ++ record))
    let battery (t : State) : Mode × Option Memory × List Byte := (t.bd.mode, t.bd.memory, t.li.down.queue.map (·.frame.dest))
    served shaving ([7, 2, 2, BitVec.ofNat 8 (1 : Position).val] ++ [0x44, 5, 0, 1]) ∧
      battery (write 1 [0x44, 5, 0, 1]) = (.off, none, [0x30]) ∧
      battery (write 9 [0x44, 5, 0, 1]) = (.shave, some .shave, [0x40, 0x44, 0x30]) ∧
      battery (write 2 [0x40, 0, 0, 1]) = (.off, none, [0x44, 0x30]) ∧
      battery (write 2 [0x44, 5, 0, 1]) = (.shave, some .shave, [0x40, 0x44, 0x30]) :=
  ⟨allowed_at _ _ ⟨rfl, rfl, rfl⟩, by decide +kernel⟩

theorem witness_BayIsWritten :
    (∀ enabled : Bool, served yard ([7, 2, 3, BitVec.ofNat 8 (31 : BayNo).val, if enabled then 1 else 0, 8] ++ bytesOf 2 801)) ∧
      801 < 65536 ∧ (yard.bay 0).config.enabled = true ∧ (yard.bay 31).config.enabled = false ∧
      (yard.bay 0).session.state = .vacant ∧ (yard.bay 31).session.state = .disabled ∧
      ((yardWith (openIn .silent)).bay 0).session.state = .silent ∧ ((yardWith (openIn .closing)).bay 0).session.state = .closing :=
  ⟨fun _ => allowed_yard _, by decide +kernel⟩

/-- A record that changes neither sense, hold time nor mark, and one that changes them all. -/
theorem witness_SiteIsWritten :
    let changed : SiteTable := { SiteTable.cold with shedSense := .levelLow, islandSense := .levelLow, holdTime := 1, highWater := 48 }
    served yard ([7, 2, 1, 0] ++ siteRecord SiteTable.cold) ∧
      (siteRecord SiteTable.cold).length = 78 ∧ (takeSite yard.mr.site (siteRecord SiteTable.cold)).1 = yard.mr.site ∧
      served yard ([7, 2, 1, 0] ++ siteRecord changed) ∧ (siteRecord changed).length = 78 ∧
      (takeSite yard.mr.site (siteRecord changed)).1 = changed ∧ ({ yard with siu.freeze := true } : State).siu.freeze = true ∧
      yard.mr.site.holdTime ≠ 1 :=
  ⟨allowed_yard _, by decide +kernel, by decide +kernel, allowed_yard _, by decide +kernel, by decide +kernel, rfl, by decide +kernel⟩

/-- At a hold time of 5: age 6 and a wait of 6 s are past it; ages 5 and waits of 5 s are not. -/
theorem witness_SiteIsWritten_hold :
    (let s : State := { yard with mu.uptime := 10 }
     Claims.pastHold s ⟨some (.grid 0 0), 6, 0, false⟩ 5 ∧ ¬Claims.pastHold s ⟨some (.grid 0 0), 5, 0, true⟩ 5 ∧
      Claims.pastHold s ⟨none, 255, 4, false⟩ 5 ∧ ¬Claims.pastHold s ⟨none, 255, 5, false⟩ 5) ∧
      yard.siu.records[(0 : Position)] = some ⟨some (.grid 1000 7), 1, 0, false⟩ ∧
      yard.fs.stations[(0 : Position)] = some ⟨0x10, .gridMeter, 1⟩ ∧
      (let t := after .siteWrite (asks ((yard.setRecord 0 (some ⟨some (.grid 0 0), 6, 0, true⟩)).setRecord 2
          (some ⟨some (.battery 0 500 1 1), 9, 0, false⟩)) ([7, 2, 1, 0] ++ siteRecord { SiteTable.cold with holdTime := 6 }))
       (t.siu.records[(0 : Position)].map (·.reported), t.siu.records[(2 : Position)].map (·.reported),
        t.isPending .meterStale, t.isPending .batteryStale) = (some false, some true, false, true)) := by
  unfold Claims.pastHold; decide +kernel

/-- An ISLAND sense whose level the pin holds, and a hold time that the battery's record is past: BD's mode and the freeze (R33, R37,
R40, R77, R78). -/
theorem witness_SiteIsWritten_battery :
    let s : State := { shaving with mr.site.holdTime := 10, siu.records := shaving.siu.records.set 2 (some ⟨some (.battery 0 500 1 1), 6, 0, false⟩) }
    let write (site : SiteTable) : State := after .siteWrite (asks s ([7, 2, 1, 0] ++ siteRecord site))
    [write { SiteTable.cold with holdTime := 10, islandSense := .levelLow }, write { SiteTable.cold with holdTime := 5 },
        write { SiteTable.cold with holdTime := 6 }].map (fun t => (t.bd.mode, t.siu.freeze, t.isPending .batteryStale)) =
      [(.island, true, false), (.off, false, true), (.shave, false, false)] := by decide +kernel

/-- Counts 0 and 9, which are taken as 1 and 8. -/
theorem witness_TariffAndMaskAreWritten :
    (∀ name : ProfileName, served yard ([7, 2, (match name with | .a => (4 : Byte) | .b => 5), 0] ++ (0 :: List.replicate 7 0))) ∧
      (∀ record ∈ [(0 : Byte) :: List.replicate 7 0, 9 :: List.replicate 56 0],
        1 + 7 * max 1 (min 8 (readU record 0 1)) ≤ record.length ∧ record.length ≤ 57) ∧
      served yard ([7, 2, 8, 0] ++ field16 0xFFFF) :=
  ⟨fun _ => allowed_yard _, by decide +kernel, allowed_yard _⟩

theorem witness_BatteryIsWritten :
    (∀ control, let record := batteryRecord { BatteryTable.cold with control }
      served yard ([7, 2, 6, 0] ++ record) ∧ record.length = 22 ∧
        (takeBattery yard.bd.table record).1.control = control) ∧
      yard.siu.freeze = false ∧ State.reset.batteryFigures = none ∧ yard.batteryFigures = some ⟨0, 500, 30000, 20000⟩ ∧
      (∀ control, (after .batteryWrite (asks yard ([7, 2, 6, 0] ++ batteryRecord { BatteryTable.cold with control }))).bd.mode =
        (match control with | .auto => .shave | .manual => .manual)) :=
  ⟨fun control => ⟨allowed_yard _, by cases control <;> decide +kernel, by cases control <;> decide +kernel⟩,
    by decide +kernel, by decide +kernel, by decide +kernel, fun control => by cases control <;> decide +kernel⟩

theorem witness_CanopyIsWritten :
    (let record := ({ yard with cc.table := canopy 0 } : State).canopyRecord.take 82
     served yard ([7, 2, 7, 0] ++ record) ∧ record.length = 82) ∧
      (let s := { yard with cc.amount := 500, cc.table := canopy 0 }
       0 < s.cc.amount ∧ s.stringEntry 0 ≠ none ∧ (s.cc.strings[(0 : StringNo)].sent.map (·.cap)) ≠ some 10000 ∧
        s.cc.table.strings[(0 : StringNo)].enabled = true) :=
  ⟨⟨allowed_yard _, by decide +kernel⟩, by decide +kernel⟩

/-- The index after the last of each table, and a record one byte short. -/
theorem witness_RefusedWritesChangeNothing :
    (Instr.siteWrite, (1 : Byte), 0) ∈ Claims.writes.map (fun w => (w.1, w.2.1, w.2.2.1)) ∧
      (Instr.stationWrite, (2 : Byte), 63) ∈ Claims.writes.map (fun w => (w.1, w.2.1, w.2.2.1)) ∧
      served yard ([7, 2, 2, 64] ++ []) ∧ 63 < (64 : Byte).toNat ∧
      served yard ([7, 2, 3, 32] ++ []) ∧ 31 < (32 : Byte).toNat ∧
      served yard ([7, 2, 1, 0] ++ List.replicate 77 0) ∧
      ((List.replicate 77 (0 : Byte)).length == 78) = false ∧ tariffFits [1, 0, 0, 0, 0, 0, 0] = false :=
  ⟨by decide, by decide, allowed_yard _, by decide, allowed_yard _, by decide, allowed_yard _, by decide, by decide +kernel⟩

/-- A plan that is OK and plans that fail at the first and at the last check. -/
theorem witness_PlanStatus :
    State.reset.planCheck.mr.plan = none ∧
      ({ yard with fs.stations := yard.fs.stations.set 63 (some ⟨0x10, .gridMeter, 1⟩) } : State).planCheck.mr.plan =
        some ⟨.duplicateAddress, 63⟩ ∧
      ({ yard with cc.table.strings := yard.cc.table.strings.set 7 ⟨true, 0, 0⟩ } : State).planCheck.mr.plan =
        some ⟨.stringNoStation, 7⟩ := by decide +kernel

/-- Each check of R172 at a failing state, with the index its row gives: positions 9 and 12, bay 31, the full pair, and band B3 (R179). -/
theorem witness_PlanStatus_each :
    let place (entries : List (Position × Station)) : State :=
      { yard with fs.stations := entries.foldl (fun table e => table.set e.1 (some e.2)) yard.fs.stations }
    let band (start : Nat) : Band := ⟨start, 0, 0, false, false⟩
    [place [(9, ⟨0x10, .charger 9, 1⟩), (12, ⟨0x10, .charger 9, 1⟩)], place [(12, ⟨0x60, .battery, 1⟩)],
        place [(12, ⟨0x60, .pvString 1, 1⟩), (13, ⟨0x61, .charger 0, 1⟩)],
        yard.setBay 31 { yard.bay 31 with config := ⟨true, 0, 0⟩ },
        { yard with bd.table := { BatteryTable.cold with fullResume := 950 } },
        { yard with mu.profileB := ⟨band 0, [band 5, band 6, band 6, band 1]⟩ }].map
      (fun s => s.planCheck.mr.plan.map fun f => (f.check, f.index)) =
      [some (.duplicateAddress, 9), some (.secondRole, 12), some (.sharedIndex, 12), some (.bayNoCharger, 31),
        some (.batteryOrder, 1), some (.tariffOrder, 0x13)] := by decide +kernel

/-- A site table with fields above, below and at the ends of their ranges. -/
def offRange : SiteTable :=
  { SiteTable.cold with
    ownAddress := 0xFF, highWater := 49, silenceTimeout := 1, closeHold := 300, volts := 65535, importLimit := 2000001 }

/-- Tables with fields out of range, an index of 32, and each code that 10.5 does not list. -/
theorem witness_RecordsReadBack_taken :
    Claims.siteFits offRange ∧
      ((takeSite SiteTable.cold (siteRecord offRange)).1.ownAddress, (takeSite SiteTable.cold (siteRecord offRange)).1.highWater,
        (takeSite SiteTable.cold (siteRecord offRange)).1.volts, (takeSite SiteTable.cold (siteRecord offRange)).2) =
          (0xFE, 48, 277, true) ∧
      (takeSite offRange ((siteRecord SiteTable.cold).set 23 4)) = (SiteTable.cold, true) ∧
      (takeBattery BatteryTable.cold (batteryRecord { BatteryTable.cold with refresh := 61, reserveEnter := 1001 })) =
        ({ BatteryTable.cold with refresh := 60, reserveEnter := 1000 }, true) ∧
      (takeBattery { BatteryTable.cold with control := .manual } ((batteryRecord BatteryTable.cold).set 18 2)).1.control = .manual ∧
      (takeString ⟨true, 0, 0⟩ [2, 0, 0, 0, 5, 0, 0, 0, 6] 0) = (⟨true, 5, 5⟩, true) ∧
      (takeProfile (tariffRecord ⟨⟨1440, 1, 2, true, false⟩, []⟩)) = (⟨⟨1439, 1, 2, true, false⟩, []⟩, true) ∧
      (takeStation none [0xFF, 1, 32, 17]) = (some ⟨0xFE, .charger 31, 16⟩, true) ∧
      (takeStation (some ⟨1, .battery, 1⟩) [9, 6, 0, 1]) = (some ⟨9, .battery, 1⟩, true) ∧
      (takeStation none [9, 6, 0, 1]) = (none, true) :=
  ⟨by unfold Claims.siteFits; decide +kernel, by decide +kernel⟩

theorem witness_RecordsReadBack :
    SiteTable.cold.inRange ∧ (⟨0xFE, .charger 31, 16⟩ : Station).divider ≤ 16 ∧ (⟨true, 7, 800⟩ : BayConfig).cap ≤ 800 ∧
      Profile.cold.inRange ∧ BatteryTable.cold.inRange ∧ ({ yard with cc.table := canopy 10000 } : State).cc.table.inRange ∧
      (Values.battery (-2147483648) 1000 2147483647 2147483647).fit .battery ∧ (Values.grid (-1) 5).fit .gridMeter ∧
      (Values.shop 2147483647).fit .shopMeter ∧ (Values.pv 0 0).fit (.pvString 7) ∧
      ({ asking with requested := 800, maximum := 800, power := 100000 } : Figures).inRange :=
  ⟨by unfold SiteTable.inRange; decide +kernel, by decide, by decide, ⟨by decide, by unfold Band.inRange; decide +kernel⟩,
    by unfold BatteryTable.inRange; decide +kernel, by unfold CanopyTable.inRange; decide +kernel,
    (by decide : 1000 ≤ 1000), trivial, trivial, trivial, by unfold Figures.inRange; decide⟩

theorem witness_ClockAndClears :
    served yard ([7, 3, 1] ++ field16 1209 ++ bytesOf 3 86399) ∧
      served yard ([7, 3, 1] ++ field16 1209 ++ bytesOf 3 16777215) ∧ 16777215 < 16777216 ∧
      served yard ([7, 3, 8] ++ field16 0x8001) ∧ served yard [7, 3, 9] ∧
      (let full := yard.setQueue .up (List.replicate 16 ⟨⟨1, 2, 3, []⟩, .forwarded⟩)
       served full [7, 3, 9] ∧ full.li.up.queue.length = queueSize) :=
  ⟨allowed_yard _, allowed_yard _, by decide, allowed_yard _, allowed_yard _, allowed_at _ _ ⟨rfl, rfl, rfl⟩, rfl⟩

theorem witness_RestartIsScheduled :
    served yard [7, 3, 2] ∧ yard.li.up.queue.length < queueSize ∧ yard.powered = true ∧
      ({ yard with mr.restart := .due } : State).mr.restart ≠ .idle ∧ Instr.topUp ∈ Claims.checkedServices :=
  ⟨allowed_yard _, by decide +kernel, rfl, by decide, by decide⟩

theorem witness_ResumeEndsTheFreeze :
    served yard [7, 3, 3] ∧ yard.mr.site.islandSense = .levelHigh ∧ yard.siu.island.high = false ∧
      served { yard with siu.island.high := true } [7, 3, 3] ∧
      served { yard with mr.site.islandSense := .falling, siu.freeze := true } [7, 3, 3] :=
  ⟨allowed_yard _, rfl, rfl, allowed_at _ _ ⟨rfl, rfl, rfl⟩, allowed_at _ _ ⟨rfl, rfl, rfl⟩⟩

/-- A RESUME that clears the freeze with the battery figures fresh, and with them stale. -/
theorem witness_ResumeEndsTheFreeze_battery :
    let s : State := { shaving with siu.freeze := true, bd.mode := .island, bd.topUp := false }
    s.batteryFigures = some ⟨0, 500, 30000, 20000⟩ ∧
      [5, 0].map (fun hold => (after .resume (asks { s with mr.site.holdTime := hold } [7, 3, 3])).bd.mode) = [.shave, .off] := by
  decide +kernel

theorem witness_ShedClearBySense :
    served yard [7, 3, 4] ∧ yard.mr.site.shedSense = .levelHigh ∧
      (∀ latch, served { yard with mr.site.shedSense := .rising, siu.shed := ⟨false, latch, latch⟩ } [7, 3, 4]) :=
  ⟨allowed_yard _, rfl, fun _ => allowed_at _ _ ⟨rfl, rfl, rfl⟩⟩

/-- Below the target and at it; bays 31 and 32. -/
theorem witness_TopUpAndForceClose :
    (let s : State := { yard with bd.mode := .full }
     served s [7, 3, 5] ∧ s.bd.table.control = .auto ∧ s.bd.mode = .full ∧ s.siu.freeze = false ∧
       s.batteryFigures = some ⟨0, 500, 30000, 20000⟩ ∧ 500 < s.bd.table.topUpTarget ∧
       (s.setRecord 2 (fresh (.battery 0 900 0 0))).batteryFigures = some ⟨0, 900, 0, 0⟩ ∧ s.bd.table.topUpTarget ≤ 900) ∧
      yard.bd.mode = .off ∧ served yard [7, 3, 6, 32] ∧ 32 ≤ (32 : Byte).toNat ∧
      served yard [7, 3, 6, 31] ∧ (31 : BayNo).val = (31 : Byte).toNat ∧
      ((yardWith (openIn .silent)).bay 0).session.state = .silent :=
  ⟨⟨allowed_at _ _ ⟨rfl, rfl, rfl⟩, by decide +kernel⟩, rfl, allowed_yard _, by decide, allowed_yard _, by decide, by decide +kernel⟩

theorem witness_ReleaseHandsOn :
    (∀ n ∈ [500, 501, 548], served (fullQueue yard) ([7, 3, 7] ++ field32 (BitVec.ofNat 32 n))) ∧
      (fullQueue yard).rq.receipts.head?.map (·.number) = some 500 ∧ (fullQueue yard).held = [] ∧
      (let s := { (fullQueue (yardWith { (openIn .held) with blocked := true })) with held := [0] }
       served s ([7, 3, 7] ++ field32 500) ∧ s.held = 0 :: [] ∧
        (s.bay 0).session.figures = some asking ∧ (s.bay 0).config.enabled = true ∧ (s.bay 0).session.blocked = true ∧
        (after .releaseReceipt (asks s ([7, 3, 7] ++ field32 500))).li.up.queue.map (·.origin) =
          [.receipt, .receipt, .manageAnswer]) :=
  ⟨fun _ _ => allowed_at _ _ ⟨rfl, rfl, rfl⟩, by decide +kernel, rfl, allowed_at _ _ ⟨rfl, rfl, rfl⟩, rfl, by decide +kernel⟩

/-- RECEIPT_HIGH at the DEMAND whose receipt reaches the mark, and at a SITE write that lowers the mark to the count: 48 receipts with
the condition clear, and 1 receipt at a mark of 2 (R141). -/
theorem witness_highRaised :
    (let s : State := { fullQueue yard with rq.high := false, mr.site.highWater := 48 }
     let t := after .siteWrite (asks s ([7, 2, 1, 0] ++ siteRecord { SiteTable.cold with highWater := 47 }))
     s.isPending .receiptHigh = false ∧ t.rq.high = true ∧ t.isPending .receiptHigh = true) ∧
      (let s (n : Nat) : State := { yardWith (openIn .active) with rq.receipts := (fullQueue yard).rq.receipts.take n, mr.site.highWater := 2 }
       [0, 1].map (fun n => (after (.demandFrame (received (demandFrom (figuresIn .ended)))) (s n)).isPending .receiptHigh) =
        [false, true]) := by decide +kernel

/-- Operation 0, command codes 0 and 10, table codes 0, 9, 18 and 19, the short payloads, and each command one argument byte short. -/
theorem witness_UnservedRequests :
    (∀ p ∈ [[7, 0], [7, 3, 0], [7, 3, 10], [7, 2, 0, 0], [7, 2, 9, 0], [7, 2, 18, 0], [7, 2, 19, 0], [], [7], [7, 2], [7, 3], [7, 2, 5]],
      served yard p) ∧
    ∀ x ∈ Claims.arguments, served yard (7 :: 3 :: x.2.1 :: List.replicate (x.2.2 - 1) 0) ∧
      (List.replicate (x.2.2 - 1) (0 : Byte)).length < x.2.2 :=
  ⟨fun p _ => allowed_yard p, fun x h => ⟨allowed_yard _, by revert x; decide⟩⟩

/-- An unknown operation and payloads without tag or operation, from a source that is not on the manager list. -/
theorem witness_UnservedRequests_anySource :
    ∀ p ∈ [[(7 : Byte), 0], [7, 4, 1], [], [7]],
      let s := asks { yard with mr.site.managers := #v[0x09, 0xFF, 0xFF, 0xFF] } p
      s.heads ⟨2, p⟩ [] ∧ s.passesManagers 2 = false ∧ (p.length < 2 ∨ (p.getD 1 0 ≠ 1 ∧ p.getD 1 0 ≠ 2 ∧ p.getD 1 0 ≠ 3)) :=
  fun p h => ⟨⟨rfl, rfl, rfl⟩, rfl, by revert p; decide⟩

theorem witness_WarmRestartState :
    yard.powered = true ∧ yard.mr.resetArmed = true ∧ ({ yard with mr.restart := .due } : State).mr.restart = .due ∧
      ({ yard with mr.restart := .answering } : State).mr.restart ≠ .idle ∧
      ((yardWith (openIn .active)).bay 0).session.state.isOpen = true ∧ (yard.bay 0).session.state.isOpen = false := by
  decide +kernel

theorem witness_SupplyAndResetPin :
    ({ yard with powered := false } : State).powered = false ∧ Instr.meteringTick ≠ .supplyLoss ∧
      (∀ a b h i, Instr.meteringTick ≠ .coldReset a b h i) ∧ yard.powered = true := by decide +kernel

theorem witness_PinLevels :
    yard.powered = true ∧ (Claims.inputAfter yard.siu.island true .levelHigh).active = true ∧ yard.siu.island.active = false ∧
      yard.siu.freeze = false ∧ yard.bd.table.control = .auto ∧
      ({ yard with siu.freeze := true } : State).siu.island.active = false ∧
      (Claims.inputAfter yard.siu.island false .levelHigh).active = false := by decide +kernel

theorem witness_MeteringTick :
    yard.powered = true ∧ ((yardWith (openIn .active)).bay 0).session.state.isOpen = true ∧
      (yard.bay 0).session.state.isOpen = false ∧ (yard.bay 0).metering.balanced :=
  ⟨rfl, by decide +kernel, by decide +kernel, by unfold Metering.balanced; decide +kernel⟩

/-- Countdowns of 2, 1 and 0, a dwell timer that runs and one that does not. -/
theorem witness_MeteringTick_timers :
    let s : State := { yard with ae.timer := ⟨2, false⟩, cc.timer := ⟨1, false⟩, ae.dwells := yard.ae.dwells.set 0 ⟨⟨1, false⟩, true, false⟩ }
    let t := after .meteringTick s
    s.powered = true ∧ (yard.bay 0).alloc.guard.left = 0 ∧
      [t.ae.timer, t.cc.timer, (t.bay 0).alloc.guard, t.ae.dwells[(0 : ClassNo)].timer, t.ae.dwells[(1 : ClassNo)].timer] =
        [⟨1, false⟩, ⟨1, true⟩, ⟨0, false⟩, ⟨1, true⟩, ⟨900, false⟩] := by decide +kernel

/-- The mark of a session timer of a state after the tick that ends second `now`. -/
def dueAt (state : SessionState) (start : Uptime) (now : Uptime) : Option Bool :=
  ((after .meteringTick { yardWith { (openIn state) with timer := some ⟨start, false⟩ } with mu.uptime := now - 1 }).bay 0).session.timer.map
    (·.due)

/-- Session timers at their duration and a second before it. -/
theorem witness_MeteringTick_sessions :
    [dueAt .active 0 10, dueAt .active 1 10, dueAt .silent 0 300, dueAt .silent 1 300, dueAt .closing 0 30, dueAt .closing 1 30] =
      [some true, some false, some true, some false, some true, some false] := by decide +kernel

/-- The band list of bay 0 after a tick with the band in force A0, and the merged flag. -/
def enteredAfter (entries : List BandEntry) : List BandRef × Bool :=
  let m := ((after .meteringTick
    { yardWith (openIn .active) with
      bays := (yardWith (openIn .active)).bays.set 0
        { (yardWith (openIn .active)).bays[0] with metering := { Bay.cold.metering with bands := entries } } }).bay 0).metering
  (m.bands.map (·.band), m.merged)

/-- Entries of seven and of eight other bands, and an entry of the band in force. -/
theorem witness_MeteringTick_bands :
    let others (n : Nat) : List BandEntry := (List.range n).map fun i => ⟨⟨.b, i⟩, 1, 1⟩
    let names (n : Nat) : List BandRef := (List.range n).map fun i => ⟨.b, i⟩
    enteredAfter (others 7) = (names 7 ++ [⟨.a, 0⟩], false) ∧ enteredAfter (others 8) = (names 8, true) ∧
      enteredAfter (⟨⟨.a, 0⟩, 1, 1⟩ :: others 2) = (⟨.a, 0⟩ :: names 2, false) := by decide +kernel

/-- Pending links at their lifetime and a second before it. -/
theorem witness_MeteringTick_links :
    (after .meteringTick { yard with mu.uptime := 899, links := [⟨31, 5, 0, 0, false⟩, ⟨30, 5, 0, 1, false⟩] }).links.map (·.due) =
      [true, false] := by decide +kernel

/-- Age 6 at a hold time of 5, and a wait of 6 s, for each kind of record. -/
theorem witness_RecordsAge :
    yard.powered = true ∧ yard.mr.site.holdTime = 5 ∧ (yard.setRecord 2 (some ⟨none, 255, 0, false⟩)).mu.uptime = 0 ∧
      (({ yard with mu.uptime := 6 } : State).mu.uptime - 0).toNat = 6 ∧
      (yard.setRecord 0 (some ⟨some (.grid 0 0), 6, 0, false⟩)).siu.records[(0 : Position)] =
        some ⟨some (.grid 0 0), 6, 0, false⟩ ∧
      yard.fs.stations[(0 : Position)] = some ⟨0x10, .gridMeter, 1⟩ ∧ yard.fs.stations[(3 : Position)] = some ⟨0x30, .pvString 0, 1⟩ ∧
      yard.stationFor .battery = some (2, ⟨0x40, .battery, 1⟩) ∧
      (yard.setRecord 0 (some ⟨none, 255, 0, true⟩)).siu.records[(0 : Position)] = some ⟨none, 255, 0, true⟩ := by decide +kernel

/-- Each timer at exactly its duration. -/
theorem witness_SessionExpiries :
    (let s := { (yardWith { (openIn .active) with timer := some ⟨0, true⟩ }) with mu.uptime := 10 }
     s.powered = true ∧ (s.bay 0).session.state = .active ∧ Claims.ranOut s 0 s.mr.site.silenceTimeout) ∧
      (let s := { (yardWith { (openIn .silent) with timer := some ⟨0, true⟩ }) with mu.uptime := 300 }
       (s.bay 0).session.state = .silent ∧ Claims.ranOut s 0 s.mr.site.silentClose ∧ s.rq.receipts.length < receiptSlots) ∧
      (let s := { (yardWith { (openIn .closing) with timer := some ⟨0, true⟩ }) with mu.uptime := 30 }
       (s.bay 0).session.state = .closing ∧ Claims.ranOut s 0 s.mr.site.closeHold ∧
        (s.bay 0).session.endReason = some .unplugged) ∧
      (let s := { yard with mu.uptime := 900, links := [⟨31, 5, 0, 0, true⟩] }
       (⟨31, 5, 0, 0, true⟩ : PendingLink) ∈ s.links ∧ s.mr.site.linkLifetime ≤ (s.mu.uptime - 0).toNat) :=
  ⟨⟨rfl, by decide +kernel, 0, by decide +kernel⟩, ⟨by decide +kernel, ⟨0, by decide +kernel⟩, by decide +kernel⟩,
    ⟨by decide +kernel, ⟨0, by decide +kernel⟩, by decide +kernel⟩, by decide +kernel⟩

/-- The same two timers while 48 receipts wait, the vehicle plugged in, with room in the Down queue and with none. -/
theorem witness_SessionExpiries_held :
    let s : State :=
      { fullQueue (yardWith { (openIn .silent) with timer := some ⟨0, true⟩, endReason := some .forced }) with mu.uptime := 300 }
    let c : State := fullQueue (yardWith { (openIn .closing) with timer := some ⟨0, true⟩ })
    ((s.bay 0).session.state = .silent ∧ Claims.ranOut s 0 s.mr.site.silentClose ∧ receiptSlots ≤ s.rq.receipts.length ∧
        (s.bay 0).session.blocked = false ∧ (s.bay 0).session.figures = some asking ∧ asking.state = .requesting ∧
        s.stationFor (.charger 0) = some (5, ⟨0x20, .charger 0, 1⟩) ∧ s.li.down.queue.length < queueSize) ∧
      ((c.bay 0).session.state = .closing ∧ (c.bay 0).session.endReason = some .unplugged ∧
        (∃ q ∈ (c.setQueue .down (List.replicate 16 ⟨⟨0x20, 0xF0, kindGrant, []⟩, .grant 0⟩)).li.down.queue, q.origin = .grant 0)) :=
  ⟨⟨by decide +kernel, ⟨0, by decide +kernel⟩, by decide +kernel⟩, by decide +kernel⟩

/-- The yard with its pass timers run out. -/
def dueYard : State := { yard with ae.timer := ⟨1, true⟩, cc.timer := ⟨1, true⟩ }

/-- Each basis: SETTLE, FROZEN, FALLBACK and NORMAL. -/
theorem witness_PassBegins :
    dueYard.powered = true ∧ dueYard.ae.timer.due = true ∧ dueYard.ae.pass = none ∧
      (let basis (s : State) := (after .allocationPassStart s).ae.pass.map (·.basis)
       basis { dueYard with mr.site.holdTime := 0 } = some .settle ∧ basis { dueYard with siu.freeze := true } = some .frozen ∧
        basis { dueYard with mr.plan := some ⟨.batteryOrder, 0⟩ } = some .fallback ∧ basis dueYard = some .normal) ∧
      (let s : State := { ((dueYard.modSession 0 fun _ => openIn .active).modSession 1 fun _ => openIn .active) with
        ae.lists := dueYard.ae.lists.set 0 [1], ae.dwells := dueYard.ae.dwells.set 0 ⟨⟨5, false⟩, true, true⟩ }
       let s := s.modAlloc 1 fun a => { a with outcome := .admitted }
       let t := after .allocationPassStart s
       t.ae.pass.map (·.basis) = some .normal ∧ s.ae.dwells[(0 : ClassNo)].mark = true ∧ t.ae.lists[(0 : ClassNo)] = [0, 1]) := by
  decide +kernel

/-- What a pass that begins holds of a bay. -/
def lineOf (s : State) (b : BayNo) : Option (Bool × Bool × Nat × Option Position) :=
  (after .allocationPassStart s).ae.pass.map fun p =>
    (p.lines[b].active, p.lines[b].candidate, p.lines[b].maxPower, p.lines[b].charger)

/-- An ACTIVE bay that is a candidate for 32.0 A on three phases, a VACANT one, and one without a charger. -/
theorem witness_PassBegins_snapshot :
    [0, 1, 2].map (lineOf { (dueYard.modSession 0 fun _ => openIn .active) with mr.site.importLimit := 20000 }) =
      [some (true, true, 22080, some 5), some (false, false, 0, some 6), some (false, false, 0, none)] := by decide +kernel

/-- A second grid meter at the last position. -/
def twoMeters : State :=
  { yard with
    fs.stations := yard.fs.stations.set 63 (some ⟨0x12, .gridMeter, 1⟩)
    siu.records := yard.siu.records.set 63 (fresh (.grid 7 7)) }

/-- R34 with two grid meters, the lower one counting, and at an age of 5 and of 6 s. -/
theorem witness_PassBegins_figures :
    Claims.figuresOf twoMeters .gridMeter (some (.grid 1000 7)) ∧ twoMeters.gridPower = some 1000 ∧
      (∀ x ∈ [(5, some 4), (6, none)], (twoMeters.setRecord 0 (some ⟨some (.grid 4 4), x.1, 0, false⟩)).gridPower = x.2) ∧
      (twoMeters.setRecord 1 none).shopLoad = 60000 := by
  have meters : ∀ pos : Position, ∀ e ∈ twoMeters.fs.stations[pos], e.role = .gridMeter → pos = 0 ∨ pos = 63 := by decide +kernel
  have first : twoMeters.fs.stations[(0 : Position)] = some ⟨0x10, .gridMeter, 1⟩ := by decide +kernel
  refine ⟨⟨fun pos e h r low => ?_, fun none => absurd rfl (none 0 _ first)⟩, by decide +kernel, by decide +kernel, by decide +kernel⟩
  rcases meters pos e h r with rfl | rfl
  · decide +kernel
  · exact absurd rfl (low 0 _ (by decide) first)

/-- R113 on a Saturday: profile B's last band before its first start, its first band at the start, and A0 with the clock unset. -/
theorem witness_PassBegins_bands :
    let s : State := { yard with mu.profileB := ⟨⟨420, 0, 0, false, false⟩, [⟨1320, 0, 0, false, false⟩]⟩ }
    ([419 * 60 + 59, 420 * 60, 1320 * 60].map fun second => ({ s with mu.clock := some ⟨5, second⟩ } : State).bandRef.position) =
        [1, 0, 1] ∧
      ({ s with mu.clock := some ⟨5, 0⟩ } : State).bandRef.profile = .b ∧ s.mu.clock = none ∧ s.bandRef = ⟨.a, 0⟩ := by
  decide +kernel

theorem witness_GrantsOfAPass :
    dueYard.powered = true ∧ dueYard.ae.timer.due = true ∧ dueYard.ae.pass = none ∧ RotationInv dueYard ∧
      (let s := after .allocationPassStart
        { (dueYard.modSession 0 fun _ => openIn .active) with mr.site.importLimit := 20000 }
       s.ae.pass.map (fun p => (p.basis, p.lines[0].outcome, p.lines[0].grant)) = some (.normal, .admitted, 282)) ∧
      (let s := after .allocationPassStart
        { ((dueYard.modSession 0 fun _ => openIn .active).modSession 1 fun _ => openIn .active) with
          mr.plan := some ⟨.batteryOrder, 0⟩, mr.site.fallbackBudget := 8279 }
       s.ae.pass.map (fun p => (p.basis, p.lines[0].outcome, p.lines[0].grant, p.lines[1].outcome, p.lines[1].grant)) =
        some (.fallback, .fallback, 60, .fallback, 0)) :=
  ⟨rfl, rfl, rfl, by unfold RotationInv; decide +kernel, by decide +kernel, by decide +kernel⟩

/-- Bay 0 under guard with its class shed, bay 1 of a shed class with no guard, and bay 2, which is DISABLED. -/
theorem witness_GrantsOfAPass_standing :
    let s : State :=
      { (((dueYard.modSession 0 fun _ => openIn .active).modSession 1 fun _ => openIn .active).modAlloc 0
          fun a => { a with guard := ⟨1, false⟩ }) with siu.shed := ⟨true, true, false⟩, mr.site.shedFloor := 0 }
    let s := [(0 : BayNo), 1].foldl (fun (t : State) b => t.setBay b { t.bay b with config := ⟨true, 1, 0⟩ }) s
    (after .allocationPassStart s).ae.pass.map (fun p => [p.lines[0].outcome, p.lines[1].outcome, p.lines[2].outcome]) =
      some [.waitingGuard, .waitingShed, .none] := by decide +kernel

theorem witness_PassIsPublished :
    (let s := after .allocationPassStart { (dueYard.modSession 0 fun _ => openIn .active) with mr.site.importLimit := 20000 }
     s.powered = true ∧ s.ae.pass.map (fun p => (p.basis, p.lines[0].active)) = some (.normal, true) ∧
       (s.bay 0).session.state = .active ∧ (s.bay 2).session.state = .disabled ∧
       s.batteryFigures = some ⟨0, 500, 30000, 20000⟩ ∧ s.bd.table.control = .auto ∧ s.siu.freeze = false) ∧
      (let s := after .allocationPassStart { dueYard with mr.site.holdTime := 0 }
       s.ae.pass.map (·.basis) = some .settle ∧ s.batteryFigures = none) := by
  decide +kernel

/-- A publication that owes bay 0 its GRANT and the battery its setpoint, with room for both, and with no room. -/
theorem witness_PassIsPublished_frames :
    (let s := after .allocationPassStart { (dueYard.modSession 0 fun _ => openIn .active) with mr.site.importLimit := 20000 }
     let full := s.setQueue .down (List.replicate 16 ⟨⟨1, 2, 3, []⟩, .forwarded⟩)
     let t := after .publication s
     let u := after .publication full
     s.ae.pass.map (fun p => (p.lines[0].charger, p.lines[1].charger, p.lines[2].charger)) = some (some 5, some 6, none) ∧
       t.li.down.queue.map (fun q => (q.frame.dest, q.frame.kind)) =
        [(0x20, kindGrant), (0x21, kindGrant), (0x40, kindLimit)] ∧
       t.bd.mode = .shave ∧ t.bd.sent.isSome = true ∧ u.bd.sent = none ∧ u.li.down.counters.drop = 3) ∧
      (let s := after .allocationPassStart (dueYard.modSession 0 fun _ => openIn .active)
       ((after .publication s).bay 0).alloc.outcome = .waitingBudget ∧
        (after .publication s).ae.dwells[(0 : ClassNo)].running = true) := by
  decide +kernel

theorem witness_GuardAndDwellExpire :
    yard.powered = true ∧ ((yard.modAlloc 0 fun a => { a with guard := ⟨1, true⟩ }).bay 0).alloc.guard.due = true ∧
      (let s : State := { yard with ae.dwells := yard.ae.dwells.set 7 ⟨⟨1, true⟩, true, false⟩ }
       s.ae.dwells[(7 : ClassNo)].running = true ∧ s.ae.dwells[(7 : ClassNo)].timer.due = true) := by decide +kernel

theorem witness_CanopyPassBegins :
    dueYard.powered = true ∧ dueYard.cc.timer.due = true ∧ dueYard.cc.pass = none ∧
      ({ dueYard with mr.site.holdTime := 0 } : State).gridPower = none ∧ dueYard.gridPower = some 1000 := by decide +kernel

theorem witness_CanopyIsPublished :
    (let s := after .canopyPassStart dueYard
     s.powered = true ∧ s.cc.pass.isSome = true ∧ s.cc.amount = 0) ∧
      (let s := after .canopyPassStart { (dueYard.setRecord 0 (fresh (.grid (-23000) 0))) with cc.table := canopy 0 }
       s.cc.pass.map (·.amount) = some 3000 ∧ s.stringEntry 0 = some (3, ⟨0x30, .pvString 0, 1⟩) ∧
        s.stringEntry 1 = some (4, ⟨0x31, .pvString 1, 3⟩) ∧ s.stringEntry 3 = none ∧
        s.cc.strings[(0 : StringNo)].release = false ∧
        (let t := after .canopyPublication s
         (s.cc.pass.map fun p => (Claims.powerOwed s t p 0, Claims.powerOwed s t p 3)) = some (some 6750, none))) ∧
      (let s : State := { yard with
        cc.table := canopy 0, cc.amount := 5000, cc.strings := yard.cc.strings.set 0 ⟨some 5860, some ⟨5860, 0⟩, false⟩ }
       let p : CanopyPass := ⟨0, Vector.replicate 8 none, Vector.ofFn (canopy 0).on, none⟩
       let t := after .canopyPublication { s with cc.pass := some p }
       (Claims.powerOwed { s with cc.pass := some p } t p 0, Claims.powerOwed { s with cc.pass := some p } t p 7) =
        (some 10000, none)) := by decide +kernel

/-- A tick of the yard, for the invariants. -/
def ticking : State := { yard with pending := [.meteringTick] }

theorem witness_StepKeepsQueues :
    (CapacityInv ticking ∧ OwnFramesInv ticking ∧ CountersInv ticking ∧ PayloadInv ticking) ∧
      step ticking = .next (after .meteringTick yard) := by
  refine ⟨⟨⟨?_, ?_⟩, ?_, ⟨?_, ?_⟩, ?_, ?_⟩, rfl⟩
  · intro p; cases p <;> decide +kernel
  · decide +kernel
  · exact .nil
  · intro p; cases p <;> decide +kernel
  · decide +kernel
  · intro p; cases p <;> exact ⟨by decide +kernel, fun q h => nomatch h⟩
  · decide +kernel

theorem witness_StepKeepsAccounts : AccountsInv ticking ∧ step ticking = .next (after .meteringTick yard) :=
  ⟨by unfold AccountsInv Metering.balanced; decide +kernel, rfl⟩

theorem witness_StepKeepsSessions :
    (SessionInv ticking ∧ LinksInv ticking ∧ HeldInv ticking ∧ NumbersInv ticking) ∧
      step ticking = .next (after .meteringTick yard) := by
  refine ⟨⟨fun b => ⟨?_, ?_, ?_, ?_, ?_, ?_, ?_⟩, ?_, ?_, ?_⟩, rfl⟩
  · revert b; decide +kernel
  · revert b; decide +kernel
  · revert b; decide +kernel
  · revert b; decide +kernel
  · intro h; exact absurd h (by revert b; decide +kernel)
  · revert b; decide +kernel
  · revert b; decide +kernel
  · unfold LinksInv; decide +kernel
  · unfold HeldInv; decide +kernel
  · unfold NumbersInv; decide +kernel

theorem witness_StepKeepsAllocation :
    (BudgetInv ticking ∧ RotationInv ticking) ∧ step ticking = .next (after .meteringTick yard) :=
  ⟨⟨⟨by decide +kernel, fun _ h => nomatch h⟩, by unfold RotationInv; decide +kernel⟩, rfl⟩

theorem witness_StepKeepsControls :
    (InputsInv ticking ∧ BatteryInv ticking) ∧ step ticking = .next (after .meteringTick yard) :=
  ⟨⟨⟨⟨rfl, rfl⟩, ⟨rfl, rfl⟩, fun h => nomatch h⟩, by unfold BatteryInv; decide +kernel⟩, rfl⟩

theorem witness_StepKeepsCurtailment : CurtailmentInv ticking ∧ step ticking = .next (after .meteringTick yard) :=
  ⟨by unfold CurtailmentInv; decide +kernel, rfl⟩

/-- `Values.fit` as a Bool. -/
def fits : Values → Role → Bool
  | .grid _ _, .gridMeter => true
  | .shop _, .shopMeter => true
  | .pv _ _, .pvString _ => true
  | .battery _ soc _ _, .battery => soc ≤ 1000
  | _, _ => false

theorem fit_of_fits : ∀ (v : Values) (r : Role), fits v r = true → v.fit r := by
  intro v r; cases v <;> cases r <;> simp [fits, Values.fit]

theorem witness_StepKeepsRanges :
    (TablesInv ticking ∧ CurrentsInv ticking ∧ RecordsInv ticking ∧ StationsInv ticking) ∧
      step ticking = .next (after .meteringTick yard) := by
  have figures : ∀ b : BayNo, (ticking.bay b).session.figures = none ∧ (ticking.bay b).config.cap ≤ 800 ∧
      (ticking.bay b).alloc.grant ≤ 800 ∧ (ticking.bay b).metering.peak ≤ 800 := by decide +kernel
  have records : ∀ pos : Position, (ticking.siu.records[pos]).isSome =
        ((ticking.fs.stations[pos]).any fun e => e.role.measures) ∧
      ∀ r ∈ ticking.siu.records[pos], ∀ e ∈ ticking.fs.stations[pos],
        r.age ≤ 255 ∧ ∀ v ∈ r.values, fits v e.role = true := by decide +kernel
  have stations : ∀ pos : Position, ∀ e ∈ ticking.fs.stations[pos],
      e.address ≠ broadcast ∧ 1 ≤ e.divider ∧ e.divider ≤ 16 ∧ ticking.fs.counts[pos] < e.divider := by decide +kernel
  refine ⟨⟨⟨?_, ?_, ?_, ?_, ?_, fun b => (figures b).2.1⟩, ⟨fun b => ⟨fun f h => ?_, (figures b).2⟩, fun _ h => nomatch h⟩,
    fun pos => ⟨(records pos).1, fun r e h g => ?_⟩, stations⟩, rfl⟩
  · unfold SiteTable.inRange; decide +kernel
  · unfold BatteryTable.inRange; decide +kernel
  · unfold CanopyTable.inRange; decide +kernel
  · unfold Profile.inRange Band.inRange; decide +kernel
  · unfold Profile.inRange Band.inRange; decide +kernel
  · exact absurd ((figures b).1.symm.trans h) nofun
  · exact ⟨((records pos).2 r h e g).1, fun v k => fit_of_fits v e.role (((records pos).2 r h e g).2 v k)⟩

end Sys2Proof.Tests
end

section
/-! LINK_FRAME (O13), on the fields of a payload, the reception of a frame, and an offer that replaces nothing. -/

namespace Sys2Proof.Machine

/-! ### Unsigned fields (R179) -/

/-- The figure that is read behind `acc` from the low `w` bytes of `n`. -/
theorem foldl_bytesOf (w n acc : Nat) :
    (bytesOf w n).foldl (fun acc b => acc * 256 + b.toNat) acc = acc * 256 ^ w + n % 256 ^ w := by
  induction w generalizing acc with
  | zero => simp [bytesOf, Nat.mod_one]
  | succ w ih =>
    have hbyte : (BitVec.ofNat 8 (n / 256 ^ w)).toNat = n / 256 ^ w % 256 := BitVec.toNat_ofNat ..
    rw [bytesOf, List.foldl_cons, ih, hbyte, Nat.mod_pow_succ]
    ring

theorem natOfBytes_bytesOf {w n : Nat} (h : n < 256 ^ w) : natOfBytes (bytesOf w n) = n := by
  simp [natOfBytes, foldl_bytesOf, Nat.mod_eq_of_lt h]

/-- A figure that its field can carry is read back, whatever stands before and behind the field. -/
theorem readU_bytesOf (front back : List Byte) {w n : Nat} (h : n < 256 ^ w) :
    readU (front ++ (bytesOf w n ++ back)) front.length w = n := by
  simp [readU, slice, natOfBytes_bytesOf h]

/-- The first byte of a payload, read as a field. -/
theorem readU_head (b : Byte) (back : List Byte) : readU (b :: back) 0 1 = b.toNat := by
  simp [readU, slice, natOfBytes]

/-! ### Frames on the line (8.1, R147) -/

/-- A frame that the line can carry is received as it was sent. -/
theorem goodFrame_received {f : Frame} (h : f.payload.length ≤ 96) : goodFrame (received f) = some f := by
  have hlen : (BitVec.ofNat 8 f.payload.length).toNat = f.payload.length := by
    rw [BitVec.toNat_ofNat]; exact Nat.mod_eq_of_lt (by omega)
  have hbytes : frameBytes f = f.dest :: f.source :: f.kind :: BitVec.ofNat 8 f.payload.length ::
      (f.payload ++ field16 (crc (frameBody f))) := rfl
  have hcount : (frameBytes f).length = 6 + f.payload.length := by simp [hbytes]; omega
  have hjudge : judge (received f) = .good f := by
    simp only [judge, received, hcount]
    simp [hbytes, hlen, h, frameBody]
  simp [goodFrame, hjudge]

/-! ### Offers that replace nothing (R157) -/

theorem State.offer_frame (s : State) (p : Port) (q : Queued) : s.changesOnly (s.offer p q).1 {.queue p, .drops p} := by
  rcases s.offer_cases p q with ⟨_, -, e⟩ | ⟨-, e⟩ <;> rw [e]
  · exact State.changesOnly_mono (s.setQueue_frame p _) (by simp)
  · exact State.changesOnly_mono (s.countDrops_frame p 1) (by simp)

theorem State.offer_appends (s : State) (p : Port) {q : Queued} (h : ∀ x, replaces q x = false) :
    s.appends (s.offer p q).1 p q := by
  unfold State.appends State.offer
  rcases enqueue_cases (s.port p).queue q with ⟨_, old, _, -, -, ho, -⟩ | ⟨-, ⟨hl, he⟩ | ⟨hl, he⟩⟩
  · simp [h old] at ho
  · simp [he, hl]
  · simp [he, Nat.not_lt.mpr hl, bumpBy, bump]

/-- An append counts from any earlier state with the same queue and the same drops. -/
theorem State.appends_of_same {s u t : State} {p : Port} {q : Queued} (hq : s.same u (.queue p)) (hd : s.same u (.drops p))
    (h : u.appends t p q) : s.appends t p q := by
  simp only [State.same] at hq hd
  simpa only [State.appends, hq, hd] using h

/-! ### One event -/

/-- An event that leaves the unmasked pending set sends no STATUS frame (R174). -/
theorem inEvent_of_unmasked {work : State → State} {s : State} (h : (work s).unmasked = s.unmasked) :
    inEvent work s = work s := by
  rcases inEvent_cases work s with ⟨-, e⟩ | ⟨h0, h1, -⟩
  · exact e
  · exact absurd (h.trans h0) h1

/-- A frame that a running part hears is counted and handed to the work of its row; no STATUS frame follows where that leaves the
Management Responder as it was (R146, R147, R174). -/
theorem takeEvent_receive {s : State} {p : Port} {f : Frame} {row : FrameRow} {work : Frame → State → State}
    (hears : s.hears p f) (hrow : s.frameRow p f = row) (hmr : (work f (s.countReceived p)).mr = s.mr) :
    takeEvent (fun t => t.receive p row (received f) work) s = .next (work f (s.countReceived p)) := by
  obtain ⟨hpow, hwait, hlen⟩ := hears
  have hrec : s.receive p row (received f) work = work f (s.countReceived p) := by
    simp [State.receive, hwait, goodFrame_received hlen, hrow]
  rw [takeEvent_powered _ hpow, inEvent_of_unmasked (by simp [hrec, State.unmasked, hmr]), hrec]

@[simp] theorem State.countReceived_bay (s : State) (p : Port) (b : BayNo) : (s.countReceived p).bay b = s.bay b := by
  simp [State.bay]

/-! ### The rows of R21, one equation each -/

section
variable (s : State) (b : BayNo) (token : BitVec 64) (allowance : Nat)

theorem State.takeLink_badBay {bay : Nat} (h : 32 ≤ bay) : s.takeLink bay token allowance = (s, .badBay) := by
  simp [State.takeLink, Nat.not_lt.mpr h]

theorem State.takeLink_applied
    (hs : (s.bay b).session.state = .connected ∨ (s.bay b).session.state = .active ∨ (s.bay b).session.state = .silent)
    (hl : (s.bay b).session.link = none) :
    s.takeLink b.val token allowance =
      (s.modSession b fun x => { x with link := some (enterLink token allowance) }, .applied) := by
  rcases hs with hs | hs | hs <;> simp [State.takeLink, hs, hl]

theorem State.takeLink_alreadyLinked
    (hs : (s.bay b).session.state = .connected ∨ (s.bay b).session.state = .active ∨ (s.bay b).session.state = .silent)
    (hl : (s.bay b).session.link ≠ none) : s.takeLink b.val token allowance = (s, .alreadyLinked) := by
  have hsome : (s.bay b).session.link.isSome = true := Option.isSome_iff_ne_none.mpr hl
  rcases hs with hs | hs | hs <;> simp [State.takeLink, hs, hsome]

theorem State.takeLink_late (hs : (s.bay b).session.state = .closing ∨ (s.bay b).session.state = .held) :
    s.takeLink b.val token allowance = (s, .late) := by
  rcases hs with hs | hs <;> simp [State.takeLink, hs]

theorem State.takeLink_waiting (hs : (s.bay b).session.state = .vacant ∨ (s.bay b).session.state = .disabled) :
    s.takeLink b.val token allowance = s.storeLink b token allowance := by
  rcases hs with hs | hs <;> simp [State.takeLink, hs]

/-- A bay has an entry to replace, or the table has room for another (R23). -/
def State.linkRoom : Prop := (∃ e ∈ s.links, e.bay = b) ∨ s.links.length < linkSlots

theorem State.storeLink_stored (h : s.linkRoom b) :
    s.storeLink b token allowance =
      ({ s with links := s.links.filter (fun e => e.bay ≠ b) ++ [⟨b, token, allowance, s.now, false⟩] }, .pending) := by
  have hroom : (s.links.any (fun e => e.bay == b) || decide (s.links.length < linkSlots)) = true := by
    simpa [State.linkRoom] using h
  simp only [State.storeLink, hroom, if_true]
  congr 4
  funext e
  simp [bne, BEq.beq]

theorem State.storeLink_tableFull (h : ¬ s.linkRoom b) : s.storeLink b token allowance = (s, .tableFull) := by
  have hfull : (s.links.any (fun e => e.bay == b) || decide (s.links.length < linkSlots)) = false := by
    simpa [State.linkRoom] using h
  simp [State.storeLink, hfull]

/-- All that a LINK can do before its answer: nothing, a link entered at one bay, or a new table of pending links. -/
theorem State.takeLink_cases (bay : Nat) :
    (s.takeLink bay token allowance).1 = s ∨ (∃ c g, (s.takeLink bay token allowance).1 = s.modSession c g) ∨
      ∃ l, (s.takeLink bay token allowance).1 = { s with links := l } := by
  by_cases hbay : bay < 32
  · obtain ⟨c, rfl⟩ : ∃ c : BayNo, bay = c.val := ⟨⟨bay, hbay⟩, rfl⟩
    have running
        (h : (s.bay c).session.state = .connected ∨ (s.bay c).session.state = .active ∨ (s.bay c).session.state = .silent) :
        (s.takeLink c.val token allowance).1 = s ∨ ∃ c' g, (s.takeLink c.val token allowance).1 = s.modSession c' g := by
      by_cases hl : (s.bay c).session.link = none
      · exact .inr ⟨c, _, by rw [s.takeLink_applied c _ _ h hl]⟩
      · exact .inl (by rw [s.takeLink_alreadyLinked c _ _ h hl])
    have waiting (h : (s.bay c).session.state = .vacant ∨ (s.bay c).session.state = .disabled) :
        (s.takeLink c.val token allowance).1 = s ∨ ∃ l, (s.takeLink c.val token allowance).1 = { s with links := l } := by
      rw [s.takeLink_waiting c _ _ h]
      by_cases hr : s.linkRoom c
      · exact .inr ⟨_, by rw [s.storeLink_stored c _ _ hr]⟩
      · exact .inl (by rw [s.storeLink_tableFull c _ _ hr])
    cases hs : (s.bay c).session.state with
    | connected | active | silent => exact (running (by simp [hs])).imp_right .inl
    | closing | held => exact .inl (by rw [s.takeLink_late c _ _ (by simp [hs])])
    | vacant | disabled => exact (waiting (by simp [hs])).imp_right .inr
  · exact .inl (by rw [s.takeLink_badBay _ _ (Nat.not_lt.mp hbay)])

@[simp] theorem State.takeLink_li (bay : Nat) : (s.takeLink bay token allowance).1.li = s.li := by
  rcases s.takeLink_cases token allowance bay with e | ⟨_, _, e⟩ | ⟨_, e⟩ <;> simp [e]

@[simp] theorem State.takeLink_mr (bay : Nat) : (s.takeLink bay token allowance).1.mr = s.mr := by
  rcases s.takeLink_cases token allowance bay with e | ⟨_, _, e⟩ | ⟨_, e⟩ <;> simp [e]

end

/-- A new table of pending links changes that table alone. -/
theorem State.setLinks_frame (s : State) (l : List PendingLink) : s.changesOnly { s with links := l } {.links} := by
  intro part hp
  cases part <;> first | exact absurd rfl hp | exact ⟨rfl, rfl⟩ | exact ⟨rfl, rfl, rfl⟩ | rfl

/-! ### The LINK-ANSWER -/

section
variable (s : State) (till bay : Byte) (outcome : LinkOutcome)

@[simp] theorem State.answerLink_mr : (s.answerLink till bay outcome).mr = s.mr := by simp [State.answerLink]

@[simp] theorem State.answerLink_links : (s.answerLink till bay outcome).links = s.links := by simp [State.answerLink]

@[simp] theorem State.answerLink_bay (b : BayNo) : (s.answerLink till bay outcome).bay b = s.bay b := by
  simp [State.answerLink, State.bay]

theorem State.answerLink_appends :
    s.appends (s.answerLink till bay outcome) .up
      ⟨⟨till, s.own, kindLinkAnswer, [bay, outcome.code]⟩, .linkAnswer⟩ :=
  s.offer_appends .up fun _ => rfl

/-- The whole frame of a LINK whose own effect stays within `a`. -/
theorem State.answerLink_frame {s u : State} {a : Set Part} (h : (s.countReceived .up).changesOnly u a) :
    s.changesOnly (u.answerLink till bay outcome) ({.counters .up} ∪ a ∪ {.queue .up, .drops .up}) :=
  State.changesOnly_trans (State.changesOnly_trans (s.countReceived_frame .up) h) (u.offer_frame .up _)

end

/-! ### The command -/

/-- A LINK as the till sends it: bay, token, allowance, and bytes that the part does not read (10.2). -/
def linkPayload (bay : Byte) (token : BitVec 64) (allowance : Nat) (extra : List Byte) : List Byte :=
  bay :: (bytesOf 8 token.toNat ++ bytesOf 2 allowance) ++ extra

/-- The state and the outcome that a LINK leaves before its answer. -/
def State.linkTaken (s : State) (bay : Byte) (token : BitVec 64) (allowance : Nat) : State × LinkOutcome :=
  (s.countReceived .up).takeLink bay.toNat token allowance

section
variable (bay : Byte) (token : BitVec 64) (allowance : Nat) (extra : List Byte)

theorem readU_link_bay : readU (linkPayload bay token allowance extra) 0 1 = bay.toNat := readU_head bay _

theorem readU_link_token : readU (linkPayload bay token allowance extra) 1 8 = token.toNat := by
  have h := readU_bytesOf [bay] (bytesOf 2 allowance ++ extra) (w := 8) token.isLt
  simpa [linkPayload] using h

theorem readU_link_allowance (ha : allowance < 65536) : readU (linkPayload bay token allowance extra) 9 2 = allowance := by
  have h := readU_bytesOf (bay :: bytesOf 8 token.toNat) extra (w := 2) ha
  simpa [linkPayload] using h

end

@[simp] theorem State.linkFrame_mr (f : Frame) (s : State) : (State.linkFrame f s).mr = s.mr := by
  unfold State.linkFrame
  split <;> simp

/-- A LINK long enough is taken with the fields of its payload and answered. -/
theorem State.linkFrame_of_payload {f : Frame} {bay : Byte} {token : BitVec 64} {allowance : Nat} {extra : List Byte}
    (s : State) (hp : f.payload = linkPayload bay token allowance extra) (ha : allowance < 65536) :
    State.linkFrame f s =
      (s.takeLink bay.toNat token allowance).1.answerLink f.source bay (s.takeLink bay.toNat token allowance).2 := by
  have hlen : ¬ f.payload.length < linkLength := by simp [hp, linkPayload, linkLength]; omega
  rw [State.linkFrame, if_neg hlen]
  simp only [readByte, hp, readU_link_bay, readU_link_token, readU_link_allowance _ _ _ _ ha, BitVec.ofNat_toNat,
    BitVec.setWidth_eq]

section
variable {s : State} {f : Frame} {bay : Byte} {token : BitVec 64} {allowance : Nat} {extra : List Byte}

theorem exec_linkFrame_taken (hears : s.hears .up f) (hsrc : f.source ≠ s.own) (hdest : f.dest = s.own)
    (hkind : f.kind = kindLink) (ha : allowance < 65536) (hp : f.payload = linkPayload bay token allowance extra) :
    exec (.linkFrame (received f)) s =
      .next ((s.linkTaken bay token allowance).1.answerLink f.source bay (s.linkTaken bay token allowance).2) := by
  have hrow : s.frameRow .up f = .linkFrame := by
    simp [State.frameRow, State.upRow, hsrc, hdest, hkind, kindLink, kindManage]
  have hwork := State.linkFrame_of_payload (s.countReceived .up) hp ha
  rw [State.linkTaken, ← hwork]
  exact takeEvent_receive hears hrow (by simp)

end

section
variable (s : State) (till bay : Byte) (token : BitVec 64) (allowance : Nat)

/-- The LINK-ANSWER is queued behind what waited before the LINK. -/
theorem State.linkTaken_appends :
    s.appends ((s.linkTaken bay token allowance).1.answerLink till bay (s.linkTaken bay token allowance).2) .up
      ⟨⟨till, s.own, kindLinkAnswer, [bay, (s.linkTaken bay token allowance).2.code]⟩, .linkAnswer⟩ := by
  have hport : (s.linkTaken bay token allowance).1.port .up = (s.countReceived .up).port .up := by
    simp [State.linkTaken, State.port]
  have hown : (s.linkTaken bay token allowance).1.own = s.own := by simp [State.linkTaken, State.own]
  refine State.appends_of_same ?_ ?_ (hown ▸ State.answerLink_appends _ till bay _)
  · simpa [State.same, hport] using s.countReceived_frame .up (.queue .up) (by simp)
  · simpa [State.same, hport] using s.countReceived_frame .up (.drops .up) (by simp)

/-- A LINK without an effect is answered with its outcome, and changes no more than its reception and its answer do. -/
theorem State.linkTaken_idle {outcome : LinkOutcome} (h : s.linkTaken bay token allowance = (s.countReceived .up, outcome)) :
    (s.linkTaken bay token allowance).2.code = outcome.code ∧
      s.changesOnly ((s.linkTaken bay token allowance).1.answerLink till bay (s.linkTaken bay token allowance).2)
        {.counters .up, .queue .up, .drops .up} := by
  rw [h]
  exact ⟨rfl, State.changesOnly_mono (State.answerLink_frame till bay outcome (State.changesOnly_refl _ ∅))
    (by simp [Set.insert_subset_iff])⟩

end

/-- Settles O13, row by row of R21: the rows without an effect by `linkTaken_idle`, APPLIED and PENDING by their own equations. -/
theorem linkIsAnswered : Obligations.LinkIsAnswered := by
  unfold Obligations.LinkIsAnswered
  intro s f bay token allowance extra hears hsrc hdest hkind ha hp
  refine ⟨_, _, exec_linkFrame_taken hears hsrc hdest hkind ha hp, s.linkTaken_appends f.source bay token allowance,
    fun hbay => ?_, fun b hb => ?_⟩
  · exact s.linkTaken_idle f.source bay token allowance ((s.countReceived .up).takeLink_badBay token allowance hbay)
  intro x running waits room
  have htaken : s.linkTaken bay token allowance = (s.countReceived .up).takeLink b.val token allowance := by
    rw [State.linkTaken, hb]
  have hroom : (s.countReceived .up).linkRoom b ↔ room := by simp [State.linkRoom, room]
  refine ⟨fun hrun hlink => ?applied, fun hrun hlink => ?alreadyLinked, fun hlate => ?late, fun hwait hr => ?stored,
    fun hwait hr => ?tableFull⟩
  case applied =>
    have hrow := State.takeLink_applied (s.countReceived .up) b token allowance (by simpa using hrun) (by simpa using hlink)
    rw [htaken, hrow]
    refine ⟨rfl, by simp [enterLink, x], ?_⟩
    exact State.changesOnly_mono (State.answerLink_frame f.source bay .applied (State.modSession_frame _ b _))
      (by simp [Set.insert_subset_iff])
  case alreadyLinked =>
    have hrow := State.takeLink_alreadyLinked (s.countReceived .up) b token allowance (by simpa using hrun)
      (by simpa using hlink)
    exact s.linkTaken_idle f.source bay token allowance (htaken.trans hrow)
  case late =>
    have hrow := State.takeLink_late (s.countReceived .up) b token allowance (by simpa using hlate)
    exact s.linkTaken_idle f.source bay token allowance (htaken.trans hrow)
  case stored =>
    have hrow := (State.takeLink_waiting (s.countReceived .up) b token allowance (by simpa using hwait)).trans
      (State.storeLink_stored _ b token allowance (hroom.mpr hr))
    rw [htaken, hrow]
    refine ⟨rfl, ⟨⟨b, token, allowance, s.now, false⟩, by simp [State.now], rfl, rfl, rfl, rfl⟩, ?_⟩
    exact State.changesOnly_mono (State.answerLink_frame f.source bay .pending (State.setLinks_frame _ _))
      (by simp [Set.insert_subset_iff])
  case tableFull =>
    have hrow := (State.takeLink_waiting (s.countReceived .up) b token allowance (by simpa using hwait)).trans
      (State.storeLink_tableFull _ b token allowance (hroom.not.mpr hr))
    exact s.linkTaken_idle f.source bay token allowance (htaken.trans hrow)

end Sys2Proof.Machine
end

section
/-! CANOPY_PASS_START (O52): the rows of R97, the search of R99 for the common cap, and the pass that steps 1 to 4 form. -/

namespace Sys2Proof.Machine

/-! ### One event (R174) -/

section
variable (work : State → State) (s : State)

@[simp] theorem inEvent_cc : (inEvent work s).cc = (work s).cc := by
  rcases inEvent_cases work s with ⟨-, e⟩ | ⟨-, -, e⟩ <;> simp [e]

@[simp] theorem inEvent_mr : (inEvent work s).mr = (work s).mr := by
  rcases inEvent_cases work s with ⟨-, e⟩ | ⟨-, -, e⟩ <;> simp [e]

@[simp] theorem inEvent_isPending (e : Event) : (inEvent work s).isPending e = (work s).isPending e := by
  simp [State.isPending]

variable {work s}

/-- An event changes what its work changes, and the Up queue or its drops by a STATUS frame. -/
theorem inEvent_frame {a : Set Part} (h : s.changesOnly (work s) a) :
    s.changesOnly (inEvent work s) (a ∪ {.queue .up, .drops .up}) := by
  rcases inEvent_cases work s with ⟨-, e⟩ | ⟨-, -, e⟩ <;> rw [e]
  · exact State.changesOnly_mono h Set.subset_union_left
  · exact State.changesOnly_trans h ((work s).offer_frame .up _)

end

/-- A raised event is pending (R173). -/
theorem State.isPending_raise (s : State) (e : Event) : (s.raise e).isPending e = true := by
  have hflag : (s.mr.events ||| e.flag) &&& e.flag = e.flag := by
    ext i; simp +contextual
  have hbit : e.flag ≠ 0 := by cases e <;> decide
  simpa [State.isPending, hflag] using hbit

/-! ### Step 2: the rows of R97 -/

section
variable (t : CanopyTable) (k1 : Nat)

theorem correctExport_none : correctExport t k1 none = k1 := rfl

variable {t} {w : Int}

theorem correctExport_above (h : t.limit < (-w).toNat) : correctExport t k1 (some w) = k1 + ((-w).toNat - t.limit) := by
  simp [correctExport, h]

theorem correctExport_import (h : 0 < w) :
    correctExport t k1 (some w) = k1 - ((t.limit - t.deadband) + w.toNat) := by
  have habove : ¬ t.limit < (-w).toNat := by omega
  simp only [correctExport, if_neg habove, if_pos h]

theorem correctExport_below (h : w ≤ 0) (hbelow : (-w).toNat < t.limit - t.deadband) :
    correctExport t k1 (some w) = k1 - (t.limit - t.deadband - (-w).toNat) := by
  have habove : ¬ t.limit < (-w).toNat := by omega
  have hedge : ((-w).toNat : Int) < (t.limit : Int) - t.deadband := by omega
  simp only [correctExport, if_neg habove, if_neg (not_lt.mpr h), if_pos hedge]

theorem correctExport_within (h : w ≤ 0) (hlimit : (-w).toNat ≤ t.limit) (hedge : t.limit - t.deadband ≤ (-w).toNat) :
    correctExport t k1 (some w) = k1 := by
  have hbelow : ¬ ((-w).toNat : Int) < (t.limit : Int) - t.deadband := by omega
  simp only [correctExport, if_neg (not_lt.mpr hlimit), if_neg (not_lt.mpr h), if_neg hbelow]

end

/-! ### Step 4: the common cap (R99) -/

section
variable (t : CanopyTable) (power : StringNo → Nat)

theorem le_topPower (j : StringNo) : power j ≤ topPower power := by
  rw [topPower, List.foldl_eq_foldr]
  exact List.le_max_of_le' 0 (List.mem_map_of_mem (List.mem_finRange j)) le_rfl

/-- A cap that no string's power exceeds leaves every enabled string its power. -/
theorem enabledPower_le_capSum {c : Nat} (h : topPower power ≤ c) : enabledPower t power ≤ capSum t power c := by
  refine List.sum_le_sum fun j _ => ?_
  have hj : power j ≤ c := (le_topPower power j).trans h
  split
  · simp [hj]
  · rfl

theorem commonCap_mod (target : Int) : commonCap t power target % 10 = 0 := Nat.mul_mod_right 10 _

variable {t power} {target : Int}

/-- The sum at the common cap is within the target, but where even the floors exceed it. -/
theorem capSum_commonCap :
    (capSum t power (commonCap t power target) : Int) ≤ target ∨
      (commonCap t power target = 0 ∧ target < (capSum t power 0 : Int)) := by
  obtain ⟨-, hzero | hfit, -⟩ :=
    greatest_spec (fun n => decide ((capSum t power (10 * n) : Int) ≤ target)) (topPower power / 10)
  · have hcap : commonCap t power target = 0 := by simp only [commonCap, hzero]
    rw [hcap]
    exact (le_or_gt _ target).imp_right fun hlt => ⟨rfl, hlt⟩
  · exact .inl (of_decide_eq_true hfit)

/-- No greater multiple of 10 W is within a target below the power of the enabled strings: the search rejects those up to the
greatest power, and beyond it a cap takes nothing from any string. -/
theorem target_lt_capSum (h : target < enabledPower t power) {c : Nat} (hten : c % 10 = 0)
    (hc : commonCap t power target < c) : target < (capSum t power c : Int) := by
  obtain ⟨n, rfl⟩ : ∃ n, c = 10 * n := ⟨c / 10, by omega⟩
  obtain ⟨-, -, hmax⟩ :=
    greatest_spec (fun n => decide ((capSum t power (10 * n) : Int) ≤ target)) (topPower power / 10)
  rcases Nat.lt_or_ge (topPower power / 10) n with hbeyond | hsearched
  · have hsum := enabledPower_le_capSum t power (c := 10 * n) (by omega)
    omega
  · have hreject := hmax n (by simpa [commonCap] using hc) hsearched
    simpa using hreject

end

/-! ### The pass -/

/-- S_en − K, the target of step 4 (R99). -/
def State.passTarget (s : State) : Int := (enabledPower s.cc.table s.stringPower : Int) - s.passAmount

/-- The common cap that step 4 forms from the snapshot (R99). -/
def State.passCap (s : State) : Nat := commonCap s.cc.table s.stringPower s.passTarget

/-- The pass that steps 1 to 4 put in flight. -/
def State.formedPass (s : State) : CanopyPass where
  amount := s.passAmount
  caps := Vector.ofFn fun j : StringNo =>
    if s.passAmount ≠ 0 ∧ s.cc.table.on j then some (max s.cc.table.strings[j].floor s.passCap) else none
  enabled := Vector.ofFn s.cc.table.on
  formed := if s.passAmount = 0 then none else some (s.passTarget, s.passCap)

/-- A state with its timer stopped and a pass in flight. -/
def State.flyPass (s : State) (p : CanopyPass) : State :=
  { s with cc.timer := Countdown.load 0, cc.pass := some p }

theorem State.flyPass_frame (s : State) (p : CanopyPass) : s.changesOnly (s.flyPass p) {.canopyTimer, .canopyPass} := by
  intro part hp
  cases part <;> simp_all [State.same, State.flyPass, State.bay, State.port]

section
variable (s : State)

/-- A canopy pass puts the formed pass in flight, and raises CURTAIL_FLOOR where K is above 0 and the floors exceed the
target. -/
theorem State.startCanopyPass_eq :
    s.startCanopyPass = (s.flyPass s.formedPass).raiseIf
      (decide (s.passAmount ≠ 0) && floorsExceed s.cc.table s.stringPower s.passTarget) .curtailFloor := by
  unfold State.startCanopyPass
  by_cases h : s.passAmount = 0
  · have hcaps : (Vector.replicate 8 none : Vector (Option Nat) 8) = Vector.ofFn fun _ => none := by ext; simp
    simp [h, State.flyPass, State.formedPass, hcaps]
  · have hpower : ({ s with cc.timer := Countdown.load 0 } : State).stringPower = s.stringPower := rfl
    simp [h, hpower, State.flyPass, State.formedPass, State.passTarget, State.passCap]

theorem State.startCanopyPass_frame : s.changesOnly s.startCanopyPass {.canopyTimer, .canopyPass, .events} := by
  rw [s.startCanopyPass_eq]
  exact State.changesOnly_mono (State.changesOnly_trans (s.flyPass_frame _) (State.raiseIf_frame _ _ _))
    (by simp [Set.insert_subset_iff])

@[simp] theorem State.startCanopyPass_pass : s.startCanopyPass.cc.pass = some s.formedPass := by
  simp [s.startCanopyPass_eq, State.flyPass]

@[simp] theorem State.formedPass_amount : s.formedPass.amount = s.passAmount := rfl

@[simp] theorem State.formedPass_enabled (j : StringNo) : s.formedPass.enabled[j] = s.cc.table.strings[j].enabled := by
  simp [State.formedPass, CanopyTable.on]

theorem State.formedPass_caps_none (h : s.passAmount = 0) (j : StringNo) : s.formedPass.caps[j] = none := by
  simp [State.formedPass, h]

variable {s}

theorem State.formedPass_formed (h : 0 < s.passAmount) : s.formedPass.formed = some (s.passTarget, s.passCap) :=
  if_neg h.ne'

theorem State.formedPass_caps (h : 0 < s.passAmount) (j : StringNo) :
    s.formedPass.caps[j] =
      if s.cc.table.strings[j].enabled then some (max s.cc.table.strings[j].floor s.passCap) else none := by
  simp [State.formedPass, h.ne', CanopyTable.on]

theorem State.startCanopyPass_curtailFloor (h : 0 < s.passAmount)
    (hfloors : s.passTarget < (capSum s.cc.table s.stringPower 0 : Int)) :
    s.startCanopyPass.isPending .curtailFloor = true := by
  have hraise : (decide (s.passAmount ≠ 0) && floorsExceed s.cc.table s.stringPower s.passTarget) = true := by
    simp [floorsExceed, h.ne', hfloors]
  rw [s.startCanopyPass_eq, hraise]
  exact State.isPending_raise _ _

/-- A pass whose timer has run out begins with no other in flight (R94). -/
theorem exec_canopyPassStart_due (hpow : s.powered = true) (hdue : s.cc.timer.due = true) (hpass : s.cc.pass = none) :
    exec .canopyPassStart s = .next (inEvent State.startCanopyPass s) := by
  have hcanopy : s.canopyDue = true := by simp [State.canopyDue, hdue, hpass]
  have hexec : exec .canopyPassStart s = takeEvent (fun t => if t.canopyDue then t.startCanopyPass else t) s := rfl
  rw [hexec, takeEvent_powered _ hpow]
  simp [inEvent, hcanopy]

end

/-- Settles O52: K2 by the rows of R97, and the common cap by the search of R99, whose target is below the power of the enabled
strings because K is above 0. -/
theorem canopyPassBegins : Obligations.CanopyPassBegins := by
  unfold Obligations.CanopyPassBegins
  intro s hpow hdue hpass table k1 ratings sumAt power
  refine ⟨_, s.formedPass, correctExport table k1 s.gridPower, exec_canopyPassStart_due hpow hdue hpass, by simp,
    fun hnone => ?none, fun w hw => ?rows, s.formedPass_enabled, rfl, s.formedPass_caps_none, fun hamount => ?caps, ?frame⟩
  case none => rw [hnone, correctExport_none]
  case rows =>
    rw [hw]
    exact ⟨correctExport_above k1, correctExport_import k1, correctExport_below k1, correctExport_within k1⟩
  case caps =>
    have htarget : s.passTarget < (enabledPower table s.stringPower : Int) := by
      simp only [State.formedPass_amount] at hamount
      simp only [State.passTarget, table]
      omega
    refine ⟨s.passCap, State.formedPass_formed hamount, commonCap_mod _ _ _, State.formedPass_caps hamount, ?_,
      fun _ => target_lt_capSum htarget⟩
    refine capSum_commonCap.imp_right fun ⟨hzero, hfloors⟩ => ⟨hzero, hfloors, ?_⟩
    rw [inEvent_isPending]
    exact State.startCanopyPass_curtailFloor hamount hfloors
  case frame =>
    exact State.changesOnly_mono (inEvent_frame s.startCanopyPass_frame) (by simp [raisedParts, Set.insert_subset_iff])

end Sys2Proof.Machine
end

section
/-! The frame of each operation of the model: the parts of State that it may change. -/

namespace Sys2Proof.Machine

/-! ### Frames of composed operations -/

section
variable {s t u : State} {a b c : Set Part}

theorem State.changesOnly_seq (h : s.changesOnly t a) (k : t.changesOnly u b) (ha : a ⊆ c) (hb : b ⊆ c) :
    s.changesOnly u c :=
  State.changesOnly_within (State.changesOnly_mono h ha) (State.changesOnly_mono k hb)

theorem State.changesOnly_ite (p : Prop) [Decidable p] (h : s.changesOnly t a) (k : s.changesOnly u a) :
    s.changesOnly (if p then t else u) a := by
  split <;> assumption

theorem State.changesOnly_foldl {α : Type} {f : State → α → State} (h : ∀ (s : State) x, s.changesOnly (f s x) a)
    (l : List α) (s : State) : s.changesOnly (l.foldl f s) a := by
  induction l generalizing s with
  | nil => exact s.changesOnly_refl a
  | cons x l ih => exact State.changesOnly_within (h s x) (ih _)

end

/-! ### Line Interface and Frame Screen -/

section
variable (s : State)

theorem State.offerAll_frame (p : Port) (l : List Queued) : s.changesOnly (s.offerAll p l) {.queue p, .drops p} := by
  refine State.changesOnly_ite _ ?_ ?_
  · exact State.changesOnly_mono (s.setQueue_frame p _) (by simp)
  · exact State.changesOnly_mono (s.countDrops_frame p _) (by simp)

theorem State.sendStatus_frame : s.changesOnly s.sendStatus {.queue .up, .drops .up} := s.offer_frame .up _

theorem State.answer_frame (dest : Byte) (payload : List Byte) :
    s.changesOnly (s.answer dest payload) {.queue .up, .drops .up} := s.offer_frame .up _

theorem State.forward_frame (p : Port) (f : Frame) : s.changesOnly (s.forward p f) {.queue p, .drops p} := s.offer_frame p _

theorem State.setCount_frame (pos : Position) (n : Nat) :
    s.changesOnly { s with fs.counts := s.fs.counts.set pos n } {.forwardCount pos} := by
  intro part hp
  cases part with
  | forwardCount other =>
    have h : (pos : Nat) ≠ other := fun e => hp (by rw [Fin.ext e]; rfl)
    simp [State.same, Vector.getElem_set_ne, h]
  | _ => first | rfl | exact ⟨rfl, rfl⟩ | exact ⟨rfl, rfl, rfl⟩

theorem State.forwardSample_frame (pos : Position) (e : Station) (f : Frame) :
    s.changesOnly (s.forwardSample pos e f) {.forwardCount pos, .queue .up, .drops .up} := by
  have hcount := s.setCount_frame pos ((s.fs.counts[pos] + 1) % e.divider)
  refine State.changesOnly_ite _ ?_ ?_
  · exact State.changesOnly_seq hcount (State.forward_frame _ .up f) (by simp) (by simp)
  · exact State.changesOnly_mono hcount (by simp)

/-- A change of the line counters of a port changes those alone. -/
theorem State.modCounters_frame (p : Port) {g : PortCounters → PortCounters} (h : ∀ c, (g c).drop = c.drop) :
    s.changesOnly (s.modCounters p g) {.counters p} := by
  intro part hp
  cases p <;> cases part <;>
    first
    | rfl
    | exact ⟨rfl, rfl⟩
    | exact ⟨rfl, rfl, rfl⟩
    | (rename_i r; cases r <;> first | rfl | exact h _ | exact absurd rfl hp)

theorem State.dropFrame_frame (p : Port) (r : Reception) : s.changesOnly (s.dropFrame p r) {.counters p, .events} := by
  have counted (v : Verdict) : s.changesOnly ((s.modCounters p v.count).raise .lineError) {.counters p, .events} :=
    State.changesOnly_seq (s.modCounters_frame p fun c => by cases v <;> rfl) (State.raise_frame _ _) (by simp) (by simp)
  unfold State.dropFrame
  refine State.changesOnly_ite _ (s.changesOnly_refl _) ?_
  cases judge r with
  | good f => exact s.changesOnly_refl _
  | oversize | fragment | crcError => exact counted _

theorem State.forwardUpFrame_frame (f : Frame) :
    s.changesOnly (State.forwardUpFrame f s) ({.unknownStation, .queue .up, .drops .up} ∪ Set.range .forwardCount) := by
  unfold State.forwardUpFrame
  split
  · have hcount : s.changesOnly { s with fs.unknownStation := bump s.fs.unknownStation } {.unknownStation} := by
      intro part hp
      cases part <;> first | exact absurd rfl hp | exact ⟨rfl, rfl⟩ | exact ⟨rfl, rfl, rfl⟩ | rfl
    exact State.changesOnly_seq hcount (State.forward_frame _ .up f) (by simp) (by simp [Set.insert_subset_iff])
  · refine State.changesOnly_ite _ ?_ ?_
    · exact State.changesOnly_mono (s.forwardSample_frame _ _ _) (by simp [Set.insert_subset_iff])
    · exact State.changesOnly_mono (s.forward_frame .up f) (by simp [Set.insert_subset_iff])

theorem State.forwardDownFrame_frame (f : Frame) :
    s.changesOnly (State.forwardDownFrame f s) {.limitClamps, .queue .down, .drops .down} := by
  refine State.changesOnly_ite _ ?_ ?_
  · exact State.changesOnly_mono s.countClamp_frame (by simp)
  · exact State.changesOnly_mono (s.forward_frame .down f) (by simp)

theorem State.forwardHeld_frame (f : Frame) (v : Int) :
    s.changesOnly (s.forwardHeld f v).1 {.limitClamps, .queue .down, .drops .down} := by
  unfold State.forwardHeld
  split
  · exact State.changesOnly_mono (s.offer_frame .down _) (by simp)
  · exact State.changesOnly_seq s.countClamp_frame (State.offer_frame _ .down _) (by simp) (by simp)

theorem State.takeManual_frame (v : Int) : s.changesOnly (s.takeManual v) {.battery} := by
  intro part hp
  cases part <;> first | exact absurd rfl hp | exact ⟨rfl, rfl⟩ | exact ⟨rfl, rfl, rfl⟩ | rfl

theorem State.screenLimit_frame (f : Frame) :
    s.changesOnly (State.screenLimit f s) {.limitClamps, .autoBatteryDrops, .queue .down, .drops .down, .battery} := by
  have clamped : s.changesOnly s.countClamp {.limitClamps, .autoBatteryDrops, .queue .down, .drops .down, .battery} :=
    State.changesOnly_mono s.countClamp_frame (by simp)
  have held (v : Int) :
      s.changesOnly (s.forwardHeld f v).1 {.limitClamps, .autoBatteryDrops, .queue .down, .drops .down, .battery} :=
    State.changesOnly_mono (s.forwardHeld_frame f v) (by simp [Set.insert_subset_iff])
  unfold State.screenLimit
  split
  · exact s.changesOnly_refl _
  · split
    · exact State.changesOnly_mono (s.forward_frame .down f) (by simp [Set.insert_subset_iff])
    · refine State.changesOnly_ite _ ?_ ?_
      · exact State.changesOnly_seq s.countAutoDrop_frame (State.countClamp_frame _) (by simp) (by simp)
      · exact State.changesOnly_mono s.countAutoDrop_frame (by simp)
    · exact State.changesOnly_ite _ clamped (held _)
    · refine State.changesOnly_ite _ clamped ?_
      exact State.changesOnly_ite _ (State.changesOnly_seq (held _) (State.takeManual_frame _ _) subset_rfl (by simp)) (held _)

theorem State.startTransmission_frame (p : Port) : s.changesOnly (s.startTransmission p) {.queue p, .sending p} := by
  unfold State.startTransmission
  split
  · intro part hp
    cases p <;> cases part <;>
      first
      | rfl
      | exact ⟨rfl, rfl⟩
      | exact ⟨rfl, rfl, rfl⟩
      | (rename_i r; cases r <;> first | rfl | simp at hp)
  · exact s.changesOnly_refl _

theorem State.answerSent_frame (q : Queued) : s.changesOnly (s.answerSent q) {.restart} := by
  refine State.changesOnly_ite _ ?_ (s.changesOnly_refl _)
  intro part hp
  cases part <;> first | exact absurd rfl hp | exact ⟨rfl, rfl⟩ | exact ⟨rfl, rfl, rfl⟩ | rfl

theorem State.endTransmission_frame (p : Port) : s.changesOnly (s.endTransmission p) {.sending p, .restart} := by
  unfold State.endTransmission
  split
  · refine State.changesOnly_seq (a := {.sending p}) ?_ (State.answerSent_frame _ _) (by simp) (by simp)
    intro part hp
    cases p <;> cases part <;>
      first
      | rfl
      | exact ⟨rfl, rfl⟩
      | exact ⟨rfl, rfl, rfl⟩
      | (rename_i r; cases r <;> first | rfl | simp at hp)
  · exact s.changesOnly_refl _

theorem State.receiverReady_frame (p : Port) : s.changesOnly (s.receiverReady p) {.waiting p} := by
  intro part hp
  cases p <;> cases part <;>
    first
    | rfl
    | exact ⟨rfl, rfl⟩
    | exact ⟨rfl, rfl, rfl⟩
    | (rename_i r; cases r <;> first | rfl | simp at hp)

end

end Sys2Proof.Machine
end

section
/-! The frames of Battery Dispatch, the Receipt Queue and the Session Manager. -/

namespace Sys2Proof.Machine

/-! ### Battery Dispatch (chapter 4) -/

section
variable (s : State)

theorem State.setSent_frame (x : Option SentSetpoint) : s.changesOnly { s with bd.sent := x } {.battery} := by
  intro part hp
  cases part <;> first | exact absurd rfl hp | exact ⟨rfl, rfl⟩ | exact ⟨rfl, rfl, rfl⟩ | rfl

theorem State.sendSetpoint_frame (p : Int) :
    s.changesOnly (s.sendSetpoint p) {.battery, .queue .down, .drops .down} := by
  unfold State.sendSetpoint
  split
  · exact s.changesOnly_refl _
  · have hoffer := s.offer_frame .down ⟨s.ownFrame (by assumption) kindLimit (limitPayload p), .limit⟩
    refine State.changesOnly_ite _ ?_ ?_
    · exact State.changesOnly_seq hoffer (State.setSent_frame _ _) (by simp) (by simp)
    · exact State.changesOnly_mono hoffer (by simp)

theorem State.evaluate_frame : s.changesOnly s.evaluate ({.battery, .events, .queue .down} : Set Part) :=
  s.evaluateWith_frame []

theorem State.batteryPass_frame :
    s.changesOnly s.batteryPass ({.battery, .events, .queue .down, .drops .down} : Set Part) := by
  have heval : s.changesOnly s.evaluate ({.battery, .events, .queue .down, .drops .down} : Set Part) :=
    State.changesOnly_mono s.evaluate_frame (by simp [Set.insert_subset_iff])
  unfold State.batteryPass
  simp only
  split
  · exact heval
  · exact heval
  · exact heval
  · refine State.changesOnly_ite _ ?_ heval
    exact State.changesOnly_seq heval (State.sendSetpoint_frame _ _) subset_rfl (by simp [Set.insert_subset_iff])

theorem State.topUp_frame : s.changesOnly s.topUp.1 ({.battery, .events, .queue .down} : Set Part) := by
  have hflag : s.changesOnly { s with bd.topUp := true } {.battery} := by
    intro part hp
    cases part <;> first | exact absurd rfl hp | exact ⟨rfl, rfl⟩ | exact ⟨rfl, rfl, rfl⟩ | rfl
  unfold State.topUp
  simp only
  split
  · exact State.changesOnly_seq hflag (State.evaluate_frame _) (by simp) subset_rfl
  · exact s.changesOnly_refl _

theorem State.takeBatteryTable_frame (t : BatteryTable) :
    s.changesOnly (s.takeBatteryTable t) ({.batteryTable, .battery, .events, .queue .down} : Set Part) := by
  have htable : s.changesOnly { s with bd.table := t } {.batteryTable} := by
    intro part hp
    cases part <;> first | exact absurd rfl hp | exact ⟨rfl, rfl⟩ | exact ⟨rfl, rfl, rfl⟩ | rfl
  have hforget (u : State) : u.changesOnly { u with bd.topUp := false, bd.manual := 0, bd.sent := none } {.battery} := by
    intro part hp
    cases part <;> first | exact absurd rfl hp | exact ⟨rfl, rfl⟩ | exact ⟨rfl, rfl, rfl⟩ | rfl
  have hcontrol (u : State) (l : List Byte) (p : Prop) [Decidable p] :
      u.changesOnly (if p then u.withdraw l else u) ({.queue .down} : Set Part) :=
    State.changesOnly_ite _ (u.withdraw_frame l) (u.changesOnly_refl _)
  refine State.changesOnly_seq (State.changesOnly_seq (c := {.batteryTable, .battery, .events, .queue .down}) htable
    (State.changesOnly_ite _ ?_ ?_) (by simp) subset_rfl) (State.evaluate_frame _) subset_rfl
    (by simp)
  · exact State.changesOnly_refl _ _
  · exact State.changesOnly_seq (hforget _) (hcontrol _ _ _) (by simp) (by simp)

/-! ### Receipt Queue (chapter 7) -/

/-- A change of the Receipt Queue changes that part alone. -/
theorem State.setReceipts_frame (x : ReceiptState) : s.changesOnly { s with rq := x } {.receipts} := by
  intro part hp
  cases part <;> first | exact absurd rfl hp | exact ⟨rfl, rfl⟩ | exact ⟨rfl, rfl, rfl⟩ | rfl

theorem State.buildReceipt_frame (b : BayNo) :
    s.changesOnly (s.buildReceipt b) {.receipts, .queue .up, .drops .up} :=
  State.changesOnly_seq (s.setReceipts_frame _) (State.offerAll_frame _ .up _) (by simp) (by simp)

theorem State.evalHigh_frame : s.changesOnly s.evalHigh {.receipts, .events} :=
  State.changesOnly_seq (s.setReceipts_frame _) (State.raiseIf_frame _ _ _) (by simp) (by simp)

/-! ### Session Manager (chapter 1) -/

theorem State.blockedGrant_frame (b : BayNo) : s.changesOnly (s.blockedGrant b) {.queue .down, .drops .down} := by
  unfold State.blockedGrant
  split
  · exact s.offer_frame .down _
  · exact s.changesOnly_refl _

/-- A new held list changes that list alone. -/
theorem State.setHeld_frame (l : List BayNo) : s.changesOnly { s with held := l } {.held} := by
  intro part hp
  cases part <;> first | exact absurd rfl hp | exact ⟨rfl, rfl⟩ | exact ⟨rfl, rfl, rfl⟩ | rfl

/-- A replaced bay record changes the parts of that bay alone. -/
theorem State.setBay_frame (b : BayNo) (x : Bay) :
    s.changesOnly (s.setBay b x) {.config b, .session b, .metering b, .grant b} := by
  intro part hp
  cases part with
  | config c | session c | metering c | grant c =>
    have h : c ≠ b := fun e => hp (by simp [e])
    simp [State.same, State.setBay_other _ _ h]
  | _ => first | rfl | exact ⟨rfl, rfl⟩ | exact ⟨rfl, rfl, rfl⟩

/-- A bay record replaced but for some of its parts leaves those. -/
theorem State.setBay_frame_of {b : BayNo} {x : Bay} {a : Set Part} (hc : x.config = (s.bay b).config ∨ .config b ∈ a)
    (hs : x.session = (s.bay b).session ∨ .session b ∈ a) (hm : x.metering = (s.bay b).metering ∨ .metering b ∈ a)
    (hg : x.alloc = (s.bay b).alloc ∨ .grant b ∈ a) : s.changesOnly (s.setBay b x) a := by
  intro part hp
  by_cases hb : part ∈ ({.config b, .session b, .metering b, .grant b} : Set Part)
  · simp only [Set.mem_insert_iff, Set.mem_singleton_iff] at hb
    rcases hb with rfl | rfl | rfl | rfl
    · simpa [State.same] using hc.resolve_right hp
    · simpa [State.same] using hs.resolve_right hp
    · simpa [State.same] using hm.resolve_right hp
    · simpa [State.same] using hg.resolve_right hp
  · exact s.setBay_frame b x part hb

theorem State.openSession_frame (b : BayNo) (f : Figures) :
    s.changesOnly (s.openSession b f) {.session b, .metering b, .links} := by
  refine State.changesOnly_seq (a := {.session b, .metering b}) ?_ (State.setLinks_frame _ _) (by simp) (by simp)
  exact s.setBay_frame_of (.inl rfl) (.inr (by simp)) (.inr (by simp)) (.inl rfl)

theorem State.close_frame (b : BayNo) (reason : EndReason) : s.changesOnly (s.close b reason) {.session b} :=
  s.modSession_frame b _

/-- With room in the receipt queue a finalisation builds a receipt. -/
theorem State.finalise_frame_room {s : State} (h : s.rq.receipts.length < receiptSlots) (b : BayNo) (reason : EndReason)
    (final : Option Register) :
    s.changesOnly (s.finalise b reason final) {.session b, .receipts, .events, .queue .up, .drops .up} := by
  unfold State.finalise
  rw [if_pos (by simpa using h)]
  refine State.changesOnly_seq (State.changesOnly_seq (s.modSession_frame b _) (State.changesOnly_seq
    (c := {.receipts, .events, .queue .up, .drops .up}) (State.buildReceipt_frame _ b)
    (State.evalHigh_frame _) ?_ ?_) ?_ ?_) (State.modSession_frame _ b _) subset_rfl ?_ <;> simp [Set.insert_subset_iff]

/-- With a full receipt queue a finalisation holds the bay. -/
theorem State.finalise_frame_full {s : State} (h : receiptSlots ≤ s.rq.receipts.length) (b : BayNo) (reason : EndReason)
    (final : Option Register) :
    s.changesOnly (s.finalise b reason final) {.session b, .held, .events, .queue .down, .drops .down} := by
  unfold State.finalise
  rw [if_neg (by simpa using h)]
  have blocked (u : State) (p : Prop) [Decidable p] :
      u.changesOnly (if p then u.blockedGrant b else u) {.queue .down, .drops .down} :=
    State.changesOnly_ite _ (u.blockedGrant_frame b) (u.changesOnly_refl _)
  refine State.changesOnly_seq (State.changesOnly_seq (State.changesOnly_seq (State.changesOnly_seq
    (s.modSession_frame b _) (State.modSession_frame _ b _) subset_rfl subset_rfl) (State.setHeld_frame _ _)
    (c := {.session b, .held}) ?_ ?_) (State.raise_frame _ _) (c := {.session b, .held, .events}) ?_ ?_)
    (blocked _ _) ?_ ?_ <;> simp [Set.insert_subset_iff]

/-- The parts that a finalisation at a bay may change. -/
def finalisedParts (b : BayNo) : Set Part :=
  {.session b, .receipts, .held, .events, .queue .up, .drops .up, .queue .down, .drops .down}

theorem State.finalise_frame (b : BayNo) (reason : EndReason) (final : Option Register) :
    s.changesOnly (s.finalise b reason final) (finalisedParts b) := by
  rcases Nat.lt_or_ge s.rq.receipts.length receiptSlots with h | h
  · exact State.changesOnly_mono (State.finalise_frame_room h b reason final) (by simp [finalisedParts, Set.insert_subset_iff])
  · exact State.changesOnly_mono (State.finalise_frame_full h b reason final) (by simp [finalisedParts, Set.insert_subset_iff])

theorem State.demandRunning_frame (b : BayNo) (f : Figures) : s.changesOnly (s.demandRunning b f) (finalisedParts b) := by
  unfold State.demandRunning
  cases f.state with
  | connected | requesting | ending => exact State.changesOnly_mono (s.modSession_frame b _) (by simp [finalisedParts])
  | ended | available | fault => exact s.finalise_frame b _ _

theorem State.demandClosing_frame (b : BayNo) (f : Figures) : s.changesOnly (s.demandClosing b f) (finalisedParts b) := by
  unfold State.demandClosing
  cases f.state with
  | connected | requesting | ending => exact s.changesOnly_refl _
  | ended | available | fault => exact s.finalise_frame b _ _

theorem State.demandHeld_frame (b : BayNo) (f : Figures) :
    s.changesOnly (s.demandHeld b f) {.session b, .queue .down, .drops .down} := by
  have hflag := s.modSession_frame b fun x => { x with blocked := f.plugged }
  refine State.changesOnly_ite _ ?_ ?_
  · exact State.changesOnly_seq hflag (State.blockedGrant_frame _ b) (by simp) (by simp)
  · exact State.changesOnly_mono hflag (by simp)

theorem State.demand_frame (b : BayNo) (f : Figures) :
    s.changesOnly (s.demand b f) (finalisedParts b ∪ {.metering b, .links}) := by
  have hfigures := s.modSession_frame b fun x => { x with figures := some f }
  unfold State.demand
  dsimp only
  generalize (s.modSession b fun x => { x with figures := some f }) = t at hfigures ⊢
  refine State.changesOnly_seq hfigures (b := finalisedParts b ∪ {.metering b, .links}) ?_ (by simp [finalisedParts])
    subset_rfl
  cases (t.bay b).session.state with
  | vacant =>
    refine State.changesOnly_ite _ ?_ (t.changesOnly_refl _)
    exact State.changesOnly_mono (t.openSession_frame b f) (by simp [finalisedParts, Set.insert_subset_iff])
  | disabled => exact t.changesOnly_refl _
  | connected | active | silent => exact State.changesOnly_mono (t.demandRunning_frame b f) Set.subset_union_left
  | closing => exact State.changesOnly_mono (t.demandClosing_frame b f) Set.subset_union_left
  | held => exact State.changesOnly_mono (t.demandHeld_frame b f) (by simp [finalisedParts, Set.insert_subset_iff])

theorem State.goSilent_frame (b : BayNo) : s.changesOnly (s.goSilent b) {.session b, .events} :=
  State.changesOnly_seq (s.modSession_frame b _) (State.raise_frame _ _) (by simp) (by simp)

theorem State.handOver_frame (b : BayNo) (rest : List BayNo) :
    s.changesOnly (s.handOver b rest)
      {.held, .receipts, .queue .up, .drops .up, .session b, .metering b, .links} := by
  have hbuilt : s.changesOnly (({ s with held := rest } : State).buildReceipt b)
      {.held, .receipts, .queue .up, .drops .up, .session b, .metering b, .links} :=
    State.changesOnly_seq (s.setHeld_frame rest) (State.buildReceipt_frame _ b) (by simp) (by simp [Set.insert_subset_iff])
  unfold State.handOver
  generalize ({ s with held := rest } : State).buildReceipt b = t at hbuilt
  have hfreed (g : Session → Session) :
      s.changesOnly (t.modSession b g) {.held, .receipts, .queue .up, .drops .up, .session b, .metering b, .links} :=
    State.changesOnly_seq hbuilt (t.modSession_frame b g) subset_rfl (by simp)
  simp only
  split
  · refine State.changesOnly_ite _ ?_ (hfreed _)
    exact State.changesOnly_seq hbuilt (t.openSession_frame b _) subset_rfl (by simp [Set.insert_subset_iff])
  · exact hfreed _

/-- The parts that the release of a receipt may change, the head of the held list being that of the bays in `heads`. -/
def releasedParts (heads : Set BayNo) : Set Part :=
  {.receipts, .held, .events, .queue .up, .drops .up, .links} ∪ Part.session '' heads ∪ Part.metering '' heads

theorem State.releaseOldest_frame : s.changesOnly s.releaseOldest (releasedParts {b | s.held.head? = some b}) := by
  unfold State.releaseOldest
  simp only
  split
  · refine State.changesOnly_seq (s.setReceipts_frame _) (State.evalHigh_frame _) ?_ ?_ <;>
      simp [releasedParts, Set.insert_subset_iff]
  next b rest h =>
    refine State.changesOnly_seq (State.changesOnly_seq (s.setReceipts_frame _) (State.handOver_frame _ b rest) ?_ ?_)
      (State.evalHigh_frame _) subset_rfl ?_ <;> simp [releasedParts, Set.insert_subset_iff, h]

theorem State.release_frame (number : BitVec 32) :
    s.changesOnly (s.release number).1 (releasedParts {b | s.held.head? = some b}) := by
  unfold State.release
  split
  · exact s.changesOnly_refl _
  · split
    · exact s.releaseOldest_frame
    · split <;> exact s.changesOnly_refl _

theorem State.takeLink_frame (bay : Nat) (token : BitVec 64) (allowance : Nat) :
    s.changesOnly (s.takeLink bay token allowance).1 ({.links} ∪ Set.range .session) := by
  rcases s.takeLink_cases token allowance bay with e | ⟨b, g, e⟩ | ⟨l, e⟩ <;> rw [e]
  · exact s.changesOnly_refl _
  · exact State.changesOnly_mono (s.modSession_frame b g) (by simp)
  · exact State.changesOnly_mono (s.setLinks_frame l) (by simp)

theorem State.linkFrame_frame (f : Frame) :
    s.changesOnly (State.linkFrame f s) ({.ownAddressDrops, .links, .queue .up, .drops .up} ∪ Set.range .session) := by
  refine State.changesOnly_ite _ ?_ ?_
  · exact State.changesOnly_mono s.countOwnDrop_frame (by simp)
  · refine State.changesOnly_seq (s.takeLink_frame _ _ _) (State.offer_frame _ .up _) ?_ ?_ <;>
      simp [Set.insert_subset_iff]

theorem State.expireLink_frame (b : BayNo) : s.changesOnly (s.expireLink b) {.links, .events} :=
  State.changesOnly_seq (s.setLinks_frame _) (State.raise_frame _ _) (by simp) (by simp)

theorem State.forceClose_frame (bay : Nat) : s.changesOnly (s.forceClose bay).1 (Set.range .session) := by
  unfold State.forceClose
  split
  · simp only
    split
    · exact State.changesOnly_mono (s.close_frame _ _) (by simp)
    · exact State.changesOnly_mono (s.close_frame _ _) (by simp)
    · exact State.changesOnly_mono (s.close_frame _ _) (by simp)
    all_goals exact s.changesOnly_refl _
  · exact s.changesOnly_refl _

theorem State.changeEnabled_frame (b : BayNo) (enabled : Bool) :
    s.changesOnly (s.changeEnabled b enabled) {.session b} := by
  unfold State.changeEnabled
  split
  all_goals first | exact s.modSession_frame b _ | exact s.changesOnly_refl _

theorem State.takeBayConfig_frame (b : BayNo) (c : BayConfig) :
    s.changesOnly (s.takeBayConfig b c) {.config b, .session b} := by
  have hconfig : s.changesOnly (s.setBay b { s.bay b with config := c }) {.config b, .session b} :=
    s.setBay_frame_of (.inr (by simp)) (.inl rfl) (.inl rfl) (.inl rfl)
  refine State.changesOnly_ite _ hconfig ?_
  exact State.changesOnly_seq hconfig (State.changeEnabled_frame _ b _) subset_rfl (by simp)

theorem State.silenceExpiry_frame (b : BayNo) : s.changesOnly (s.silenceExpiry b) {.session b, .events} := by
  unfold State.silenceExpiry
  cases (s.bay b).session.state with
  | connected | active => exact State.changesOnly_ite _ (s.goSilent_frame b) (s.changesOnly_refl _)
  | vacant | silent | closing | held | disabled => exact s.changesOnly_refl _

theorem State.silentCloseExpiry_frame (b : BayNo) : s.changesOnly (s.silentCloseExpiry b) (finalisedParts b) := by
  unfold State.silentCloseExpiry
  cases (s.bay b).session.state with
  | silent => exact State.changesOnly_ite _ (s.finalise_frame b _ _) (s.changesOnly_refl _)
  | vacant | connected | active | closing | held | disabled => exact s.changesOnly_refl _

theorem State.closeHoldExpiry_frame (b : BayNo) : s.changesOnly (s.closeHoldExpiry b) (finalisedParts b) := by
  unfold State.closeHoldExpiry
  cases (s.bay b).session.state with
  | closing => exact State.changesOnly_ite _ (s.finalise_frame b _ _) (s.changesOnly_refl _)
  | vacant | connected | active | silent | held | disabled => exact s.changesOnly_refl _

end

end Sys2Proof.Machine
end

section
/-! The frames of the Allocation Engine, Canopy Control, the Metering Unit and the Site Input Unit. -/

namespace Sys2Proof.Machine

section
variable (s : State)

/-- A change of every bay record changes the parts that it does not repeat. -/
theorem State.mapBays_frame {g : BayNo → Bay → Bay} {a : Set Part}
    (hc : ∀ b, (g b (s.bay b)).config = (s.bay b).config ∨ .config b ∈ a)
    (hs : ∀ b, (g b (s.bay b)).session = (s.bay b).session ∨ .session b ∈ a)
    (hm : ∀ b, (g b (s.bay b)).metering = (s.bay b).metering ∨ .metering b ∈ a)
    (hg : ∀ b, (g b (s.bay b)).alloc = (s.bay b).alloc ∨ .grant b ∈ a) : s.changesOnly (s.mapBays g) a := by
  intro part hp
  cases part with
  | config b => simpa [State.same] using (hc b).resolve_right hp
  | session b => simpa [State.same] using (hs b).resolve_right hp
  | metering b => simpa [State.same] using (hm b).resolve_right hp
  | grant b => simpa [State.same] using (hg b).resolve_right hp
  | _ => simp [State.same, State.port]

/-! ### Allocation Engine (chapter 3) -/

/-- The parts of the Allocation Engine that a pass may change before its publication. -/
def passParts : Set Part :=
  {.trim, .events, .allocTimer, .settle, .allocPass} ∪ Set.range .rotation ∪ Set.range .dwell

/-- A change of the Allocation Engine that keeps the balance record. -/
theorem State.setAlloc_frame (x : AllocState) (h : x.balance = s.ae.balance) :
    s.changesOnly { s with ae := x } passParts := by
  intro part hp
  cases part <;>
    first
    | rfl
    | exact ⟨rfl, rfl⟩
    | exact ⟨rfl, rfl, rfl⟩
    | exact h
    | exact absurd (by simp [passParts]) hp

theorem State.updateTrim_frame : s.changesOnly s.updateTrim passParts := by
  have htrim (n : Nat) : s.changesOnly { s with ae.trim := n } passParts := s.setAlloc_frame _ rfl
  exact State.changesOnly_seq (htrim _) (State.raiseIf_frame _ _ _) subset_rfl (by simp [passParts])

theorem State.startPass_frame : s.changesOnly s.startPass passParts := by
  have setAlloc {t : State} (ht : s.changesOnly t passParts) (x : AllocState) (h : x.balance = t.ae.balance) :
      s.changesOnly { t with ae := x } passParts := State.changesOnly_within ht (t.setAlloc_frame x h)
  have hsettled := s.setAlloc_frame
    { s.ae with timer := Countdown.load 0, settling := s.ae.settling && !s.settleEnds } rfl
  have hlists := setAlloc hsettled
    { s.ae with
      timer := Countdown.load 0, settling := s.ae.settling && !s.settleEnds
      lists := Vector.ofFn
        ({ s with ae.timer := Countdown.load 0, ae.settling := s.ae.settling && !s.settleEnds } : State).maintained } rfl
  change s.changesOnly (State.runPass (State.maintainLists _) _) _
  change s.changesOnly (State.maintainLists _) _ at hlists
  generalize State.maintainLists _ = t at hlists ⊢
  unfold State.runPass
  cases t.passBasis with
  | settle | fallback => exact setAlloc hlists _ rfl
  | frozen => exact setAlloc (State.changesOnly_within hlists t.updateTrim_frame) _ rfl
  | normal =>
    have hmarks : s.changesOnly t.applyMarks passParts := setAlloc hlists _ rfl
    exact setAlloc (State.changesOnly_within hmarks t.applyMarks.updateTrim_frame) _ rfl

theorem State.setBalance_frame (x : Balance) :
    s.changesOnly { s with ae.balance := x, ae.pass := none } {.balance, .allocPass} := by
  intro part hp
  cases part <;> first | rfl | exact ⟨rfl, rfl⟩ | exact ⟨rfl, rfl, rfl⟩ | simp at hp

theorem State.publishTable_frame (p : AllocPass) :
    s.changesOnly (s.publishTable p) ({.balance, .allocPass} ∪ Set.range .grant) := by
  refine State.changesOnly_seq (a := Set.range .grant) ?_ (State.setBalance_frame _ _) (by simp) (by simp)
  exact s.mapBays_frame (fun _ => .inl rfl) (fun _ => .inl rfl) (fun _ => .inl rfl) (fun _ => .inr (by simp))

theorem State.setDwells_frame (x : Vector Dwell 8) : s.changesOnly { s with ae.dwells := x } (Set.range .dwell) := by
  intro part hp
  cases part <;> first | rfl | exact ⟨rfl, rfl⟩ | exact ⟨rfl, rfl, rfl⟩ | simp at hp

theorem State.sendGrant_frame (p : AllocPass) (b : BayNo) :
    s.changesOnly (State.sendGrant p s b) {.grant b, .queue .down, .drops .down} := by
  unfold State.sendGrant
  dsimp only
  split
  · refine State.changesOnly_ite _ ?_ (s.changesOnly_refl _)
    have hoffer := s.offer_frame .down
      ⟨s.ownFrame (by assumption) kindGrant (s.grantPayload b (s.bay b).alloc.grant (s.bay b).alloc.outcome), .grant b⟩
    refine State.changesOnly_ite _ ?_ ?_
    · exact State.changesOnly_seq hoffer (State.modAlloc_frame _ b _) (by simp) (by simp)
    · exact State.changesOnly_mono hoffer (by simp)
  · exact s.changesOnly_refl _

theorem State.publishGrants_frame (p : AllocPass) :
    s.changesOnly (s.publishGrants p) ({.queue .down, .drops .down} ∪ Set.range .grant) :=
  State.changesOnly_foldl (fun t b => State.changesOnly_mono (t.sendGrant_frame p b) (by simp [Set.insert_subset_iff])) _ s

theorem State.setAllocTimer_frame (x : Countdown) : s.changesOnly { s with ae.timer := x } {.allocTimer} := by
  intro part hp
  cases part <;> first | exact absurd rfl hp | exact ⟨rfl, rfl⟩ | exact ⟨rfl, rfl, rfl⟩ | rfl

/-- The parts that a publication of the Allocation Engine may change. -/
def publishedParts : Set Part :=
  {.balance, .allocPass, .allocTimer, .battery, .events, .queue .down, .drops .down} ∪ Set.range .grant ∪
    Set.range .dwell

theorem State.publish_frame (p : AllocPass) : s.changesOnly (s.publish p) publishedParts := by
  refine State.changesOnly_seq (State.changesOnly_seq (State.changesOnly_seq (State.changesOnly_seq
    (s.publishTable_frame p) (State.setDwells_frame _ _) (c := publishedParts) ?_ ?_)
    (State.publishGrants_frame _ p) subset_rfl ?_) (State.batteryPass_frame _) subset_rfl ?_)
    (State.setAllocTimer_frame _ _) subset_rfl ?_ <;> simp [publishedParts, Set.insert_subset_iff, Set.range_subset_iff]

theorem State.expireDwell_frame (k : ClassNo) : s.changesOnly (s.expireDwell k) {.dwell k} := by
  intro part hp
  cases part with
  | dwell other =>
    have h : (k : Nat) ≠ other := fun e => hp (by rw [Fin.ext e]; rfl)
    simp [State.same, State.expireDwell, Vector.getElem_set_ne, h]
  | _ => first | rfl | exact ⟨rfl, rfl⟩ | exact ⟨rfl, rfl, rfl⟩

theorem State.expireGuard_frame (b : BayNo) : s.changesOnly (s.expireGuard b) {.grant b} := s.modAlloc_frame b _

/-! ### Canopy Control (chapter 5) -/

theorem State.setStrings_frame (x : Vector StringState 8) :
    s.changesOnly { s with cc.strings := x } (Set.range .string) := by
  intro part hp
  cases part <;> first | rfl | exact ⟨rfl, rfl⟩ | exact ⟨rfl, rfl, rfl⟩ | simp at hp

theorem State.setString_frame (j : StringNo) (x : StringState) :
    s.changesOnly { s with cc.strings := s.cc.strings.set j x } {.string j} := by
  intro part hp
  cases part with
  | string other =>
    have h : (j : Nat) ≠ other := fun e => hp (by rw [Fin.ext e]; rfl)
    simp [State.same, Vector.getElem_set_ne, h]
  | _ => first | rfl | exact ⟨rfl, rfl⟩ | exact ⟨rfl, rfl, rfl⟩

theorem State.forgetCap_frame (j : StringNo) : s.changesOnly (s.forgetCap j) {.string j} := s.setString_frame j _

theorem State.markReleases_frame (ended : Bool) (was : StringNo → Bool) :
    s.changesOnly (s.markReleases ended was) (Set.range .string) := s.setStrings_frame _

theorem State.sendCap_frame (j : StringNo) (address : Byte) (cap : Nat) :
    s.changesOnly (s.sendCap j address cap) {.string j, .queue .down, .drops .down} := by
  have hoffer := s.offer_frame .down ⟨s.ownFrame address kindLimit (limitPayload cap), .limit⟩
  refine State.changesOnly_ite _ ?_ ?_
  · exact State.changesOnly_seq hoffer (State.setString_frame _ j _) (by simp) (by simp)
  · exact State.changesOnly_mono hoffer (by simp)

theorem State.sendString_frame (j : StringNo) :
    s.changesOnly (s.sendString j) {.string j, .queue .down, .drops .down} := by
  unfold State.sendString
  dsimp only
  split
  · exact s.changesOnly_refl _
  · split
    · exact State.changesOnly_ite _ (s.sendCap_frame j _ _)
        (State.changesOnly_ite _ (s.sendCap_frame j _ _) (s.changesOnly_refl _))
    · exact State.changesOnly_ite _ (s.sendCap_frame j _ _) (s.changesOnly_refl _)

theorem State.publishCaps_frame (p : CanopyPass) :
    s.changesOnly (s.publishCaps p) ({.curtailment, .canopyPass} ∪ Set.range .string) := by
  intro part hp
  cases part <;> first | rfl | exact ⟨rfl, rfl⟩ | simp at hp

theorem State.setCanopyTimer_frame (x : Countdown) : s.changesOnly { s with cc.timer := x } {.canopyTimer} := by
  intro part hp
  cases part <;> first | exact absurd rfl hp | exact ⟨rfl, rfl⟩ | exact ⟨rfl, rfl, rfl⟩ | rfl

/-- The parts that a canopy publication may change. -/
def canopyParts : Set Part :=
  {.curtailment, .canopyPass, .canopyTimer, .events, .queue .down, .drops .down} ∪ Set.range .string

theorem State.publishCanopy_frame (p : CanopyPass) : s.changesOnly (s.publishCanopy p) canopyParts := by
  have hstrings (t : State) : t.changesOnly ((List.finRange 8).foldl State.sendString t) canopyParts :=
    State.changesOnly_foldl
      (fun t j => State.changesOnly_mono (t.sendString_frame j) (by simp [canopyParts, Set.insert_subset_iff])) _ t
  refine State.changesOnly_seq (State.changesOnly_seq (State.changesOnly_seq (State.changesOnly_seq
    (s.publishCaps_frame p) (State.raiseIf_frame _ _ _) (c := canopyParts) ?_ ?_)
    (State.markReleases_frame _ _ _) subset_rfl ?_) (hstrings _) subset_rfl ?_)
    (State.setCanopyTimer_frame _ _) subset_rfl ?_ <;> simp [canopyParts, Set.insert_subset_iff]

theorem State.takeCanopyTable_frame (t : CanopyTable) :
    s.changesOnly (s.takeCanopyTable t) ({.canopyTable, .curtailment} ∪ Set.range .string) := by
  intro part hp
  cases part <;> first | rfl | exact ⟨rfl, rfl⟩ | simp at hp

/-! ### Metering Unit (chapter 6) -/

theorem State.setSiteClock_frame (day : BitVec 16) (second : Nat) :
    s.changesOnly (s.setSiteClock day second).1 {.clock} := by
  intro part hp
  cases part <;> first | exact absurd rfl hp | exact ⟨rfl, rfl⟩ | exact ⟨rfl, rfl, rfl⟩ | rfl

/-- The parts that the count of a second in every timer may change. -/
def timerParts : Set Part :=
  {.allocTimer, .canopyTimer, .links} ∪ Set.range .grant ∪ Set.range .session ∪ Set.range .dwell

theorem State.countTimers_frame : s.changesOnly s.countTimers timerParts := by
  have hcounts (t : State) (dwells : Vector Dwell 8) (alloc canopy : Countdown) (links : List PendingLink) :
      t.changesOnly { t with ae.dwells := dwells, ae.timer := alloc, cc.timer := canopy, links } timerParts := by
    intro part hp
    cases part <;> first | rfl | exact ⟨rfl, rfl⟩ | exact ⟨rfl, rfl, rfl⟩ | simp [timerParts] at hp
  refine State.changesOnly_within ?_ (hcounts _ _ _ _ _)
  exact s.mapBays_frame (fun _ => .inl rfl) (fun _ => .inr (by simp [timerParts])) (fun _ => .inl rfl)
    (fun _ => .inr (by simp [timerParts]))

theorem State.tick_frame :
    s.changesOnly s.tick ({.lastTick} ∪ Set.range .session ∪ Set.range .metering) := by
  have hlast (t : State) (ref : BandRef) (x : SiteSplit) :
      t.changesOnly { t with mu.lastBand := ref, mu.lastSplit := x } {.lastTick} := by
    intro part hp
    cases part <;> first | exact absurd rfl hp | exact ⟨rfl, rfl⟩ | exact ⟨rfl, rfl, rfl⟩ | rfl
  refine State.changesOnly_seq (a := Set.range .session ∪ Set.range .metering) ?_ (hlast _ _ _)
    (by simp [Set.range_subset_iff]) (by simp)
  refine s.mapBays_frame (fun _ => ?_) (fun _ => .inr (by simp)) (fun _ => .inr (by simp)) (fun _ => ?_) <;>
    split <;> exact .inl rfl

theorem State.second_frame :
    s.changesOnly s.second (timerParts ∪ {.uptime, .clock, .lastTick} ∪ Set.range .metering) := by
  have huptime : s.changesOnly { s with mu.uptime := s.mu.uptime + 1 } {.uptime} := by
    intro part hp
    cases part <;> first | exact absurd rfl hp | exact ⟨rfl, rfl⟩ | exact ⟨rfl, rfl, rfl⟩ | rfl
  have hclock (t : State) : t.changesOnly { t with mu.clock := t.mu.clock.map SiteTime.next } {.clock} := by
    intro part hp
    cases part <;> first | exact absurd rfl hp | exact ⟨rfl, rfl⟩ | exact ⟨rfl, rfl, rfl⟩ | rfl
  refine State.changesOnly_seq (State.changesOnly_seq (State.changesOnly_seq huptime (State.countTimers_frame _)
    (c := timerParts ∪ {.uptime, .clock, .lastTick} ∪ Set.range .metering) ?_ ?_) (hclock _) subset_rfl ?_)
    (State.tick_frame _) subset_rfl ?_ <;>
      simp [timerParts, Set.insert_subset_iff, Set.range_subset_iff]

/-! ### Site Input Unit (chapter 2) -/

theorem State.tapSample_frame (pos : Position) (role : Role) (payload : List Byte) :
    s.changesOnly (s.tapSample pos role payload) {.record pos, .battery, .events, .queue .down} := by
  unfold State.tapSample
  split
  next v r _ _ =>
    have htaken := s.setRecord_frame pos (some { r with values := some v, age := 0, reported := false })
    refine State.changesOnly_ite _ ?_ ?_
    · exact State.changesOnly_seq htaken (State.evaluate_frame _) (by simp) (by simp)
    · exact State.changesOnly_mono htaken (by simp)
  · exact s.changesOnly_refl _

theorem State.setRecords_frame (x : Vector (Option MeasRecord) 64) :
    s.changesOnly { s with siu.records := x } (Set.range .record) := by
  intro part hp
  cases part <;> first | rfl | exact ⟨rfl, rfl⟩ | exact ⟨rfl, rfl, rfl⟩ | simp at hp

theorem State.ageRecords_frame : s.changesOnly s.ageRecords (Set.range .record) := s.setRecords_frame _

theorem State.turnStale_frame (pos : Position) :
    s.changesOnly (s.turnStale pos) {.record pos, .battery, .events, .queue .down} := by
  unfold State.turnStale
  split
  next r e _ _ =>
    refine State.changesOnly_ite _ ?_ (s.changesOnly_refl _)
    have hmarked := s.setRecord_frame pos (some { r with reported := true })
    have hraised : s.changesOnly (match e.role.staleEvent with
        | some ev => (s.setRecord pos (some { r with reported := true })).raise ev
        | none => s.setRecord pos (some { r with reported := true }))
        {.record pos, .battery, .events, .queue .down} := by
      split
      · exact State.changesOnly_seq hmarked (State.raise_frame _ _) (by simp) (by simp)
      · exact State.changesOnly_mono hmarked (by simp)
    refine State.changesOnly_ite _ ?_ hraised
    exact State.changesOnly_seq hraised (State.evaluate_frame _) subset_rfl (by simp)
  · exact s.changesOnly_refl _

/-- The parts that ageing or stale records may change, by the evaluation of BD besides. -/
def staleParts : Set Part := {.battery, .events, .queue .down} ∪ Set.range .record

theorem State.holdChanged_frame : s.changesOnly s.holdChanged staleParts := by
  refine State.changesOnly_seq (s.setRecords_frame (s.siu.records.map fun r => r.map fun r => r.refreshed s.mr.site.holdTime))
    (b := staleParts) ?_ (by simp [staleParts]) subset_rfl
  exact State.changesOnly_foldl
    (fun t pos => State.changesOnly_mono (t.turnStale_frame pos) (by simp [staleParts, Set.insert_subset_iff])) _ _

theorem State.setShed_frame (i : Input) : s.changesOnly (s.setShed i) {.shed, .events} := by
  refine State.changesOnly_seq (a := {.shed}) ?_ (State.raiseIf_frame _ _ _) (by simp) (by simp)
  intro part hp
  cases part <;> first | exact absurd rfl hp | exact ⟨rfl, rfl⟩ | exact ⟨rfl, rfl, rfl⟩ | rfl

theorem State.setFreeze_frame (frozen : Bool) :
    s.changesOnly (s.setFreeze frozen) {.freeze, .battery, .events, .queue .down} := by
  refine State.changesOnly_ite _ (s.changesOnly_refl _) ?_
  refine State.changesOnly_seq (a := {.freeze}) ?_ (State.evaluate_frame _) (by simp) (by simp)
  intro part hp
  cases part <;> first | exact absurd rfl hp | exact ⟨rfl, rfl⟩ | exact ⟨rfl, rfl, rfl⟩ | rfl

theorem State.setInput_frame (i : Input) : s.changesOnly { s with siu.island := i } {.island} := by
  intro part hp
  cases part <;> first | exact absurd rfl hp | exact ⟨rfl, rfl⟩ | exact ⟨rfl, rfl, rfl⟩ | rfl

theorem State.setIsland_frame (i : Input) :
    s.changesOnly (s.setIsland i) {.island, .freeze, .battery, .events, .queue .down} := by
  refine State.changesOnly_ite _ ?_ (State.changesOnly_mono (s.setInput_frame i) (by simp))
  refine State.changesOnly_seq (State.changesOnly_seq (s.setInput_frame i) (State.raise_frame _ _)
    (c := {.island, .events}) (by simp) (by simp)) (State.setFreeze_frame _ _) ?_ ?_ <;> simp [Set.insert_subset_iff]

/-- The parts that a change of the control inputs may change. -/
def inputParts : Set Part := {.shed, .island, .freeze, .battery, .events, .queue .down}

theorem State.sensesChanged_frame (oldShed oldIsland : Sense) :
    s.changesOnly (s.sensesChanged oldShed oldIsland) inputParts := by
  have hshed : s.changesOnly (if oldShed = s.mr.site.shedSense then s
      else s.setShed (Input.formed s.mr.site.shedSense s.siu.shed.high)) inputParts :=
    State.changesOnly_ite _ (s.changesOnly_refl _)
      (State.changesOnly_mono (s.setShed_frame _) (by simp [inputParts, Set.insert_subset_iff]))
  refine State.changesOnly_ite _ hshed ?_
  exact State.changesOnly_seq hshed (State.setIsland_frame _ _) subset_rfl (by simp [inputParts])

theorem State.shedClear_frame : s.changesOnly s.shedClear.1 {.shed, .events} := by
  unfold State.shedClear
  split
  · exact s.changesOnly_refl _
  · exact s.setShed_frame _

theorem State.resume_frame : s.changesOnly s.resume.1 {.island, .freeze, .battery, .events, .queue .down} := by
  unfold State.resume
  dsimp only
  split
  · exact s.changesOnly_refl _
  · exact State.changesOnly_seq (s.setInput_frame _) (State.setFreeze_frame _ _) (by simp) (by simp)

theorem State.coldPins_frame (shedHigh islandHigh : Bool) :
    s.changesOnly (State.coldPins shedHigh islandHigh s) inputParts :=
  State.changesOnly_seq (s.setShed_frame _) (State.setIsland_frame _ _)
    (by simp [inputParts, Set.insert_subset_iff]) (by simp [inputParts])

end

end Sys2Proof.Machine
end

section
/-! The frames of the Management Responder and of restarts, and what each command may change. -/

namespace Sys2Proof.Machine

/-! ### Management Responder (chapter 9) -/

section
variable (s : State)

theorem State.planCheck_frame : s.changesOnly s.planCheck {.plan, .events} := by
  refine State.changesOnly_seq (a := {.plan}) ?_ (State.raiseIf_frame _ _ _) (by simp) (by simp)
  intro part hp
  cases part <;> first | exact absurd rfl hp | exact ⟨rfl, rfl⟩ | exact ⟨rfl, rfl, rfl⟩ | rfl

/-- The parts that the taking of a record may change, by its own effect `a`, and the plan check behind it. -/
def writtenParts (a : Set Part) : Set Part := a ∪ {.plan, .events}

theorem writeWhole_frame {fits : List Byte → Bool} {take : List Byte → State → State × Bool} {a : Set Part}
    (h : ∀ record, s.changesOnly (take record s).1 a) (p : List Byte) :
    s.changesOnly (writeWhole fits take p s).1 (writtenParts a) := by
  unfold writeWhole
  split
  · exact s.changesOnly_refl _
  · split
    · exact s.changesOnly_refl _
    · exact State.changesOnly_seq (h _) (State.planCheck_frame _) Set.subset_union_left Set.subset_union_right

/-- The parts that a SITE record may change at once (R37, R33, R141). -/
def siteParts : Set Part := {.site, .receipts} ∪ inputParts ∪ staleParts

theorem State.takeSiteRecord_frame (record : List Byte) : s.changesOnly (State.takeSiteRecord record s).1 siteParts := by
  have hsite (site : SiteTable) : s.changesOnly { s with mr.site := site } {.site} := by
    intro part hp
    cases part <;> first | exact absurd rfl hp | exact ⟨rfl, rfl⟩ | exact ⟨rfl, rfl, rfl⟩ | rfl
  have hsenses (site : SiteTable) (a b : Sense) :
      s.changesOnly (({ s with mr.site := site } : State).sensesChanged a b) siteParts :=
    State.changesOnly_seq (hsite site) (State.sensesChanged_frame _ a b) (by simp [siteParts])
      (by simp [siteParts, inputParts, Set.insert_subset_iff])
  have hhold (t : State) (p : Prop) [Decidable p] (ht : s.changesOnly t siteParts) :
      s.changesOnly (if p then t else t.holdChanged) siteParts :=
    State.changesOnly_ite _ ht (State.changesOnly_seq ht t.holdChanged_frame subset_rfl (by simp [siteParts]))
  have hhigh (t : State) (p : Prop) [Decidable p] (ht : s.changesOnly t siteParts) :
      s.changesOnly (if p then t else t.evalHigh) siteParts :=
    State.changesOnly_ite _ ht (State.changesOnly_seq ht t.evalHigh_frame subset_rfl
      (by simp [siteParts, inputParts, Set.insert_subset_iff]))
  exact hhigh _ _ (hhold _ _ (hsenses _ _ _))

theorem State.writeSite_frame (p : List Byte) :
    s.changesOnly (State.writeSite p s).1 (writtenParts siteParts) :=
  writeWhole_frame s (fun record => s.takeSiteRecord_frame record) p

/-- The parts that a new entry at a station position may change. -/
def placedParts (pos : Position) : Set Part :=
  {.station pos, .forwardCount pos, .record pos, .battery, .events, .queue .down} ∪ Set.range .string ∪ Set.range .grant

/-- A position takes an entry: its forward count is 0 and its measurement record follows R28. -/
def State.setStation (s : State) (pos : Position) (new : Option Station) : State :=
  { s with
    fs.stations := s.fs.stations.set pos new
    fs.counts := s.fs.counts.set pos 0
    siu.records := s.siu.records.set pos (recordAfter s.now s.fs.stations[pos] new s.siu.records[pos]) }

/-- A placed entry with the strings and the bays that it touches forgotten: all of a STATION write but the evaluation of BD and the
plan check (R103, R185). -/
def State.placed (s : State) (pos : Position) (new : Option Station) : State :=
  (touched Role.bay? s.fs.stations[pos] new).foldl State.forgetGrant
    ((touched Role.string? s.fs.stations[pos] new).foldl State.forgetCap (s.setStation pos new))

theorem State.placeStation_eq (pos : Position) (new : Option Station) :
    s.placeStation pos new =
      if batteryMoves s.fs.stations[pos] new then (s.placed pos new).evaluateWith s.batteryAddress.toList
      else s.placed pos new := rfl

theorem State.setStation_frame (pos : Position) (new : Option Station) :
    s.changesOnly (s.setStation pos new) {.station pos, .forwardCount pos, .record pos} := by
  intro part hp
  cases part with
  | station other | forwardCount other | record other =>
    have h : (pos : Nat) ≠ other := fun e => hp (by rw [← Fin.ext e]; simp)
    simp [State.same, State.setStation, Vector.getElem_set_ne, h]
  | _ => first | rfl | exact ⟨rfl, rfl⟩ | exact ⟨rfl, rfl, rfl⟩

theorem State.placed_frame (pos : Position) (new : Option Station) :
    s.changesOnly (s.placed pos new)
      ({.station pos, .forwardCount pos, .record pos} ∪ Set.range .string ∪ Set.range .grant) := by
  refine State.changesOnly_seq (State.changesOnly_seq (s.setStation_frame pos new) (b := Set.range .string)
    (State.changesOnly_foldl (fun t j => State.changesOnly_mono (t.forgetCap_frame j) (by simp)) _ _)
    Set.subset_union_left Set.subset_union_right) (b := Set.range .grant)
    (State.changesOnly_foldl (fun t b => State.changesOnly_mono (t.modAlloc_frame b _) (by simp)) _ _)
    Set.subset_union_left Set.subset_union_right

theorem State.placeStation_frame (pos : Position) (new : Option Station) :
    s.changesOnly (s.placeStation pos new) (placedParts pos) := by
  have hplaced : s.changesOnly (s.placed pos new) (placedParts pos) :=
    State.changesOnly_mono (s.placed_frame pos new) (by simp [placedParts, Set.insert_subset_iff, Set.range_subset_iff])
  refine State.changesOnly_ite _ ?_ hplaced
  exact State.changesOnly_seq hplaced (State.evaluateWith_frame _ _) subset_rfl
    (by simp [placedParts, Set.insert_subset_iff])

theorem State.writeStation_frame (p : List Byte) :
    s.changesOnly (State.writeStation p s).1
      ({.plan, .battery, .events, .queue .down} ∪ Set.range .station ∪ Set.range .forwardCount ∪ Set.range .record ∪
        Set.range .string ∪ Set.range .grant) := by
  unfold State.writeStation
  split
  · dsimp only
    split
    · exact s.changesOnly_refl _
    · split
      · exact s.changesOnly_refl _
      · refine State.changesOnly_seq (s.placeStation_frame _ _) (State.planCheck_frame _) ?_ ?_ <;>
          simp [placedParts, Set.insert_subset_iff, Set.range_subset_iff]
  · exact s.changesOnly_refl _

theorem State.writeBay_frame (p : List Byte) :
    s.changesOnly (State.writeBay p s).1 (writtenParts (Set.range .config ∪ Set.range .session)) := by
  unfold State.writeBay
  split
  · dsimp only
    split
    · exact s.changesOnly_refl _
    · refine State.changesOnly_seq (s.takeBayConfig_frame _ _) (State.planCheck_frame _) ?_ ?_ <;>
        simp [writtenParts, Set.insert_subset_iff]
  · exact s.changesOnly_refl _

theorem State.setProfile_frame (name : ProfileName) (x : Profile) :
    s.changesOnly (s.setProfile name x) {.profiles} := by
  intro part hp
  cases name <;> cases part <;> first | exact absurd rfl hp | exact ⟨rfl, rfl⟩ | exact ⟨rfl, rfl, rfl⟩ | rfl

theorem State.writeTariff_frame (p : List Byte) : s.changesOnly (State.writeTariff p s).1 (writtenParts {.profiles}) :=
  writeWhole_frame s (fun _ => s.setProfile_frame _ _) p

theorem State.writeBattery_frame (p : List Byte) :
    s.changesOnly (State.writeBattery p s).1 (writtenParts {.batteryTable, .battery, .events, .queue .down}) :=
  writeWhole_frame s (fun _ => s.takeBatteryTable_frame _) p

theorem State.writeCanopy_frame (p : List Byte) :
    s.changesOnly (State.writeCanopy p s).1 (writtenParts ({.canopyTable, .curtailment} ∪ Set.range .string)) :=
  writeWhole_frame s (fun _ => s.takeCanopyTable_frame _) p

theorem State.setMask_frame (m : BitVec 16) : s.changesOnly { s with mr.mask := m } {.mask} := by
  intro part hp
  cases part <;> first | exact absurd rfl hp | exact ⟨rfl, rfl⟩ | exact ⟨rfl, rfl, rfl⟩ | rfl

theorem State.writeEventMask_frame (p : List Byte) : s.changesOnly (State.writeEventMask p s).1 {.mask} := by
  unfold State.writeEventMask
  split
  · exact s.changesOnly_refl _
  · split
    · exact s.changesOnly_refl _
    · exact s.setMask_frame _

theorem withArguments_frame {n : Nat} {work : List Byte → State → State × Status} {a : Set Part}
    (h : ∀ x, s.changesOnly (work x s).1 a) (p : List Byte) : s.changesOnly (withArguments n work p s).1 a := by
  unfold withArguments
  split
  · exact s.changesOnly_refl _
  · exact h _

theorem State.clearEvents_frame (set : BitVec 16) : s.changesOnly (s.clearEvents set) {.events} := by
  intro part hp
  cases part <;> first | exact absurd rfl hp | exact ⟨rfl, rfl⟩ | exact ⟨rfl, rfl, rfl⟩ | rfl

/-- The counters of R160. -/
def counterParts : Set Part :=
  {.unknownStation, .ownAddressDrops, .limitClamps, .autoBatteryDrops} ∪ Set.range .counters ∪ Set.range .drops

theorem State.zeroCounters_frame : s.changesOnly s.zeroCounters counterParts := by
  intro part hp
  cases part with
  | waiting p | queue p | sending p | counters p | drops p => cases p <;> first | rfl | simp [counterParts] at hp
  | _ => first | rfl | exact ⟨rfl, rfl⟩ | exact ⟨rfl, rfl, rfl⟩ | simp [counterParts] at hp

theorem State.setRestart_frame (x : RestartPhase) : s.changesOnly { s with mr.restart := x } {.restart} := by
  intro part hp
  cases part <;> first | exact absurd rfl hp | exact ⟨rfl, rfl⟩ | exact ⟨rfl, rfl, rfl⟩ | rfl

theorem restartWork_frame (r : Request) : s.changesOnly (restartWork r s) {.restart, .queue .up, .drops .up} := by
  unfold restartWork
  split
  · exact State.changesOnly_seq (s.offer_frame .up _) (State.setRestart_frame _ _) (by simp) (by simp)
  · exact State.changesOnly_mono (s.answer_frame _ _) (by simp)

theorem State.setRequests_frame (l : List Request) : s.changesOnly { s with mr.requests := l } {.requests} := by
  intro part hp
  cases part <;> first | exact absurd rfl hp | exact ⟨rfl, rfl⟩ | exact ⟨rfl, rfl, rfl⟩ | rfl

theorem State.manageFrame_frame (f : Frame) :
    s.changesOnly (State.manageFrame f s) {.requests, .queue .up, .drops .up} :=
  State.changesOnly_ite _ (State.changesOnly_mono (s.setRequests_frame _) (by simp))
    (State.changesOnly_mono (s.answer_frame _ _) (by simp))

variable {s}

/-- What a checked service may change besides its answer is what its work may. -/
theorem checked_frame {work : List Byte → State → State × Status} {a : Set Part}
    (h : ∀ p, s.changesOnly (work p s).1 a) (r : Request) :
    s.changesOnly (checked work r s) (a ∪ {.queue .up, .drops .up}) := by
  rcases checked_cases work r s with ⟨-, e⟩ | ⟨-, e⟩ <;> rw [e]
  · exact State.changesOnly_trans (h _) (State.answer_frame _ _ _)
  · exact State.changesOnly_mono (s.answer_frame _ _) Set.subset_union_right

theorem State.serve_frame {row : Service} {work : Request → State → State} {a : Set Part}
    (h : ∀ r, s.changesOnly (work r s) a) : s.changesOnly (s.serve row work) (a ∪ {.requests}) := by
  rcases State.serve_cases row work s with ⟨r, rest, -, -, -, e⟩ | e <;> rw [e]
  · exact State.changesOnly_trans (h r) (State.setRequests_frame _ _)
  · exact s.changesOnly_refl _

theorem State.serve_checked_frame {row : Service} {work : List Byte → State → State × Status} {a : Set Part}
    (h : ∀ p, s.changesOnly (work p s).1 a) : s.changesOnly (s.serve row (checked work)) (a ∪ answeredParts) := by
  refine State.changesOnly_mono (State.serve_frame (checked_frame h)) ?_
  simp [answeredParts]

/-! ### Reception -/

theorem State.receive_frame {p : Port} {row : FrameRow} {r : Reception} {work : Frame → State → State} {a : Set Part}
    (h : ∀ (f : Frame) (t : State), t.changesOnly (work f t) a) : s.changesOnly (s.receive p row r work) (a ∪ {.counters p}) := by
  rcases s.receive_cases p row r work with ⟨f, -, -, -, e⟩ | ⟨-, e⟩ <;> rw [e]
  · exact State.changesOnly_seq (s.countReceived_frame p) (h f _) Set.subset_union_right Set.subset_union_left
  · exact s.changesOnly_refl _

variable (s)

theorem State.sampleFrame_frame (f : Frame) :
    s.changesOnly (State.sampleFrame f s)
      ({.battery, .events, .queue .down, .queue .up, .drops .up} ∪ Set.range .record ∪ Set.range .forwardCount) := by
  unfold State.sampleFrame
  split
  · refine State.changesOnly_seq (s.tapSample_frame _ _ _) (State.forwardSample_frame _ _ _ _) ?_ ?_ <;>
      simp [Set.insert_subset_iff]
  · exact s.changesOnly_refl _

theorem State.restartManage_frame (cause : RestartCause) :
    s.changesOnly (s.restartManage cause) {.requests, .restart, .resetPin} := by
  intro part hp
  cases part <;> first | rfl | exact ⟨rfl, rfl⟩ | exact ⟨rfl, rfl, rfl⟩ | simp at hp

/-- The parts of the Line Interface and the Frame Screen that a warm restart sets (R163). -/
def lineParts : Set Part :=
  {.unknownStation, .ownAddressDrops, .limitClamps, .autoBatteryDrops} ∪ Set.range .waiting ∪ Set.range .queue ∪
    Set.range .sending ∪ Set.range .counters ∪ Set.range .drops ∪ Set.range .forwardCount

theorem State.restartLine_frame : s.changesOnly s.restartLine lineParts := by
  intro part hp
  cases part <;> first | rfl | exact ⟨rfl, rfl⟩ | exact ⟨rfl, rfl, rfl⟩ | simp [lineParts] at hp

theorem State.restartSessions_frame : s.changesOnly s.restartSessions (Set.range .session) := by
  refine s.mapBays_frame (fun _ => ?_) (fun _ => .inr (by simp)) (fun _ => ?_) (fun _ => ?_) <;> split <;> exact .inl rfl

theorem State.restartSiu_frame (high low : Bool) :
    s.changesOnly (s.restartSiu high low) ({.shed, .island, .freeze, .events} ∪ Set.range .record) := by
  have hsiu (x : SiuState) :
      s.changesOnly { s with siu := x } ({.shed, .island, .freeze, .events} ∪ Set.range .record) := by
    intro part hp
    cases part <;> first | rfl | exact ⟨rfl, rfl⟩ | exact ⟨rfl, rfl, rfl⟩ | simp at hp
  exact State.changesOnly_seq (State.changesOnly_seq (hsiu _) (State.raiseIf_frame _ _ _) subset_rfl (by simp))
    (State.raiseIf_frame _ _ _) subset_rfl (by simp)

theorem State.restartAlloc_frame : s.changesOnly s.restartAlloc (passParts ∪ {.balance} ∪ Set.range .grant) := by
  have halloc (t : State) (x : AllocState) : t.changesOnly { t with ae := x } (passParts ∪ {.balance}) := by
    intro part hp
    cases part <;> first | rfl | exact ⟨rfl, rfl⟩ | exact ⟨rfl, rfl, rfl⟩ | simp [passParts] at hp
  refine State.changesOnly_seq (a := Set.range .grant) ?_ (halloc _ _) Set.subset_union_right Set.subset_union_left
  exact s.mapBays_frame (fun _ => .inl rfl) (fun _ => .inl rfl) (fun _ => .inl rfl) (fun _ => .inr (by simp))

theorem State.restartBattery_frame : s.changesOnly s.restartBattery {.battery, .events} := by
  have hbattery (mode : Mode) :
      s.changesOnly { s with bd := ⟨s.bd.table, mode, none, false, 0, 0, 0, none, none⟩ } {.battery} := by
    intro part hp
    cases part <;> first | exact absurd rfl hp | exact ⟨rfl, rfl⟩ | exact ⟨rfl, rfl, rfl⟩ | rfl
  exact State.changesOnly_seq (hbattery _) (State.raiseIf_frame _ _ _) (by simp) (by simp)

theorem State.restartCanopy_frame :
    s.changesOnly s.restartCanopy ({.curtailment, .canopyTimer, .canopyPass} ∪ Set.range .string) := by
  intro part hp
  cases part <;> first | rfl | exact ⟨rfl, rfl⟩ | simp at hp

theorem State.restartReceipts_frame : s.changesOnly s.restartReceipts {.receipts, .events} :=
  State.changesOnly_seq (s.setReceipts_frame _) (State.evalHigh_frame _) (by simp) subset_rfl

/-- The parts that a DEMAND may change, beside its reception. -/
def demandParts : Set Part :=
  {.receipts, .held, .links, .events, .queue .up, .drops .up, .queue .down, .drops .down} ∪ Set.range .session ∪
    Set.range .metering

theorem State.demandFrame_frame (f : Frame) : s.changesOnly (State.demandFrame f s) demandParts := by
  unfold State.demandFrame
  refine State.changesOnly_seq (b := {.queue .up, .drops .up}) ?_ (State.forward_frame _ .up f) subset_rfl
    (by simp [demandParts, Set.insert_subset_iff])
  split
  · split
    · exact State.changesOnly_mono (s.demand_frame _ _) (by simp [demandParts, finalisedParts, Set.insert_subset_iff])
    · exact s.changesOnly_refl _
  · exact s.changesOnly_refl _

end

end Sys2Proof.Machine
end

section
/-! What each command does and may change, and the shape of a proof that every step keeps a property. -/

namespace Sys2Proof.Machine

/-! ### The work of each command -/

/-- What a command does as one event of the running part; the three that are no such event have none (R176, R177). -/
def workOf : Instr → Option (State → State)
  | .frameError p r => some fun t => t.dropFrame p r
  | .sampleFrame r => some fun t => t.receive .down .sampleFrame r State.sampleFrame
  | .demandFrame r => some fun t => t.receive .down .demandFrame r State.demandFrame
  | .linkFrame r => some fun t => t.receive .up .linkFrame r State.linkFrame
  | .manageFrame r => some fun t => t.receive .up .manageFrame r State.manageFrame
  | .upLimitScreen r => some fun t => t.receive .up .upLimitScreen r State.screenLimit
  | .forwardUp r => some fun t => t.receive .down .forwardUp r State.forwardUpFrame
  | .forwardDown r => some fun t => t.receive .up .forwardDown r State.forwardDownFrame
  | .ownAddressDrop p r => some fun t => t.receive p .ownAddressDrop r fun _ => State.countOwnDrop
  | .ownSourceDiscard p r => some fun t => t.receive p .ownSourceDiscard r fun _ => id
  | .transmitStart p => some fun t => t.startTransmission p
  | .read => some State.serveRead
  | .siteWrite => some (State.serve .siteWrite (checked State.writeSite))
  | .stationWrite => some (State.serve .stationWrite (checked State.writeStation))
  | .bayWrite => some (State.serve .bayWrite (checked State.writeBay))
  | .tariffWrite => some (State.serve .tariffWrite (checked State.writeTariff))
  | .batteryWrite => some (State.serve .batteryWrite (checked State.writeBattery))
  | .canopyWrite => some (State.serve .canopyWrite (checked State.writeCanopy))
  | .eventMaskWrite => some (State.serve .eventMaskWrite (checked State.writeEventMask))
  | .setClock => some (State.serve .setClock (checked commandSetClock))
  | .restart => some (State.serve .restart restartWork)
  | .resume => some (State.serve .resume (checked fun _ => State.resume))
  | .shedClear => some (State.serve .shedClear (checked fun _ => State.shedClear))
  | .topUp => some (State.serve .topUp (checked fun _ => State.topUp))
  | .forceClose => some (State.serve .forceClose (checked commandForceClose))
  | .releaseReceipt => some (State.serve .releaseReceipt (checked commandRelease))
  | .clearEvents => some (State.serve .clearEvents (checked commandClearEvents))
  | .clearCounters => some (State.serve .clearCounters (checked commandClearCounters))
  | .unknownCommand => some (State.serve .unknownCommand unknownWork)
  | .warmRestart _ _ _ | .supplyLoss | .coldReset _ _ _ _ => none
  | .shedPinLevel high => some fun t => t.setShed (t.siu.shed.take t.mr.site.shedSense high)
  | .islandPinLevel high => some fun t => t.setIsland (t.siu.island.take t.mr.site.islandSense high)
  | .meteringTick => some State.second
  | .measureAgeTick => some State.ageRecords
  | .recordStale pos => some fun t => t.turnStale pos
  | .silenceExpiry b => some fun t => t.silenceExpiry b
  | .silentCloseExpiry b => some fun t => t.silentCloseExpiry b
  | .closeHoldExpiry b => some fun t => t.closeHoldExpiry b
  | .pendingLinkExpiry b => some fun t => if t.linkExpired b then t.expireLink b else t
  | .allocationPassStart => some fun t => if t.allocDue then t.startPass else t
  | .publication => some fun t => match t.ae.pass with | some p => t.publish p | none => t
  | .guardExpiry b => some fun t => if (t.bay b).alloc.guard.due then t.expireGuard b else t
  | .dwellExpiry k => some fun t => if t.dwellDue k then t.expireDwell k else t
  | .canopyPassStart => some fun t => if t.canopyDue then t.startCanopyPass else t
  | .canopyPublication => some fun t => match t.cc.pass with | some p => t.publishCanopy p | none => t
  | .frameTransmitEnd p => some fun t => t.endTransmission p
  | .receiverIdlePeriod p => some fun t => t.receiverReady p
  | .resetPinReturnHigh => some fun t => { t with mr.resetArmed := true }
  | .badTableWrite => some (State.serve .badTableWrite badTableWork)

/-- A command with a work takes it as one event. -/
theorem exec_of_workOf {c : Instr} {work : State → State} (h : workOf c = some work) (s : State) :
    exec c s = takeEvent work s := by
  cases c with
  | warmRestart | supplyLoss | coldReset => cases h
  | _ => cases h; rfl

/-- The parts that a command may change by its work (R174's STATUS frame apart). -/
def workParts : Instr → Set Part
  | .frameError p _ => {.counters p, .events}
  | .sampleFrame _ =>
    {.battery, .events, .queue .down, .queue .up, .drops .up} ∪ Set.range .record ∪ Set.range .forwardCount ∪
      {.counters .down}
  | .demandFrame _ => demandParts ∪ {.counters .down}
  | .linkFrame _ => {.ownAddressDrops, .links, .queue .up, .drops .up} ∪ Set.range .session ∪ {.counters .up}
  | .manageFrame _ => {.requests, .queue .up, .drops .up} ∪ {.counters .up}
  | .upLimitScreen _ => {.limitClamps, .autoBatteryDrops, .queue .down, .drops .down, .battery} ∪ {.counters .up}
  | .forwardUp _ => {.unknownStation, .queue .up, .drops .up} ∪ Set.range .forwardCount ∪ {.counters .down}
  | .forwardDown _ => {.limitClamps, .queue .down, .drops .down} ∪ {.counters .up}
  | .ownAddressDrop p _ => {.ownAddressDrops} ∪ {.counters p}
  | .ownSourceDiscard p _ => ∅ ∪ {.counters p}
  | .transmitStart p => {.queue p, .sending p}
  | .read => {.queue .up, .drops .up} ∪ {.requests}
  | .siteWrite => writtenParts siteParts ∪ answeredParts
  | .stationWrite =>
    ({.plan, .battery, .events, .queue .down} ∪ Set.range .station ∪ Set.range .forwardCount ∪ Set.range .record ∪
      Set.range .string ∪ Set.range .grant) ∪ answeredParts
  | .bayWrite => writtenParts (Set.range .config ∪ Set.range .session) ∪ answeredParts
  | .tariffWrite => writtenParts {.profiles} ∪ answeredParts
  | .batteryWrite => writtenParts {.batteryTable, .battery, .events, .queue .down} ∪ answeredParts
  | .canopyWrite => writtenParts ({.canopyTable, .curtailment} ∪ Set.range .string) ∪ answeredParts
  | .eventMaskWrite => {.mask} ∪ answeredParts
  | .setClock => {.clock} ∪ answeredParts
  | .restart => {.restart, .queue .up, .drops .up} ∪ {.requests}
  | .resume => {.island, .freeze, .battery, .events, .queue .down} ∪ answeredParts
  | .shedClear => {.shed, .events} ∪ answeredParts
  | .topUp => {.battery, .events, .queue .down} ∪ answeredParts
  | .forceClose => Set.range .session ∪ answeredParts
  | .releaseReceipt => releasedParts Set.univ ∪ answeredParts
  | .clearEvents => {.events} ∪ answeredParts
  | .clearCounters => counterParts ∪ answeredParts
  | .unknownCommand | .badTableWrite => {.queue .up, .drops .up} ∪ {.requests}
  | .warmRestart _ _ _ | .supplyLoss | .coldReset _ _ _ _ => Set.univ
  | .shedPinLevel _ => {.shed, .events}
  | .islandPinLevel _ => {.island, .freeze, .battery, .events, .queue .down}
  | .meteringTick => timerParts ∪ {.uptime, .clock, .lastTick} ∪ Set.range .metering
  | .measureAgeTick => Set.range .record
  | .recordStale pos => {.record pos, .battery, .events, .queue .down}
  | .silenceExpiry b => {.session b, .events}
  | .silentCloseExpiry b | .closeHoldExpiry b => finalisedParts b
  | .pendingLinkExpiry _ => {.links, .events}
  | .allocationPassStart => passParts
  | .publication => publishedParts
  | .guardExpiry b => {.grant b}
  | .dwellExpiry k => {.dwell k}
  | .canopyPassStart => {.canopyTimer, .canopyPass, .events}
  | .canopyPublication => canopyParts
  | .frameTransmitEnd p => {.sending p, .restart}
  | .receiverIdlePeriod p => {.waiting p}
  | .resetPinReturnHigh => {.resetPin}

theorem unknownWork_frame (r : Request) (s : State) : s.changesOnly (unknownWork r s) {.queue .up, .drops .up} := by
  refine State.changesOnly_ite _ ?_ (s.answer_frame _ _)
  exact State.changesOnly_mono (checked_frame (a := ∅) (fun _ => s.changesOnly_refl _) r) (by simp)

theorem badTableWork_frame (r : Request) (s : State) : s.changesOnly (badTableWork r s) {.queue .up, .drops .up} := by
  refine State.changesOnly_ite _ (s.answer_frame _ _) ?_
  exact State.changesOnly_mono (checked_frame (a := ∅) (fun _ => s.changesOnly_refl _) r) (by simp)

/-- The frame of the work of each command. -/
theorem workOf_frame {c : Instr} {work : State → State} (h : workOf c = some work) (s : State) :
    s.changesOnly (work s) (workParts c) := by
  cases c with
  | warmRestart | supplyLoss | coldReset => cases h
  | frameError p r => cases h; exact s.dropFrame_frame p r
  | sampleFrame => cases h; exact State.receive_frame fun f t => t.sampleFrame_frame f
  | demandFrame => cases h; exact State.receive_frame fun f t => t.demandFrame_frame f
  | linkFrame => cases h; exact State.receive_frame fun f t => t.linkFrame_frame f
  | manageFrame => cases h; exact State.receive_frame fun f t => t.manageFrame_frame f
  | upLimitScreen => cases h; exact State.receive_frame fun f t => t.screenLimit_frame f
  | forwardUp => cases h; exact State.receive_frame fun f t => t.forwardUpFrame_frame f
  | forwardDown => cases h; exact State.receive_frame fun f t => t.forwardDownFrame_frame f
  | ownAddressDrop => cases h; exact State.receive_frame fun _ t => t.countOwnDrop_frame
  | ownSourceDiscard => cases h; exact State.receive_frame fun _ t => t.changesOnly_refl _
  | transmitStart p => cases h; exact s.startTransmission_frame p
  | read => cases h; exact State.serve_frame fun _ => s.answer_frame _ _
  | siteWrite => cases h; exact State.serve_checked_frame s.writeSite_frame
  | stationWrite => cases h; exact State.serve_checked_frame s.writeStation_frame
  | bayWrite => cases h; exact State.serve_checked_frame s.writeBay_frame
  | tariffWrite => cases h; exact State.serve_checked_frame s.writeTariff_frame
  | batteryWrite => cases h; exact State.serve_checked_frame s.writeBattery_frame
  | canopyWrite => cases h; exact State.serve_checked_frame s.writeCanopy_frame
  | eventMaskWrite => cases h; exact State.serve_checked_frame s.writeEventMask_frame
  | setClock => cases h; exact State.serve_checked_frame (withArguments_frame s fun _ => s.setSiteClock_frame _ _)
  | restart => cases h; exact State.serve_frame fun r => restartWork_frame s r
  | resume => cases h; exact State.serve_checked_frame fun _ => s.resume_frame
  | shedClear => cases h; exact State.serve_checked_frame fun _ => s.shedClear_frame
  | topUp => cases h; exact State.serve_checked_frame fun _ => s.topUp_frame
  | forceClose => cases h; exact State.serve_checked_frame (withArguments_frame s fun _ => s.forceClose_frame _)
  | releaseReceipt =>
    cases h
    refine State.serve_checked_frame (withArguments_frame s fun _ => State.changesOnly_mono (s.release_frame _) ?_)
    exact Set.union_subset_union (Set.union_subset_union_right _ (Set.image_mono (Set.subset_univ _)))
      (Set.image_mono (Set.subset_univ _))
  | clearEvents => cases h; exact State.serve_checked_frame (withArguments_frame s fun _ => s.clearEvents_frame _)
  | clearCounters => cases h; exact State.serve_checked_frame fun _ => s.zeroCounters_frame
  | unknownCommand => cases h; exact State.serve_frame fun r => unknownWork_frame r s
  | badTableWrite => cases h; exact State.serve_frame fun r => badTableWork_frame r s
  | shedPinLevel => cases h; exact s.setShed_frame _
  | islandPinLevel => cases h; exact s.setIsland_frame _
  | meteringTick => cases h; exact s.second_frame
  | measureAgeTick => cases h; exact s.ageRecords_frame
  | recordStale pos => cases h; exact s.turnStale_frame pos
  | silenceExpiry b => cases h; exact s.silenceExpiry_frame b
  | silentCloseExpiry b => cases h; exact s.silentCloseExpiry_frame b
  | closeHoldExpiry b => cases h; exact s.closeHoldExpiry_frame b
  | pendingLinkExpiry b => cases h; exact State.changesOnly_ite _ (s.expireLink_frame b) (s.changesOnly_refl _)
  | allocationPassStart => cases h; exact State.changesOnly_ite _ s.startPass_frame (s.changesOnly_refl _)
  | publication =>
    cases h
    dsimp only
    split
    · exact s.publish_frame _
    · exact s.changesOnly_refl _
  | guardExpiry b => cases h; exact State.changesOnly_ite _ (s.expireGuard_frame b) (s.changesOnly_refl _)
  | dwellExpiry k => cases h; exact State.changesOnly_ite _ (s.expireDwell_frame k) (s.changesOnly_refl _)
  | canopyPassStart => cases h; exact State.changesOnly_ite _ s.startCanopyPass_frame (s.changesOnly_refl _)
  | canopyPublication =>
    cases h
    dsimp only
    split
    · exact s.publishCanopy_frame _
    · exact s.changesOnly_refl _
  | frameTransmitEnd p => cases h; exact s.endTransmission_frame p
  | receiverIdlePeriod p => cases h; exact s.receiverReady_frame p
  | resetPinReturnHigh =>
    cases h
    intro part hp
    cases part <;> first | exact absurd rfl hp | exact ⟨rfl, rfl⟩ | exact ⟨rfl, rfl, rfl⟩ | rfl

/-! ### Properties that rest on some parts alone -/

/-- A property holds of a state as soon as it holds of one that agrees with it on some parts. -/
def RestsOn (P : State → Prop) (a : Set Part) : Prop := ∀ s t : State, (∀ part ∈ a, s.same t part) → P s → P t

section
variable {P : State → Prop} {a b : Set Part}

/-- What changes none of the parts that a property rests on keeps it. -/
theorem RestsOn.kept (h : RestsOn P a) {s t : State} (frame : s.changesOnly t b) (apart : ∀ part ∈ a, part ∉ b) (hs : P s) :
    P t := h s t (fun part ha => frame part (apart part ha)) hs

theorem RestsOn.and {Q : State → Prop} (h : RestsOn P a) (k : RestsOn Q b) : RestsOn (fun s => P s ∧ Q s) (a ∪ b) :=
  fun s t same hs => ⟨h s t (fun part hp => same part (.inl hp)) hs.1, k s t (fun part hp => same part (.inr hp)) hs.2⟩

theorem State.setPending_frame (s : State) (l : List Instr) : s.changesOnly { s with pending := l } {.commands} := by
  intro part hp
  cases part <;> first | exact absurd rfl hp | exact ⟨rfl, rfl⟩ | exact ⟨rfl, rfl, rfl⟩ | rfl

/-- The parts of the commands' own bookkeeping: the command queue, the supply monitor's mark and the strapped rate. -/
def outerParts : Set Part := {.commands, .power, .rate}

/-- The state held in reset and the cold start differ from the reset state in the outer parts alone (R177). -/
theorem State.heldInReset_frame (s : State) : State.reset.changesOnly s.heldInReset outerParts := by
  intro part hp
  cases part <;> first | rfl | exact ⟨rfl, rfl⟩ | exact ⟨rfl, rfl, rfl⟩ | simp [outerParts] at hp

theorem State.coldStart_frame (s : State) (strap1 strap2 : Bool) :
    State.reset.changesOnly (s.coldStart strap1 strap2) outerParts := by
  intro part hp
  cases part with
  | waiting p | queue p | sending p | counters p | drops p => cases p <;> rfl
  | _ => first | rfl | exact ⟨rfl, rfl⟩ | exact ⟨rfl, rfl, rfl⟩ | simp [outerParts] at hp

/-- A property that an event's work and a STATUS frame keep is kept by the event (R174). -/
theorem inEvent_keeps (hstatus : ∀ s, P s → P s.sendStatus) {work : State → State} {s : State} (h : P (work s)) :
    P (inEvent work s) := by
  rcases inEvent_cases work s with ⟨-, e⟩ | ⟨-, -, e⟩ <;> rw [e]
  · exact h
  · exact hstatus _ h

/-- A property of the reset state that rests on none of the outer parts is kept by every step, if it is kept by a STATUS frame,
by the work of every command, and by the work of both restarts. -/
theorem step_keeps (rests : RestsOn P a) (outer : ∀ part ∈ a, part ∉ outerParts) (hreset : P State.reset)
    (hstatus : ∀ s, P s → P s.sendStatus) (hwork : ∀ c work s, workOf c = some work → P s → P (work s))
    (hpins : ∀ s high low, P s → P (State.coldPins high low s))
    (hwarm : ∀ s cause high low, P s → P (State.warmWork cause high low s.clearPending)) {s t : State} (hs : P s)
    (h : step s = .next t) : P t := by
  have hexec (c : Instr) (u : State) (hu : P u) (hc : exec c u = .next t) : P t := by
    cases hw : workOf c with
    | some work =>
      rw [exec_of_workOf hw] at hc
      cases hpow : u.powered with
      | true =>
        obtain rfl : inEvent work u = t := by simpa [takeEvent_powered work hpow] using hc
        exact inEvent_keeps hstatus (hwork c work u hw hu)
      | false =>
        obtain rfl : u = t := by simpa [takeEvent_unpowered work hpow] using hc
        exact hu
    | none =>
      cases c with
      | warmRestart cause high low =>
        obtain rfl : (if u.powered && u.restartDue cause then inEvent (State.warmWork cause high low) u.clearPending else u) = t := by
          simpa [exec, execWarmRestart] using hc
        split
        · exact inEvent_keeps hstatus (hwarm u cause high low hu)
        · exact hu
      | supplyLoss =>
        obtain rfl : u.heldInReset = t := by simpa [exec, execSupplyLoss] using hc
        exact rests.kept u.heldInReset_frame outer hreset
      | coldReset strap1 strap2 high low =>
        obtain rfl : (if u.powered then u else inEvent (State.coldPins high low) (u.coldStart strap1 strap2)) = t := by
          simpa [exec, execColdReset] using hc
        split
        · exact hu
        · exact inEvent_keeps hstatus (hpins _ high low (rests.kept (u.coldStart_frame strap1 strap2) outer hreset))
      | _ => cases hw
  unfold step at h
  split at h
  · obtain rfl : s = t := by simpa using h
    exact hs
  · exact hexec _ _ (rests.kept (s.setPending_frame _) (fun part ha hc => outer part ha (by simp_all [outerParts])) hs) h

end

end Sys2Proof.Machine
end

section
/-! The state after reset (O3): block by block, and every invariant of it. -/

namespace Sys2Proof.Machine

@[simp] theorem State.reset_bay (b : BayNo) : State.reset.bay b = Bay.cold := by simp [State.bay, State.reset]

@[simp] theorem State.reset_port (p : Port) : State.reset.port p = PortState.cold := by cases p <;> rfl

theorem SiteTable.cold_eq : SiteTable.cold = Claims.defaultSite := by
  simp only [SiteTable.cold, Claims.defaultSite]
  congr 1

theorem SiteTable.cold_inRange : SiteTable.cold.inRange := by
  refine ⟨by decide, by decide, by decide, by decide, by decide, by decide, by decide, by decide, by decide, by decide,
    by decide, by decide, by decide, by decide, by decide, by decide, by decide, by decide, by decide, by decide,
    fun k => ?_, by decide, by decide⟩
  simp [SiteTable.cold]

theorem Profile.cold_inRange : Profile.cold.inRange := by
  simp [Profile.inRange, Profile.cold, Profile.bands, Band.inRange]

theorem reset_capacityInv : CapacityInv State.reset :=
  ⟨fun p => by simp [PortState.cold], Nat.zero_le _, Nat.zero_le _, Nat.zero_le _, fun b => by simp [Bay.cold]⟩

theorem reset_ownFramesInv : OwnFramesInv State.reset := List.Pairwise.nil

theorem reset_countersInv : CountersInv State.reset :=
  ⟨fun p => by simp [PortState.cold, PortCounters.zero], Nat.zero_le _, Nat.zero_le _, Nat.zero_le _, Nat.zero_le _⟩

theorem reset_payloadInv : PayloadInv State.reset := by
  refine ⟨fun p => ⟨?_, ?_⟩, fun b => ?_⟩ <;> simp [PortState.cold, Bay.cold]

theorem reset_heldInv : HeldInv State.reset :=
  ⟨List.nodup_nil, fun b => by rw [State.reset_bay]; simp [State.reset, Bay.cold], Nat.zero_le _, fun h => absurd rfl h⟩

theorem reset_numbersInv : NumbersInv State.reset := rfl

theorem reset_linksInv : LinksInv State.reset := ⟨List.nodup_nil, fun _ h => nomatch h⟩

theorem reset_sessionInv : SessionInv State.reset := fun b => by
  simp [Bay.sessionFits, Bay.cold, SessionState.isOpen]

theorem reset_rotationInv : RotationInv State.reset := by
  simp [RotationInv, State.reset, AllocState.cold]

theorem reset_accountsInv : AccountsInv State.reset := fun b => by
  simp [Metering.balanced, Bay.cold]

theorem reset_currentsInv : CurrentsInv State.reset := by
  refine ⟨fun b => ?_, fun p h => nomatch h⟩
  simp [Bay.cold]

theorem reset_tablesInv : TablesInv State.reset := by
  refine ⟨SiteTable.cold_inRange, ?_, ?_, Profile.cold_inRange, Profile.cold_inRange, fun b => ?_⟩
  · simp [BatteryTable.inRange, State.reset, BatteryState.cold, BatteryTable.cold]
  · simp [CanopyTable.inRange, State.reset, CanopyState.cold]
  · simp [Bay.cold]

theorem reset_budgetInv : BudgetInv State.reset := ⟨le_rfl, fun _ h => nomatch h⟩

theorem reset_batteryInv : BatteryInv State.reset := by
  simp [BatteryInv, State.reset, BatteryState.cold, BatteryTable.cold]

theorem reset_inputsInv : InputsInv State.reset := by
  simp [InputsInv, State.reset, SiteTable.cold, Input.fits]

theorem reset_curtailmentInv : CurtailmentInv State.reset := by
  simp [CurtailmentInv, State.reset, CanopyState.cold]

theorem reset_recordsInv : RecordsInv State.reset := fun pos => by
  simp [State.reset]

theorem reset_stationsInv : StationsInv State.reset := fun pos => by
  simp [State.reset]

/-- Settles O3, block by block, each invariant by its own lemma. -/
theorem resetState : Obligations.ResetState := by
  unfold Obligations.ResetState
  refine ⟨?line, ?sessions, ?power, ?meter, reset_capacityInv, reset_ownFramesInv, reset_countersInv, reset_payloadInv,
    reset_heldInv, reset_numbersInv, reset_linksInv, reset_sessionInv, reset_rotationInv, reset_accountsInv,
    reset_currentsInv, reset_tablesInv, reset_budgetInv, reset_batteryInv, reset_inputsInv, reset_curtailmentInv,
    reset_recordsInv, reset_stationsInv⟩
  case line =>
    refine ⟨fun p => by simp [PortState.cold, PortCounters.zero], rfl, rfl, rfl, rfl, fun pos => ?_, SiteTable.cold_eq, rfl,
      rfl, rfl⟩
    simp [State.reset]
  case sessions =>
    refine ⟨fun b => by simp [Bay.cold, Countdown.load], rfl, rfl, fun k => ?_, rfl, rfl, rfl, rfl, rfl, rfl⟩
    simp [State.reset, AllocState.cold, Countdown.load]
  case power =>
    refine ⟨rfl, rfl, rfl, rfl, rfl, rfl, rfl, rfl, rfl, rfl, rfl, rfl, fun j => ?_, rfl, rfl, rfl, rfl, rfl⟩
    simp [State.reset, CanopyState.cold]
  case meter => exact ⟨rfl, rfl, by simp [State.reset, MeterState.cold, Profile.cold], rfl, rfl, rfl, rfl, rfl⟩

end Sys2Proof.Machine
end

section
/-! What every step keeps of Canopy Control (O60), and the shape of the proofs for services and folds. -/

namespace Sys2Proof.Machine

section
variable {P : State → Prop} {a : Set Part} {s : State}

/-- A property is kept by a checked service if it rests on nothing of the answer and is kept by the service's own work. -/
theorem RestsOn.kept_by_service (rests : RestsOn P a) (apart : ∀ part ∈ a, part ∉ answeredParts) {row : Service}
    {work : List Byte → State → State × Status} (h : ∀ p, P (work p s).1) (hs : P s) :
    P (s.serve row (checked work)) := by
  have removed (t : State) (l : List Request) : P t → P { t with mr.requests := l } :=
    rests.kept (t.setRequests_frame l) fun part hp hr => apart part hp (by simp_all [answeredParts])
  have answered (t : State) (dest : Byte) (payload : List Byte) : P t → P (t.answer dest payload) :=
    rests.kept (t.answer_frame dest payload) fun part hp hr =>
      apart part hp (by simp only [answeredParts, Set.mem_insert_iff, Set.mem_singleton_iff] at *; exact .inr hr)
  rcases State.serve_cases row (checked work) s with ⟨r, rest, -, -, -, e⟩ | e <;> rw [e]
  · refine removed _ _ ?_
    rcases checked_cases work r s with ⟨-, e⟩ | ⟨-, e⟩ <;> rw [e]
    · exact answered _ _ _ (h _)
    · exact answered _ _ _ hs
  · exact hs

/-- A property is kept by a reception if it does not rest on the counters of its port and is kept by the frame's own work. -/
theorem RestsOn.kept_by_receive (rests : RestsOn P a) {p : Port} (apart : ∀ part ∈ a, part ∉ ({.counters p} : Set Part))
    {row : FrameRow} {r : Reception} {work : Frame → State → State} (h : ∀ f u, P u → P (work f u)) (hs : P s) :
    P (s.receive p row r work) := by
  rcases s.receive_cases p row r work with ⟨f, -, -, -, e⟩ | ⟨-, e⟩ <;> rw [e]
  · exact h f _ (rests.kept (s.countReceived_frame p) apart hs)
  · exact hs

/-- A property is kept by a write to a whole table if it rests on nothing of the plan check and is kept by the taking. -/
theorem RestsOn.kept_by_write (rests : RestsOn P a) (apart : ∀ part ∈ a, part ∉ ({.plan, .events} : Set Part))
    {fits : List Byte → Bool} {take : List Byte → State → State × Bool} (h : ∀ record, P (take record s).1) (hs : P s)
    (p : List Byte) : P (writeWhole fits take p s).1 := by
  unfold writeWhole
  split
  · exact hs
  · split
    · exact hs
    · exact rests.kept (State.planCheck_frame _) apart (h _)

theorem foldl_keeps {α : Type} {f : State → α → State} (h : ∀ s x, P s → P (f s x)) (l : List α) (hs : P s) :
    P (l.foldl f s) := by
  induction l generalizing s with
  | nil => exact hs
  | cons x l ih => exact ih (h s x hs)

end

section
variable {s : State}

/-- A STATION write keeps what its placing keeps, if that rests on neither BD nor the plan check. -/
theorem writeStation_keeps {P : State → Prop} {a : Set Part} (rests : RestsOn P a)
    (apart : ∀ part ∈ a, part ∉ ({.plan, .battery, .events, .queue .down} : Set Part)) (hs : P s)
    (hplaced : ∀ pos new, (∃ p, new = (takeStation s.fs.stations[pos] p).1) → P (s.placed pos new)) (p : List Byte) :
    P (State.writeStation p s).1 := by
  have hplan (t : State) (ht : P t) : P t.planCheck :=
    rests.kept t.planCheck_frame (fun part hp hin => apart part hp (by simp_all)) ht
  unfold State.writeStation
  split
  · dsimp only
    split
    · exact hs
    · split
      · exact hs
      · refine hplan _ ?_
        rw [s.placeStation_eq]
        split
        · exact rests.kept (State.evaluateWith_frame _ _) (fun part hp hin => apart part hp (by simp_all))
            (hplaced _ _ ⟨_, rfl⟩)
        · exact hplaced _ _ ⟨_, rfl⟩
  · exact hs

end

/-! ### Canopy Control (O60) -/

/-- The parts on which CurtailmentInv rests. -/
def curtailmentParts : Set Part := {.canopyTable, .curtailment} ∪ Set.range .string

/-- The commands that may change the canopy table, K or the strings, restarts and resets apart. -/
theorem curtailmentParts_changed {c : Instr} {part : Part} (ha : part ∈ curtailmentParts) (hw : part ∈ workParts c) :
    workOf c = none ∨ c = .stationWrite ∨ c = .canopyWrite ∨ c = .canopyPublication := by
  have hpart : part = .canopyTable ∨ part = .curtailment ∨ ∃ j, part = .string j := by
    simpa [curtailmentParts, or_assoc, eq_comm] using ha
  cases c with
  | warmRestart | supplyLoss | coldReset => exact .inl rfl
  | stationWrite | canopyWrite | canopyPublication => simp
  | _ =>
    rcases hpart with rfl | rfl | ⟨j, rfl⟩ <;>
      simp [workParts, demandParts, writtenParts, siteParts, inputParts, staleParts, answeredParts, releasedParts,
        counterParts, timerParts, finalisedParts, passParts, publishedParts] at hw

/-- The curtailment rests on the canopy table, the amount K and the caps in force. -/
theorem CurtailmentInv.of_caps {s t : State} (htable : t.cc.table = s.cc.table) (hamount : t.cc.amount = s.cc.amount)
    (hcaps : ∀ j : StringNo, t.cc.strings[j].cap = s.cc.strings[j].cap) (h : CurtailmentInv s) : CurtailmentInv t := by
  obtain ⟨hbound, hoff, hcap⟩ := h
  refine ⟨?_, ?_, fun j => ?_⟩
  · rwa [htable, hamount]
  · rwa [htable, hamount]
  · rw [htable, hamount, hcaps]; exact hcap j

theorem curtailmentInv_restsOn : RestsOn CurtailmentInv curtailmentParts := fun s t same =>
  CurtailmentInv.of_caps (same .canopyTable (by simp [curtailmentParts])) (same .curtailment (by simp [curtailmentParts])).1
    fun j => congrArg StringState.cap (same (.string j) (by simp [curtailmentParts]))

/-- An amount bounded by the ratings of the table that stands, with the caps that go with it. -/
theorem curtailmentInv_bounded {s : State} {n : Nat}
    (hamount : s.cc.amount = if s.cc.table.enabled then min n (ratingSum s.cc.table s.cc.table.on) else 0)
    (hcaps : ∀ j : StringNo, s.cc.amount = 0 ∨ s.cc.table.on j = false → s.cc.strings[j].cap = none) :
    CurtailmentInv s := by
  refine ⟨?_, fun hoff => by simp [hamount, hoff], hcaps⟩
  rw [hamount]
  split
  · exact Nat.min_le_right _ _
  · exact Nat.zero_le _

theorem sendCap_keeps_curtailmentInv {s : State} (j : StringNo) (address : Byte) (cap : Nat) (h : CurtailmentInv s) :
    CurtailmentInv (s.sendCap j address cap) := by
  unfold State.sendCap
  dsimp only
  split
  · refine CurtailmentInv.of_caps (by simp) (by simp) (fun i => ?_) h
    by_cases hij : i = j
    · subst hij; simp
    · have hne : (j : Nat) ≠ i := fun e => hij (Fin.ext e.symm)
      simp [Vector.getElem_set_ne, hne]
  · exact CurtailmentInv.of_caps (by simp) (by simp) (by simp) h

theorem sendString_keeps_curtailmentInv {s : State} (j : StringNo) (h : CurtailmentInv s) :
    CurtailmentInv (s.sendString j) := by
  unfold State.sendString
  dsimp only
  split
  · exact h
  · split
    · split
      · exact sendCap_keeps_curtailmentInv _ _ _ h
      · split
        · exact sendCap_keeps_curtailmentInv _ _ _ h
        · exact h
    · split
      · exact sendCap_keeps_curtailmentInv _ _ _ h
      · exact h

theorem markReleases_keeps_curtailmentInv {s : State} (ended : Bool) (was : StringNo → Bool) (h : CurtailmentInv s) :
    CurtailmentInv (s.markReleases ended was) :=
  CurtailmentInv.of_caps (s := s) rfl rfl (fun j => by simp [State.markReleases]) h

theorem publishCanopy_curtailmentInv (s : State) (p : CanopyPass) : CurtailmentInv (s.publishCanopy p) := by
  have hcaps : CurtailmentInv (s.publishCaps p) := by
    refine curtailmentInv_bounded (n := p.amount) rfl fun j h => ?_
    have hcap : (s.publishCaps p).cc.strings[j].cap =
        if (s.publishCaps p).cc.amount = 0 ∨ s.cc.table.on j = false then none else p.caps[j] := by
      simp [State.publishCaps]
    rw [hcap]
    exact if_pos h
  have hraised (c : Bool) : CurtailmentInv ((s.publishCaps p).raiseIf c .curtailActive) :=
    CurtailmentInv.of_caps (by simp) (by simp) (by simp) hcaps
  have htimer (t : State) (x : Countdown) (h : CurtailmentInv t) : CurtailmentInv { t with cc.timer := x } := h
  exact htimer _ _ (foldl_keeps (fun t j => sendString_keeps_curtailmentInv j) _
    (markReleases_keeps_curtailmentInv _ _ (hraised _)))

theorem takeCanopyTable_curtailmentInv (s : State) (t : CanopyTable) : CurtailmentInv (s.takeCanopyTable t) := by
  refine curtailmentInv_bounded (n := s.cc.amount) rfl fun j h => ?_
  have hcap : (s.takeCanopyTable t).cc.strings[j].cap =
      if (s.takeCanopyTable t).cc.amount = 0 ∨ t.on j = false then none else s.cc.strings[j].cap := by
    simp [State.takeCanopyTable, State.markReleases]
  rw [hcap]
  exact if_pos h

theorem forgetCap_keeps_curtailmentInv {s : State} (j : StringNo) (h : CurtailmentInv s) :
    CurtailmentInv (s.forgetCap j) := by
  refine CurtailmentInv.of_caps (s := s) rfl rfl (fun i => ?_) h
  by_cases hij : i = j
  · subst hij; simp [State.forgetCap]
  · have hne : (j : Nat) ≠ i := fun e => hij (Fin.ext e.symm)
    simp [State.forgetCap, Vector.getElem_set_ne, hne]

theorem placed_keeps_curtailmentInv {s : State} (pos : Position) (new : Option Station) (h : CurtailmentInv s) :
    CurtailmentInv (s.placed pos new) := by
  have hset : CurtailmentInv (s.setStation pos new) := h
  exact foldl_keeps (P := CurtailmentInv)
    (fun t b => curtailmentInv_restsOn.kept (t.modAlloc_frame b _) (by simp [curtailmentParts, or_imp, forall_and])) _
    (foldl_keeps (fun t j => forgetCap_keeps_curtailmentInv j) _ hset)

theorem warmWork_curtailmentInv (s : State) (cause : RestartCause) (high low : Bool) :
    CurtailmentInv (State.warmWork cause high low s) := by
  have hcanopy (t : State) : CurtailmentInv t.restartCanopy := by
    refine ⟨Nat.zero_le _, fun _ => rfl, fun j _ => ?_⟩
    simp [State.restartCanopy]
  exact curtailmentInv_restsOn.kept (State.restartReceipts_frame _) (by simp [curtailmentParts, or_imp, forall_and])
    (hcanopy _)

/-- Settles O60: a publication and a CANOPY write bound K by the table that stands, and nothing else touches K, the table or the
caps in force. -/
theorem stepKeepsCurtailment : Obligations.StepKeepsCurtailment := by
  unfold Obligations.StepKeepsCurtailment
  intro s t hs h
  refine step_keeps curtailmentInv_restsOn (by simp [curtailmentParts, outerParts, or_imp, forall_and]) reset_curtailmentInv
    (fun s => curtailmentInv_restsOn.kept s.sendStatus_frame (by simp [curtailmentParts, or_imp, forall_and])) ?work
    (fun s high low => curtailmentInv_restsOn.kept (s.coldPins_frame high low) (by simp [curtailmentParts, inputParts, or_imp, forall_and]))
    (fun s cause high low _ => warmWork_curtailmentInv _ cause high low) hs h
  intro c work s hc hs
  have apart : ∀ part ∈ curtailmentParts, part ∉ answeredParts := by simp [curtailmentParts, answeredParts, or_imp, forall_and]
  cases c with
  | warmRestart | supplyLoss | coldReset => cases hc
  | stationWrite =>
    cases hc
    exact curtailmentInv_restsOn.kept_by_service apart (writeStation_keeps curtailmentInv_restsOn
      (by simp [curtailmentParts, or_imp, forall_and]) hs fun pos new _ => placed_keeps_curtailmentInv pos new hs) hs
  | canopyWrite =>
    cases hc
    exact curtailmentInv_restsOn.kept_by_service apart (fun p => curtailmentInv_restsOn.kept_by_write
      (by simp [curtailmentParts, or_imp, forall_and]) (fun _ => takeCanopyTable_curtailmentInv s _) hs p) hs
  | canopyPublication =>
    cases hc
    dsimp only
    split
    · exact publishCanopy_curtailmentInv s _
    · exact hs
  | _ =>
    exact curtailmentInv_restsOn.kept (workOf_frame hc s)
      (fun part ha hw => by simpa [workOf] using curtailmentParts_changed ha hw) hs

end Sys2Proof.Machine
end

section
/-! What every step keeps of the Allocation Engine (O57): grants within the budget, and each bay once in the rotation lists. -/

namespace Sys2Proof.Machine

/-! ### Power (R1) -/

theorem powerOf_zero (volts : Nat) (ph : Phases) : powerOf 0 volts ph = 0 := by
  simp [powerOf]

/-! ### First-fit admission (R56) -/

/-- The minimums that admission takes, with what it leaves, are the remainder it was given. -/
theorem admitWalk_power (volts : Nat) (cs : List Candidate) (r : Nat) :
    ((admitWalk volts cs r).1.map fun c => c.minPower volts).sum + (admitWalk volts cs r).2 = r := by
  induction cs generalizing r with
  | nil => simp [admitWalk]
  | cons c cs ih =>
    unfold admitWalk
    split
    next h =>
      have := ih (r - c.minPower volts)
      simp only [List.map_cons, List.sum_cons]
      omega
    next => exact ih r

theorem admitWalk_sublist (volts : Nat) (cs : List Candidate) (r : Nat) : ((admitWalk volts cs r).1).Sublist cs := by
  induction cs generalizing r with
  | nil => simp [admitWalk]
  | cons c cs ih =>
    unfold admitWalk
    split
    · exact (ih _).cons_cons c
    · exact (ih r).cons c

/-! ### The common step (R57, R58) -/

/-- A step of a class costs no more than the remainder. -/
theorem stepCost_classStep (volts : Nat) (cs : List Candidate) (r : Nat) :
    stepCost volts cs (classStep volts cs r) ≤ r := by
  obtain ⟨-, hzero | hfit, -⟩ := greatest_spec (fun x => decide (stepCost volts cs x ≤ r)) (maxGap cs)
  · have hstep : classStep volts cs r = 0 := hzero
    rw [hstep]
    simp [stepCost, stepPower, Candidate.raised, Candidate.minPower]
  · exact of_decide_eq_true hfit

/-- The power of a list of grants, each at its candidate's phases (R1). -/
def grantedPower (volts : Nat) (gs : List (Candidate × Nat)) : Nat :=
  (gs.map fun g => powerOf g.2 volts g.1.phases).sum

/-- The power of the minimums of a list of candidates (R51). -/
def minimumPower (volts : Nat) (cs : List Candidate) : Nat := (cs.map fun c => c.minPower volts).sum

theorem grantedPower_append (volts : Nat) (gs hs : List (Candidate × Nat)) :
    grantedPower volts (gs ++ hs) = grantedPower volts gs + grantedPower volts hs := by
  simp [grantedPower]

theorem grantedPower_minimums (volts : Nat) (cs : List Candidate) :
    grantedPower volts (cs.map fun c => (c, c.imin)) = minimumPower volts cs := by
  simp [grantedPower, minimumPower, Function.comp_def, Candidate.minPower]

theorem grantedPower_step (volts : Nat) (cs : List Candidate) (x : Nat) :
    grantedPower volts (cs.map fun c => (c, c.raised x)) ≤ minimumPower volts cs + stepCost volts cs x := by
  have hpower : grantedPower volts (cs.map fun c => (c, c.raised x)) = stepPower volts cs x := by
    simp [grantedPower, stepPower, Function.comp_def]
  simp only [hpower, stepCost, minimumPower]
  omega

/-- The fill takes no more than the minimums and the remainder together. -/
theorem fill_power (volts : Nat) (classes : List (List Candidate)) (r : Nat) :
    grantedPower volts (fill volts classes r) ≤ minimumPower volts classes.flatten + r := by
  induction classes generalizing r with
  | nil => simp [fill, grantedPower]
  | cons cs rest ih =>
    have hstep := grantedPower_step volts cs (classStep volts cs r)
    have hcost := stepCost_classStep volts cs r
    have hsplit : minimumPower volts (cs :: rest).flatten = minimumPower volts cs + minimumPower volts rest.flatten := by
      simp [minimumPower]
    unfold fill
    dsimp only
    split
    · have hrest := ih (r - stepCost volts cs (classStep volts cs r))
      rw [grantedPower_append, hsplit]
      omega
    · rw [grantedPower_append, grantedPower_minimums, hsplit]
      omega

/-- A grant of the fill is that of one of its candidates, from its minimum to its maximum. -/
theorem fill_mem {volts : Nat} {classes : List (List Candidate)} {r : Nat} {g : Candidate × Nat}
    (h : g ∈ fill volts classes r) : g.1 ∈ classes.flatten ∧ ∃ x, g.2 = g.1.raised x := by
  induction classes generalizing r with
  | nil => simp [fill] at h
  | cons cs rest ih =>
    have raised {x : Nat} (hg : g ∈ cs.map fun c => (c, c.raised x)) :
        g.1 ∈ (cs :: rest).flatten ∧ ∃ x, g.2 = g.1.raised x := by
      obtain ⟨c, hc, rfl⟩ := List.mem_map.mp hg
      exact ⟨by simp [hc], x, rfl⟩
    unfold fill at h
    dsimp only at h
    split at h
    · rcases List.mem_append.mp h with hg | hg
      · exact raised hg
      · exact ⟨by simpa using .inr (by simpa using (ih hg).1), (ih hg).2⟩
    · rcases List.mem_append.mp h with hg | hg
      · exact raised hg
      · obtain ⟨c, hc, rfl⟩ := List.mem_map.mp hg
        exact ⟨by simpa using .inr (by simpa using hc), 0, by simp [Candidate.raised]⟩

/-- A sum over the candidates of each class is one over all of them. -/
theorem sum_byClass (w : Candidate → Nat) (cs : List Candidate) :
    ((byClass cs).flatten.map w).sum = (cs.map w).sum := by
  have hclasses : ((byClass cs).flatten.map w).sum = ∑ k : ClassNo, ((cs.filter fun c => c.cls == k).map w).sum := by
    simp [byClass, List.map_flatten, List.sum_flatten, Fin.sum_univ_def, Function.comp_def]
  rw [hclasses]
  induction cs with
  | nil => simp
  | cons c cs ih =>
    have hhead (k : ClassNo) : (((c :: cs).filter fun c => c.cls == k).map w).sum =
        (if c.cls = k then w c else 0) + ((cs.filter fun c => c.cls == k).map w).sum := by
      by_cases h : c.cls = k <;> simp [h]
    simp only [hhead, Finset.sum_add_distrib]
    rw [ih (by simp [byClass, List.map_flatten, List.sum_flatten, Fin.sum_univ_def, Function.comp_def])]
    simp

theorem mem_byClass {cs : List Candidate} {c : Candidate} (h : c ∈ (byClass cs).flatten) : c ∈ cs := by
  simp only [byClass, List.mem_flatten, List.mem_map, List.mem_finRange, true_and] at h
  obtain ⟨_, ⟨k, rfl⟩, hc⟩ := h
  exact List.mem_of_mem_filter hc

/-- What a NORMAL pass grants is within its budget (R56 to R58). -/
theorem allocate_power (volts budget : Nat) (walk : List Candidate) :
    grantedPower volts (allocate volts budget walk) ≤ budget := by
  have hwalk := admitWalk_power volts walk budget
  have hfill := fill_power volts (byClass (admitWalk volts walk budget).1) (admitWalk volts walk budget).2
  have hclasses : minimumPower volts (byClass (admitWalk volts walk budget).1).flatten =
      minimumPower volts (admitWalk volts walk budget).1 := sum_byClass _ _
  rw [hclasses] at hfill
  exact hfill.trans hwalk.le

/-- What a FALLBACK pass grants is within its budget (R61). -/
theorem fallbackGrants_power (volts budget : Nat) (walk : List Candidate) :
    grantedPower volts (fallbackGrants volts budget walk) ≤ budget := by
  have hwalk := admitWalk_power volts walk budget
  rw [fallbackGrants, grantedPower_minimums, minimumPower]
  omega

theorem allocate_mem {volts budget : Nat} {walk : List Candidate} {g : Candidate × Nat}
    (h : g ∈ allocate volts budget walk) : g.1 ∈ walk ∧ ∃ x, g.2 = g.1.raised x := by
  obtain ⟨hc, hx⟩ := fill_mem h
  exact ⟨(admitWalk_sublist volts walk budget).subset (mem_byClass hc), hx⟩

theorem fallbackGrants_mem {volts budget : Nat} {walk : List Candidate} {g : Candidate × Nat}
    (h : g ∈ fallbackGrants volts budget walk) : g.1 ∈ walk ∧ ∃ x, g.2 = g.1.raised x := by
  obtain ⟨c, hc, rfl⟩ := List.mem_map.mp h
  exact ⟨(admitWalk_sublist volts walk budget).subset hc, 0, by simp [Candidate.raised]⟩

/-! ### Candidates (R51) -/

/-- A candidate is its bay's, with the currents and phases of the bay's figures. -/
theorem State.standing_candidate {s : State} {b : BayNo} {c : Candidate} (h : s.standing b = .candidate c) :
    ∃ f, (s.bay b).session.figures = some f ∧
      c = ⟨b, (s.bay b).config.cls, f.minimum, maxCurrent f (s.bay b).config.cap, f.phases⟩ := by
  unfold State.standing at h
  dsimp only at h
  split at h
  · cases h
  · split at h
    · cases h
    · split at h
      · cases h
      · cases hf : (s.bay b).session.figures with
        | none => simp [hf] at h
        | some f => exact ⟨f, rfl, by simpa [hf, eq_comm] using h⟩

theorem Standing.candidate?_eq_some {x : Standing} {c : Candidate} : x.candidate? = some c ↔ x = .candidate c := by
  cases x <;> simp [Standing.candidate?]

/-- The candidates that a walk over bays meets are those bays' own. -/
theorem standing_of_mem_walk {s : State} {l : List BayNo} {c : Candidate}
    (h : c ∈ l.filterMap fun b => (s.standing b).candidate?) : s.standing c.bay = .candidate c := by
  obtain ⟨b, -, hb⟩ := List.mem_filterMap.mp h
  rw [Standing.candidate?_eq_some] at hb
  obtain ⟨f, -, hc⟩ := State.standing_candidate hb
  have hbay : c.bay = b := by rw [hc]
  rw [hbay, hb]

/-! ### The lines of a pass -/

/-- Grants that are looked up by bay weigh no more than the whole list. -/
theorem sum_find_le (w : Candidate × Nat → Nat) (gs : List (Candidate × Nat)) :
    (∑ b : BayNo, ((gs.find? fun g => g.1.bay == b).map w).getD 0) ≤ (gs.map w).sum := by
  induction gs with
  | nil => simp
  | cons g gs ih =>
    have hhead (b : BayNo) : (((g :: gs).find? fun g => g.1.bay == b).map w).getD 0 ≤
        (if g.1.bay = b then w g else 0) + ((gs.find? fun g => g.1.bay == b).map w).getD 0 := by
      by_cases h : g.1.bay = b <;> simp [h]
    calc
      _ ≤ ∑ b : BayNo, ((if g.1.bay = b then w g else 0) + ((gs.find? fun g => g.1.bay == b).map w).getD 0) :=
        Finset.sum_le_sum fun b _ => hhead b
      _ ≤ w g + (gs.map w).sum := by simpa [Finset.sum_add_distrib] using ih
      _ = ((g :: gs).map w).sum := by simp

/-- A pass whose lines come from grants of its candidates has the power of those grants at most. -/
theorem passLines_power {s : State} {basis : Basis} {gs : List (Candidate × Nat)} (volts : Nat)
    (h : ∀ g ∈ gs, s.standing g.1.bay = .candidate g.1) :
    ((List.finRange 32).map fun b : BayNo =>
      powerOf (s.passLines basis gs)[b].grant volts (s.passLines basis gs)[b].phases).sum ≤ grantedPower volts gs := by
  rw [← Fin.sum_univ_def]
  refine le_trans (Finset.sum_le_sum fun b _ => ?_) (sum_find_le _ gs)
  have hline : (s.passLines basis gs)[b] = s.passLine basis gs b := by simp [State.passLines]
  rw [hline]
  cases hg : gs.find? fun g => g.1.bay == b with
  | none => simp [State.passLine, hg, powerOf_zero]
  | some g =>
    have hmem := List.mem_of_find?_eq_some hg
    have hbay : g.1.bay = b := by simpa using List.find?_some hg
    obtain ⟨f, hf, hc⟩ := State.standing_candidate (h g hmem)
    rw [hbay] at hf hc
    have hphases : g.1.phases = f.phases := by rw [hc]
    simp [State.passLine, hg, hf, hphases]

/-! ### A pass in flight and its publication (R65) -/

/-- The parts on which BudgetInv rests. -/
def budgetParts : Set Part := {.balance, .allocPass}

theorem budgetInv_restsOn : RestsOn BudgetInv budgetParts := fun s t same ⟨hgranted, hpass⟩ => by
  have hb : t.ae.balance = s.ae.balance := same .balance (by simp [budgetParts])
  have hp : t.ae.pass = s.ae.pass := same .allocPass (by simp [budgetParts])
  exact ⟨by rwa [hb], by rwa [hp]⟩

theorem walkOrder_standing {s : State} {c : Candidate} (h : c ∈ s.walkOrder) : s.standing c.bay = .candidate c :=
  standing_of_mem_walk h

theorem bayOrder_standing {s : State} {c : Candidate} (h : c ∈ s.bayOrder) : s.standing c.bay = .candidate c :=
  standing_of_mem_walk h

theorem runPass_balance (s : State) (found : Vector (List BayNo × Bool) 8) :
    (s.runPass found).ae.balance = s.ae.balance := by
  unfold State.runPass
  cases s.passBasis <;> simp [State.updateTrim, State.applyMarks]

/-- The pass that a snapshot puts in flight grants no more than its budget. -/
theorem runPass_power (s : State) (found : Vector (List BayNo × Bool) 8) (p : AllocPass)
    (h : (s.runPass found).ae.pass = some p) : p.power ≤ p.budget := by
  have hnone (t : State) (basis : Basis) (volts budget : Nat) :
      ((List.finRange 32).map fun b : BayNo =>
        powerOf (t.passLines basis [])[b].grant volts (t.passLines basis [])[b].phases).sum ≤ budget :=
    (passLines_power volts (by simp)).trans (by simp [grantedPower])
  unfold State.runPass at h
  cases hb : s.passBasis with
  | settle =>
    simp only [hb, Option.some.injEq] at h
    subst h
    exact hnone _ _ _ _
  | frozen =>
    simp only [hb, Option.some.injEq] at h
    subst h
    exact hnone _ _ _ _
  | fallback =>
    simp only [hb, Option.some.injEq] at h
    subst h
    exact (passLines_power _ fun g hg => bayOrder_standing (fallbackGrants_mem hg).1).trans (fallbackGrants_power _ _ _)
  | normal =>
    simp only [hb, Option.some.injEq] at h
    subst h
    exact (passLines_power _ fun g hg => walkOrder_standing (allocate_mem hg).1).trans (allocate_power _ _ _)

theorem startPass_keeps_budgetInv {s : State} (h : BudgetInv s) : BudgetInv s.startPass := by
  refine ⟨?_, fun p hp => runPass_power _ _ p hp⟩
  have hbalance : s.startPass.ae.balance = s.ae.balance := runPass_balance _ _
  rw [hbalance]
  exact h.1

/-- A published grant is 0 or that of the pass (R64). -/
theorem State.row_le (s : State) (p : AllocPass) (b : BayNo) : (s.row p b).1 ≤ p.lines[b].grant := by
  unfold State.row
  dsimp only
  split
  · exact Nat.zero_le _
  · split
    · exact Nat.zero_le _
    · split
      · exact Nat.zero_le _
      · split
        · exact Nat.zero_le _
        · exact le_rfl

theorem powerOf_mono {m n : Nat} (h : m ≤ n) (volts : Nat) (ph : Phases) : powerOf m volts ph ≤ powerOf n volts ph :=
  Nat.div_le_div_right (Nat.add_le_add_right (Nat.mul_le_mul_right _ (Nat.mul_le_mul_right _ h)) 9)

theorem State.grantedTotal_le (s : State) (p : AllocPass) : s.grantedTotal p ≤ p.power :=
  List.sum_le_sum fun b _ => powerOf_mono (s.row_le p b) _ _

theorem newBalance_granted {s : State} {p : AllocPass} (h : p.power ≤ p.budget) :
    (s.newBalance p).granted ≤ (s.newBalance p).budget := by
  unfold State.newBalance
  dsimp only
  split
  · exact le_rfl
  · exact (s.grantedTotal_le p).trans h

theorem publish_keeps_budgetInv {s : State} {p : AllocPass} (hs : BudgetInv s) (hp : s.ae.pass = some p) :
    BudgetInv (s.publish p) := by
  have htable : BudgetInv (s.publishTable p) := ⟨newBalance_granted (hs.2 p hp), fun _ h => nomatch h⟩
  refine budgetInv_restsOn.kept (State.setAllocTimer_frame _ _) (by simp [budgetParts]) ?_
  refine budgetInv_restsOn.kept (State.batteryPass_frame _) (by simp [budgetParts]) ?_
  refine budgetInv_restsOn.kept (State.publishGrants_frame _ p) (by simp [budgetParts]) ?_
  exact budgetInv_restsOn.kept (State.setDwells_frame _ _) (by simp [budgetParts]) htable

/-! ### The rotation lists (R52) -/

/-- The parts on which RotationInv rests. -/
def rotationParts : Set Part := Set.range .rotation

theorem rotationInv_iff (s : State) :
    RotationInv s ↔
      (∀ k : ClassNo, s.ae.lists[k].Nodup) ∧ ∀ i j : ClassNo, i < j → List.Disjoint s.ae.lists[i] s.ae.lists[j] := by
  have hlists : s.ae.lists.toList = List.ofFn fun k : ClassNo => s.ae.lists[k] := by
    refine List.ext_getElem (by rw [List.length_ofFn, Vector.length_toList]) fun i _ _ => ?_
    rw [List.getElem_ofFn, Vector.getElem_toList]
    rfl
  rw [RotationInv, List.nodup_flatten, hlists, List.pairwise_ofFn]
  exact and_congr_left' (by simp only [List.forall_mem_ofFn_iff])

theorem rotationInv_restsOn : RestsOn RotationInv rotationParts := fun s t same h => by
  have hl (k : ClassNo) : t.ae.lists[k] = s.ae.lists[k] := same (.rotation k) (by simp [rotationParts])
  rw [rotationInv_iff] at h ⊢
  simpa only [hl] using h

/-- A bay belongs in the list of one class alone. -/
theorem State.belongs_cls {s : State} {k : ClassNo} {b : BayNo} (h : s.belongs k b = true) : (s.bay b).config.cls = k := by
  simp only [State.belongs, Bool.and_eq_true, beq_iff_eq] at h
  exact h.2

/-- Lists without duplicates whose bays belong to their classes make up rotation lists. -/
theorem rotationInv_of_belongs {s t : State} (hnodup : ∀ k : ClassNo, t.ae.lists[k].Nodup)
    (hbelongs : ∀ (k : ClassNo), ∀ b ∈ t.ae.lists[k], s.belongs k b = true) : RotationInv t := by
  rw [rotationInv_iff]
  refine ⟨hnodup, fun i j hij b hi hj => hij.ne ?_⟩
  exact (State.belongs_cls (hbelongs i b hi)).symm.trans (State.belongs_cls (hbelongs j b hj))

theorem State.maintained_nodup {s : State} {k : ClassNo} (h : s.ae.lists[k].Nodup) : (s.maintained k).Nodup := by
  refine List.Nodup.append (h.filter _) ((List.nodup_finRange 32).filter _) fun b hb hnew => ?_
  have hfresh := (List.mem_filter.mp hnew).2
  rw [Bool.and_eq_true, Bool.not_eq_true', ← Bool.not_eq_true, List.contains_iff_mem] at hfresh
  exact hfresh.2 hb

theorem State.maintained_belongs {s : State} {k : ClassNo} {b : BayNo} (h : b ∈ s.maintained k) : s.belongs k b = true := by
  rcases List.mem_append.mp h with hb | hb
  · exact (List.mem_filter.mp hb).2
  · exact (Bool.and_eq_true_iff.mp (List.mem_filter.mp hb).2).1

theorem maintainLists_keeps_rotationInv {s : State} (h : RotationInv s) : RotationInv s.maintainLists := by
  have hlist (k : ClassNo) : s.maintainLists.ae.lists[k] = s.maintained k := by simp [State.maintainLists]
  refine rotationInv_of_belongs (s := s) (fun k => ?_) (fun k b hb => ?_)
  · rw [hlist]
    exact State.maintained_nodup (((rotationInv_iff s).mp h).1 k)
  · rw [hlist] at hb
    exact State.maintained_belongs hb

/-- Turning a list keeps its bays (R53). -/
theorem State.turned_perm (s : State) (l : List BayNo) : (s.turned l).Perm l :=
  List.perm_append_comm.trans (List.filter_append_perm _ l)

theorem applyMarks_list_perm (s : State) (k : ClassNo) : (s.applyMarks.ae.lists[k]).Perm s.ae.lists[k] := by
  have hlist : s.applyMarks.ae.lists[k] = if s.ae.dwells[k].mark then s.turned s.ae.lists[k] else s.ae.lists[k] := by
    simp [State.applyMarks]
  rw [hlist]
  split
  · exact s.turned_perm _
  · exact .refl _

theorem applyMarks_keeps_rotationInv {s : State} (h : RotationInv s) : RotationInv s.applyMarks := by
  rw [rotationInv_iff] at h ⊢
  refine ⟨fun k => (applyMarks_list_perm s k).nodup_iff.mpr (h.1 k), fun i j hij b hi hj => ?_⟩
  exact h.2 i j hij ((applyMarks_list_perm s i).mem_iff.mp hi) ((applyMarks_list_perm s j).mem_iff.mp hj)

theorem startPass_keeps_rotationInv {s : State} (h : RotationInv s) : RotationInv s.startPass := by
  have hlists : RotationInv
      ({ s with ae.timer := Countdown.load 0, ae.settling := s.ae.settling && !s.settleEnds } : State).maintainLists :=
    maintainLists_keeps_rotationInv h
  have updated (t : State) (ht : RotationInv t) : RotationInv t.updateTrim := by
    rw [rotationInv_iff] at ht ⊢
    simpa [State.updateTrim] using ht
  unfold State.startPass
  dsimp only
  generalize State.maintainLists _ = t at hlists ⊢
  unfold State.runPass
  cases t.passBasis with
  | settle | fallback => exact hlists
  | frozen => exact updated t hlists
  | normal => exact updated _ (applyMarks_keeps_rotationInv hlists)

theorem restartAlloc_rotationInv (s : State) : RotationInv s.restartAlloc := by
  let t := s.mapBays fun _ x => { x with alloc := ⟨.none, 0, none, Countdown.load 0⟩ }
  have hlist (k : ClassNo) : s.restartAlloc.ae.lists[k] = t.rebuilt k := by simp [State.restartAlloc, t]
  refine rotationInv_of_belongs (s := t) (fun k => ?_) (fun k b hb => ?_)
  · rw [hlist]
    exact (List.nodup_finRange 32).filter _
  · rw [hlist] at hb
    exact (List.mem_filter.mp hb).2

/-! ### Every step -/

/-- The commands that may change the balance record, a pass in flight or the rotation lists, restarts and resets apart. -/
theorem allocationParts_changed {c : Instr} {part : Part} (ha : part ∈ budgetParts ∪ rotationParts)
    (hw : part ∈ workParts c) : workOf c = none ∨ c = .allocationPassStart ∨ c = .publication := by
  have hpart : part = .balance ∨ part = .allocPass ∨ ∃ k, part = .rotation k := by
    simpa [budgetParts, rotationParts, or_assoc, eq_comm] using ha
  cases c with
  | warmRestart | supplyLoss | coldReset => exact .inl rfl
  | allocationPassStart | publication => simp
  | _ =>
    rcases hpart with rfl | rfl | ⟨k, rfl⟩ <;>
      simp [workParts, demandParts, writtenParts, siteParts, inputParts, staleParts, answeredParts, releasedParts,
        counterParts, timerParts, finalisedParts, canopyParts] at hw

theorem warmWork_allocation (s : State) (cause : RestartCause) (high low : Bool) :
    BudgetInv (State.warmWork cause high low s) ∧ RotationInv (State.warmWork cause high low s) := by
  have rests := budgetInv_restsOn.and rotationInv_restsOn
  have hrestart (t : State) : BudgetInv t.restartAlloc ∧ RotationInv t.restartAlloc :=
    ⟨⟨le_rfl, fun _ h => nomatch h⟩, restartAlloc_rotationInv t⟩
  refine rests.kept (State.restartReceipts_frame _) (by simp [budgetParts, rotationParts, or_imp, forall_and]) ?_
  refine rests.kept (State.restartCanopy_frame _) (by simp [budgetParts, rotationParts, or_imp, forall_and]) ?_
  exact rests.kept (State.restartBattery_frame _) (by simp [budgetParts, rotationParts, or_imp, forall_and]) (hrestart _)

/-- Settles O57: admission and fill stay within the budget of their pass, a publication grants no more than its pass, and the lists
hold bays of their own class alone. -/
theorem stepKeepsAllocation : Obligations.StepKeepsAllocation := by
  unfold Obligations.StepKeepsAllocation
  intro s t hs h
  have rests := budgetInv_restsOn.and rotationInv_restsOn
  refine step_keeps rests (by simp [budgetParts, rotationParts, outerParts, or_imp, forall_and])
    ⟨reset_budgetInv, reset_rotationInv⟩
    (fun s => rests.kept s.sendStatus_frame (by simp [budgetParts, rotationParts, or_imp, forall_and])) ?work
    (fun s high low => rests.kept (s.coldPins_frame high low)
      (by simp [budgetParts, rotationParts, inputParts, or_imp, forall_and]))
    (fun s cause high low _ => warmWork_allocation _ cause high low) hs h
  intro c work s hc hs
  cases c with
  | warmRestart | supplyLoss | coldReset => cases hc
  | allocationPassStart =>
    cases hc
    dsimp only
    split
    · exact ⟨startPass_keeps_budgetInv hs.1, startPass_keeps_rotationInv hs.2⟩
    · exact hs
  | publication =>
    cases hc
    dsimp only
    split
    next p hp =>
      refine ⟨publish_keeps_budgetInv hs.1 hp, rotationInv_restsOn.kept (s.publish_frame p) ?_ hs.2⟩
      simp [rotationParts, publishedParts]
    next => exact hs
  | _ =>
    exact rests.kept (workOf_frame hc s) (fun part ha hw => by simpa [workOf] using allocationParts_changed ha hw) hs

end Sys2Proof.Machine
end

section
/-! The shares of a tick by largest remainder (R119, R120): no share exceeds its weight, and the shares make up the total. -/

namespace Sys2Proof.Machine

theorem toList_eq_ofFn {α : Type} {n : Nat} (v : Vector α n) : v.toList = List.ofFn fun i : Fin n => v[i] := by
  refine List.ext_getElem (by rw [List.length_ofFn, Vector.length_toList]) fun i _ _ => ?_
  rw [List.getElem_ofFn, Vector.getElem_toList]
  rfl

theorem toList_sum {n : Nat} (v : Vector Nat n) : v.toList.sum = ∑ i : Fin n, v[i] := by
  rw [toList_eq_ofFn, List.sum_ofFn]

/-! ### The order in which the difference is handed out -/

section
variable (rest : Vector Nat 32)

/-- The bays that are served before a bay: larger remainders first, ties to the lower bay number (R119). -/
def servedBefore (b : BayNo) : Finset BayNo :=
  Finset.univ.filter fun c => rest[b] < rest[c] ∨ (rest[c] = rest[b] ∧ c < b)

theorem mem_servedBefore {b c : BayNo} :
    c ∈ servedBefore rest b ↔ rest[b] < rest[c] ∨ (rest[c] = rest[b] ∧ c.val < b.val) := by
  rw [servedBefore, Finset.mem_filter]
  exact and_iff_right (Finset.mem_univ c)

theorem bayRank_eq_card (b : BayNo) : bayRank rest b = (servedBefore rest b).card := by
  rw [bayRank, servedBefore, Finset.card_filter, Fin.sum_univ_def, ← List.countP_eq_length_filter]
  induction List.finRange 32 with
  | nil => rfl
  | cons c l ih =>
    rw [List.countP_cons, ih, List.map_cons, List.sum_cons, Nat.add_comm]
    simp

theorem servedBefore_ssubset {b c : BayNo} (h : c ∈ servedBefore rest b) : servedBefore rest c ⊂ servedBefore rest b := by
  refine Finset.ssubset_iff_subset_ne.mpr ⟨fun d hd => ?_, fun e => ?_⟩
  · rw [mem_servedBefore] at *
    omega
  · rw [← e, mem_servedBefore] at h
    omega

theorem bayRank_lt_of_served {b c : BayNo} (h : c ∈ servedBefore rest b) : bayRank rest c < bayRank rest b := by
  rw [bayRank_eq_card, bayRank_eq_card]
  exact Finset.card_lt_card (servedBefore_ssubset rest h)

theorem bayRank_lt (b : BayNo) : bayRank rest b < 32 := by
  rw [bayRank_eq_card]
  have hself : b ∉ servedBefore rest b := by rw [mem_servedBefore]; omega
  exact (Finset.card_lt_univ_of_notMem hself).trans_eq (by simp)

theorem bayRank_injective : Function.Injective fun b : BayNo => (⟨bayRank rest b, bayRank_lt rest b⟩ : Fin 32) := by
  intro b c h
  have hrank : bayRank rest b = bayRank rest c := congrArg Fin.val h
  by_contra hne
  have hval : b.val ≠ c.val := fun e => hne (Fin.ext e)
  have hserved : c ∈ servedBefore rest b ∨ b ∈ servedBefore rest c := by
    rw [mem_servedBefore, mem_servedBefore]
    omega
  rcases hserved with hs | hs
  · exact (bayRank_lt_of_served rest hs).ne' hrank
  · exact (bayRank_lt_of_served rest hs).ne hrank

/-- As many bays as there are units of the difference get one of them. -/
theorem sum_bayRank_lt {d : Nat} (h : d ≤ 32) : (∑ b : BayNo, if bayRank rest b < d then 1 else 0) = d := by
  have hbij := Finite.injective_iff_bijective.mp (bayRank_injective rest)
  calc
    _ = ∑ i : Fin 32, if i.val < d then 1 else 0 := hbij.sum_comp fun i : Fin 32 => if i.val < d then 1 else 0
    _ = d := by rw [← Finset.card_filter, Fin.card_filter_val_lt, Nat.min_eq_right h]

/-- A bay without a remainder is served behind every bay with one. -/
theorem card_pos_le_bayRank {b : BayNo} (h : rest[b] = 0) :
    (Finset.univ.filter fun c : BayNo => 0 < rest[c]).card ≤ bayRank rest b := by
  rw [bayRank_eq_card]
  refine Finset.card_le_card fun c hc => ?_
  rw [mem_servedBefore, h]
  exact .inl (by simpa using hc)

end

/-! ### Floors, remainders and the difference -/

section
variable (total : Nat) (weights : Vector Nat 32)

/-- The sum of the weights. -/
def weightSum : Nat := ∑ b : BayNo, weights[b]

/-- The remainders of the floor shares (R119). -/
def shareRests : Vector Nat 32 := weights.map (shareRest total (weightSum weights))

/-- What the floor shares leave of the total (R119). -/
def shareDifference : Nat := total - ∑ b : BayNo, floorShare total (weightSum weights) weights[b]

theorem shares_of_zero (h : weightSum weights = 0) (b : BayNo) : (shares total weights)[b] = 0 := by
  have hsum : weights.toList.sum = 0 := (toList_sum weights).trans h
  simp [shares, hsum]

theorem shares_getElem (h : weightSum weights ≠ 0) (b : BayNo) :
    (shares total weights)[b] =
      floorShare total (weightSum weights) weights[b] +
        if bayRank (shareRests total weights) b < shareDifference total weights then 1 else 0 := by
  have hsum : weights.toList.sum = weightSum weights := toList_sum weights
  have hfloors : (weights.map (floorShare total (weightSum weights))).toList.sum =
      ∑ b : BayNo, floorShare total (weightSum weights) weights[b] := by
    rw [toList_sum]
    simp
  simp only [shares, hsum, h, if_false, hfloors]
  simp [shareRests, shareDifference]

/-- The floor shares with their remainders make up the total, as many times as the weights sum to. -/
theorem floorShare_mul_add_rest (w : Nat) :
    floorShare total (weightSum weights) w * weightSum weights + shareRest total (weightSum weights) w = total * w :=
  Nat.div_add_mod' _ _

theorem sum_floorShare_mul_add :
    (∑ b : BayNo, floorShare total (weightSum weights) weights[b]) * weightSum weights +
      ∑ b : BayNo, (shareRests total weights)[b] = total * weightSum weights := by
  have hrest (b : BayNo) : (shareRests total weights)[b] = shareRest total (weightSum weights) weights[b] := by
    simp [shareRests]
  simp only [hrest, Finset.sum_mul, ← Finset.sum_add_distrib, floorShare_mul_add_rest]
  rw [← Finset.mul_sum, weightSum]

variable {total weights}

theorem sum_floorShare_le (h : weightSum weights ≠ 0) :
    ∑ b : BayNo, floorShare total (weightSum weights) weights[b] ≤ total := by
  have hmul := sum_floorShare_mul_add total weights
  exact Nat.le_of_mul_le_mul_right (by omega) (Nat.pos_of_ne_zero h)

/-- The difference is what the remainders make up together. -/
theorem shareDifference_mul :
    shareDifference total weights * weightSum weights = ∑ b : BayNo, (shareRests total weights)[b] := by
  have hmul := sum_floorShare_mul_add total weights
  rw [shareDifference, Nat.sub_mul]
  omega

theorem shareRests_lt (h : weightSum weights ≠ 0) (b : BayNo) : (shareRests total weights)[b] < weightSum weights := by
  simpa [shareRests, shareRest] using Nat.mod_lt _ (Nat.pos_of_ne_zero h)

/-- No more units are handed out than there are bays with a remainder. -/
theorem shareDifference_le_card (h : weightSum weights ≠ 0) :
    shareDifference total weights ≤ (Finset.univ.filter fun c : BayNo => 0 < (shareRests total weights)[c]).card := by
  refine Nat.le_of_mul_le_mul_right (c := weightSum weights) ?_ (Nat.pos_of_ne_zero h)
  rw [shareDifference_mul, Finset.card_filter, Finset.sum_mul]
  refine Finset.sum_le_sum fun b _ => ?_
  have hlt := shareRests_lt (total := total) h b
  split <;> omega

theorem shareDifference_le (h : weightSum weights ≠ 0) : shareDifference total weights ≤ 32 :=
  (shareDifference_le_card h).trans (by simpa using Finset.card_le_univ (α := BayNo) _)

/-- The shares make up the total (R119). -/
theorem sum_shares (h : total ≤ weightSum weights) : ∑ b : BayNo, (shares total weights)[b] = total := by
  by_cases hzero : weightSum weights = 0
  · simp only [shares_of_zero total weights hzero, Finset.sum_const_zero]
    omega
  · simp only [shares_getElem total weights hzero, Finset.sum_add_distrib, sum_bayRank_lt _ (shareDifference_le hzero)]
    have hfloors := sum_floorShare_le (total := total) hzero
    rw [shareDifference]
    omega

/-- A unit goes to bays with a remainder alone. -/
theorem shareRests_pos (h : weightSum weights ≠ 0) {b : BayNo}
    (hb : bayRank (shareRests total weights) b < shareDifference total weights) : 0 < (shareRests total weights)[b] := by
  by_contra hrest
  have hcard := card_pos_le_bayRank (shareRests total weights) (b := b) (by omega)
  have hle := shareDifference_le_card (total := total) h
  omega

/-- No share exceeds its weight (R119). -/
theorem share_le_weight (h : total ≤ weightSum weights) (b : BayNo) : (shares total weights)[b] ≤ weights[b] := by
  by_cases hzero : weightSum weights = 0
  · rw [shares_of_zero total weights hzero]
    exact Nat.zero_le _
  · rw [shares_getElem total weights hzero]
    have hmul := floorShare_mul_add_rest total weights weights[b]
    have hbound : total * weights[b] ≤ weights[b] * weightSum weights := by
      rw [Nat.mul_comm]
      exact Nat.mul_le_mul_left _ h
    split
    next hserved =>
      have hpos : 0 < shareRest total (weightSum weights) weights[b] := by
        simpa [shareRests] using shareRests_pos hzero hserved
      exact Nat.lt_of_mul_lt_mul_right (a := weightSum weights) (by omega)
    next =>
      rw [Nat.add_zero]
      exact Nat.le_of_mul_le_mul_right (c := weightSum weights) (by omega) (Nat.pos_of_ne_zero hzero)

/-- A bay with a unit above its floor share is served before one without (R119). -/
theorem served_of_unit (h : weightSum weights ≠ 0) {b c : BayNo}
    (hb : (shares total weights)[b] = floorShare total (weightSum weights) weights[b] + 1)
    (hc : (shares total weights)[c] = floorShare total (weightSum weights) weights[c]) :
    shareRest total (weightSum weights) weights[c] < shareRest total (weightSum weights) weights[b] ∨
      (shareRest total (weightSum weights) weights[c] = shareRest total (weightSum weights) weights[b] ∧ b < c) := by
  have hserved : bayRank (shareRests total weights) b < shareDifference total weights := by
    by_contra hno
    simp [shares_getElem total weights h, hno] at hb
  have hmissed : ¬ bayRank (shareRests total weights) c < shareDifference total weights := fun hyes => by
    simp [shares_getElem total weights h, hyes] at hc
  have hnot : c ∉ servedBefore (shareRests total weights) b := fun hmem => by
    have hrank := bayRank_lt_of_served _ hmem
    omega
  have hne : b.val ≠ c.val := fun e => hmissed (Fin.ext e ▸ hserved)
  have hrest (d : BayNo) : (shareRests total weights)[d] = shareRest total (weightSum weights) weights[d] := by
    simp [shareRests]
  rw [mem_servedBefore, hrest, hrest] at hnot
  rw [Fin.lt_def]
  omega

end

end Sys2Proof.Machine
end

section
/-! The metering tick (R117 to R124), and that every step keeps every session's accounts in agreement (O55). -/

namespace Sys2Proof.Machine

/-! ### Band entries (R122) -/

/-- The energy that band entries hold. -/
def bandJoules (entries : List BandEntry) : Nat := (entries.map (·.joules)).sum

/-- A band entry that takes a tick's energy and cost. -/
def BandEntry.add (e : BandEntry) (joules cost : Nat) : BandEntry :=
  { e with joules := e.joules + joules, cost := e.cost + cost }

/-- The entry of a band takes a tick's energy and cost, the others stand. -/
def addAt (band : BandRef) (joules cost : Nat) (entries : List BandEntry) : List BandEntry :=
  entries.map fun e => if e.band = band then e.add joules cost else e

section
variable (entries : List BandEntry) (merged : Bool) (band : BandRef) (joules cost : Nat)

/-- The three outcomes of an accumulation: the band's own entry, a new one at the tail, or the last one with the merged flag. -/
theorem accumulate_cases :
    ((∃ e ∈ entries, e.band = band) ∧ accumulate entries merged band joules cost = (addAt band joules cost entries, merged)) ∨
      ((∀ e ∈ entries, e.band ≠ band) ∧
        ((entries.length < bandSlots ∧ accumulate entries merged band joules cost = (entries ++ [⟨band, joules, cost⟩], merged)) ∨
          (bandSlots ≤ entries.length ∧ accumulate entries merged band joules cost = (addToLast joules cost entries, true)))) := by
  unfold accumulate
  by_cases hany : ∃ e ∈ entries, e.band = band
  · refine .inl ⟨hany, if_pos (by simpa using hany)⟩
  · have hnone : (entries.any fun e => e.band == band) = false := by simpa using hany
    refine .inr ⟨by simpa using hany, ?_⟩
    rw [if_neg (by simp [hnone])]
    by_cases hlen : entries.length < bandSlots
    · exact .inl ⟨hlen, if_pos hlen⟩
    · exact .inr ⟨Nat.le_of_not_lt hlen, if_neg hlen⟩

theorem addAt_bands : (addAt band joules cost entries).map (·.band) = entries.map (·.band) := by
  simp only [addAt, List.map_map]
  refine List.map_congr_left fun e _ => ?_
  simp only [Function.comp_apply]
  split <;> rfl

theorem addToLast_bands : (addToLast joules cost entries).map (·.band) = entries.map (·.band) := by
  fun_induction addToLast joules cost entries with
  | case1 => rfl
  | case2 => rfl
  | case3 e rest _ ih => simpa using ih

theorem addToLast_joules (h : entries ≠ []) : bandJoules (addToLast joules cost entries) = bandJoules entries + joules := by
  fun_induction addToLast joules cost entries with
  | case1 => exact absurd rfl h
  | case2 e => simp [bandJoules]
  | case3 e rest hrest ih =>
    have := ih (by simpa using hrest)
    simp only [bandJoules, List.map_cons, List.sum_cons] at *
    omega

variable {entries band}

theorem addAt_of_absent (h : ∀ e ∈ entries, e.band ≠ band) : addAt band joules cost entries = entries := by
  refine (List.map_congr_left fun e he => ?_).trans (List.map_id _)
  exact if_neg (h e he)

/-- Bands listed once take a tick's energy once. -/
theorem addAt_joules (h : ∃ e ∈ entries, e.band = band) (hnodup : (entries.map (·.band)).Nodup) :
    bandJoules (addAt band joules cost entries) = bandJoules entries + joules := by
  induction entries with
  | nil => simp at h
  | cons x rest ih =>
    rw [List.map_cons, List.nodup_cons] at hnodup
    by_cases hx : x.band = band
    · have habsent : ∀ e ∈ rest, e.band ≠ band := fun e he heq =>
        hnodup.1 (List.mem_map.mpr ⟨e, he, heq.trans hx.symm⟩)
      have hrest := addAt_of_absent joules cost habsent
      have hhead : addAt band joules cost (x :: rest) = x.add joules cost :: rest := by
        rw [← hrest, addAt, List.map_cons, if_pos hx, hrest, ← addAt, hrest]
      rw [hhead]
      simp only [bandJoules, List.map_cons, List.sum_cons, BandEntry.add]
      omega
    · have hexists : ∃ e ∈ rest, e.band = band := by simpa [hx] using h
      have hsum := ih hexists hnodup.2
      simp only [bandJoules, addAt, List.map_cons, hx, if_false, List.sum_cons] at hsum ⊢
      omega

variable (entries band)

theorem accumulate_joules (hnodup : (entries.map (·.band)).Nodup) :
    bandJoules (accumulate entries merged band joules cost).1 = bandJoules entries + joules := by
  rcases accumulate_cases entries merged band joules cost with ⟨hany, e⟩ | ⟨-, ⟨-, e⟩ | ⟨hfull, e⟩⟩ <;> rw [e]
  · exact addAt_joules joules cost hany hnodup
  · simp [bandJoules]
  · refine addToLast_joules _ _ _ fun hnil => ?_
    simp [hnil, bandSlots] at hfull

theorem accumulate_nodup (hnodup : (entries.map (·.band)).Nodup) :
    ((accumulate entries merged band joules cost).1.map (·.band)).Nodup := by
  rcases accumulate_cases entries merged band joules cost with ⟨-, e⟩ | ⟨hnone, ⟨-, e⟩ | ⟨-, e⟩⟩ <;> rw [e]
  · rwa [addAt_bands]
  · rw [List.map_append, List.nodup_append]
    refine ⟨hnodup, by simp, fun x hx y hy => ?_⟩
    obtain ⟨e, he, rfl⟩ := List.mem_map.mp hx
    rw [List.map_singleton, List.mem_singleton] at hy
    exact hy ▸ hnone e he
  · rwa [addToLast_bands]

theorem accumulate_length (h : entries.length ≤ bandSlots) :
    (accumulate entries merged band joules cost).1.length ≤ bandSlots := by
  have bands_length {l l' : List BandEntry} (h : l.map (·.band) = l'.map (·.band)) : l.length = l'.length := by
    simpa using congrArg List.length h
  rcases accumulate_cases entries merged band joules cost with ⟨-, e⟩ | ⟨-, ⟨hlt, e⟩ | ⟨-, e⟩⟩ <;> rw [e]
  · exact (bands_length (addAt_bands entries band joules cost)).trans_le h
  · simpa using hlt
  · exact (bands_length (addToLast_bands entries joules cost)).trans_le h

end

/-! ### The accounts of one bay -/

theorem freeOf_le (link : Option SessionLink) (t : TickShare) :
    (freeOf link t).1 + (freeOf link t).2 ≤ t.solar + t.battery + t.grid := by
  cases link with
  | none => simp [freeOf]
  | some l =>
    have hgrid : min t.grid l.remaining ≤ t.grid := Nat.min_le_left _ _
    have hgreen : min (t.solar + t.battery) (l.remaining - min t.grid l.remaining) ≤ t.solar + t.battery :=
      Nat.min_le_left _ _
    simp only [freeOf]
    omega

/-- A tick keeps the accounts of a bay in agreement (R120, R121, R122). -/
theorem meterWith_balanced {x : Bay} (h : x.metering.balanced) (ref : BandRef) (band : Band) {t : TickShare}
    (ht : t.energy = t.solar + t.battery + t.grid) : (x.meterWith ref band t).metering.balanced := by
  obtain ⟨hsources, hfree, hbands, hnodup, hlen⟩ := h
  have hspent := freeOf_le x.session.link t
  refine ⟨?_, ?_, ?_, accumulate_nodup _ _ _ _ _ hnodup, accumulate_length _ _ _ _ _ hlen⟩
  · simp only [Bay.meterWith]
    omega
  · simp only [Bay.meterWith]
    omega
  · exact (accumulate_joules _ _ _ _ _ hnodup).trans (congrArg (· + t.energy) hbands)

/-! ### The tick -/

section
variable (s : State)

/-- The tick energies of all bays (R117). -/
def State.tickEnergies : Vector Nat 32 := Vector.ofFn fun b : BayNo => (s.bay b).tickEnergy

/-- The solar shares of a tick (R119). -/
def State.tickSolar : Vector Nat 32 := shares s.tickSplit.solarCh s.tickEnergies

/-- What a tick's solar shares leave of the energies (R120). -/
def State.tickRest : Vector Nat 32 := Vector.ofFn fun b : BayNo => s.tickEnergies[b] - s.tickSolar[b]

/-- The battery shares of a tick (R120). -/
def State.tickBattery : Vector Nat 32 := shares s.tickSplit.batteryCh s.tickRest

/-- The energies that a tick gives a bay. -/
def State.tickShare (b : BayNo) : TickShare :=
  ⟨s.tickEnergies[b], s.tickSolar[b], s.tickBattery[b], s.tickRest[b] - s.tickBattery[b]⟩

/-- A tick meters the bays with an open session, and no other. -/
theorem State.tick_bay (b : BayNo) :
    s.tick.bay b =
      if (s.bay b).session.state.isOpen then (s.bay b).meterWith s.bandRef s.bandInForce (s.tickShare b) else s.bay b := by
  have hbays : s.tick.bays = (s.mapBays fun b x =>
      if x.session.state.isOpen then x.meterWith s.bandRef s.bandInForce (s.tickShare b) else x).bays := rfl
  rw [State.bay, hbays]
  exact s.mapBays_bay _ b

theorem State.weightSum_tickEnergies : weightSum s.tickEnergies = s.tickSplit.ch := by
  have henergy (b : BayNo) : s.tickEnergies[b] = (s.bay b).tickEnergy := by simp [State.tickEnergies]
  simp only [weightSum, henergy, Fin.sum_univ_def]
  rfl

theorem State.solarCh_le : s.tickSplit.solarCh ≤ weightSum s.tickEnergies := by
  rw [s.weightSum_tickEnergies]
  exact Nat.min_le_left _ _

theorem State.tickSolar_le (b : BayNo) : s.tickSolar[b] ≤ s.tickEnergies[b] := share_le_weight s.solarCh_le b

theorem State.tickRest_getElem (b : BayNo) : s.tickRest[b] = s.tickEnergies[b] - s.tickSolar[b] := by
  simp [State.tickRest]

theorem State.weightSum_tickRest : weightSum s.tickRest + s.tickSplit.solarCh = s.tickSplit.ch := by
  have hsolar : ∑ b : BayNo, s.tickSolar[b] = s.tickSplit.solarCh := sum_shares s.solarCh_le
  rw [← hsolar, ← s.weightSum_tickEnergies, weightSum, weightSum, ← Finset.sum_add_distrib]
  refine Finset.sum_congr rfl fun b _ => ?_
  rw [s.tickRest_getElem, Nat.sub_add_cancel (s.tickSolar_le b)]

theorem State.batteryCh_le : s.tickSplit.batteryCh ≤ weightSum s.tickRest := by
  have hrest := s.weightSum_tickRest
  have hbattery : s.tickSplit.batteryCh ≤ s.tickSplit.ch - s.tickSplit.solarCh := Nat.min_le_left _ _
  omega

theorem State.tickBattery_le (b : BayNo) : s.tickBattery[b] ≤ s.tickRest[b] := share_le_weight s.batteryCh_le b

/-- The energy of a bay's tick is its solar, battery and grid parts together (R120). -/
theorem State.tickShare_sources (b : BayNo) :
    (s.tickShare b).energy = (s.tickShare b).solar + (s.tickShare b).battery + (s.tickShare b).grid := by
  have hsolar := s.tickSolar_le b
  have hbattery := s.tickBattery_le b
  have hrest := s.tickRest_getElem b
  simp only [State.tickShare]
  omega

end

/-! ### Every step (O55) -/

/-- The parts on which AccountsInv rests. -/
def accountParts : Set Part := Set.range .metering

theorem accountsInv_restsOn : RestsOn AccountsInv accountParts := fun s t same h b => by
  have hb : (t.bay b).metering = (s.bay b).metering := same (.metering b) (by simp [accountParts])
  rw [hb]
  exact h b

theorem tick_keeps_accountsInv {s : State} (h : AccountsInv s) : AccountsInv s.tick := fun b => by
  rw [s.tick_bay b]
  split
  · exact meterWith_balanced (h b) _ _ (s.tickShare_sources b)
  · exact h b

theorem second_keeps_accountsInv {s : State} (h : AccountsInv s) : AccountsInv s.second := by
  have huptime : AccountsInv { s with mu.uptime := s.mu.uptime + 1 } := h
  have htimers := accountsInv_restsOn.kept (State.countTimers_frame _) (by simp [accountParts, timerParts]) huptime
  exact tick_keeps_accountsInv (s := { State.countTimers { s with mu.uptime := s.mu.uptime + 1 } with
    mu.clock := (State.countTimers { s with mu.uptime := s.mu.uptime + 1 }).mu.clock.map SiteTime.next }) htimers

theorem openSession_keeps_accountsInv {s : State} (b : BayNo) (f : Figures) (h : AccountsInv s) :
    AccountsInv (s.openSession b f) := fun c => by
  by_cases hcb : c = b
  · subst hcb
    have hopened : ((s.openSession c f).bay c).metering = ⟨0, 0, 0, 0, 0, [⟨s.bandRef, 0, 0⟩], false, 0, 0, 0⟩ :=
      congrArg Bay.metering (State.setBay_bay s c _)
    rw [hopened]
    simp [Metering.balanced, bandSlots]
  · have hsame : ((s.openSession b f).bay c).metering = (s.bay c).metering :=
      s.openSession_frame b f (.metering c) (by simp [hcb])
    rw [hsame]
    exact h c

theorem demand_keeps_accountsInv {s : State} (b : BayNo) (f : Figures) (h : AccountsInv s) :
    AccountsInv (s.demand b f) := by
  have hfigures : AccountsInv (s.modSession b fun x => { x with figures := some f }) :=
    accountsInv_restsOn.kept (s.modSession_frame b _) (by simp [accountParts]) h
  unfold State.demand
  dsimp only
  generalize (s.modSession b fun x => { x with figures := some f }) = t at hfigures ⊢
  cases (t.bay b).session.state with
  | vacant =>
    dsimp only
    split
    · exact openSession_keeps_accountsInv b f hfigures
    · exact hfigures
  | disabled => exact hfigures
  | connected | active | silent =>
    exact accountsInv_restsOn.kept (t.demandRunning_frame b f) (by simp [accountParts, finalisedParts]) hfigures
  | closing => exact accountsInv_restsOn.kept (t.demandClosing_frame b f) (by simp [accountParts, finalisedParts]) hfigures
  | held => exact accountsInv_restsOn.kept (t.demandHeld_frame b f) (by simp [accountParts]) hfigures

theorem demandFrame_keeps_accountsInv {s : State} (f : Frame) (h : AccountsInv s) : AccountsInv (State.demandFrame f s) := by
  refine accountsInv_restsOn.kept (State.forward_frame _ .up f) (by simp [accountParts]) ?_
  split
  · split
    · exact demand_keeps_accountsInv _ _ h
    · exact h
  · exact h

theorem handOver_keeps_accountsInv {s : State} (b : BayNo) (rest : List BayNo) (h : AccountsInv s) :
    AccountsInv (s.handOver b rest) := by
  have hbuilt : AccountsInv (({ s with held := rest } : State).buildReceipt b) :=
    accountsInv_restsOn.kept (State.buildReceipt_frame _ b) (by simp [accountParts]) (s := { s with held := rest }) h
  unfold State.handOver
  dsimp only
  generalize ({ s with held := rest } : State).buildReceipt b = t at hbuilt
  have hfreed (g : Session → Session) : AccountsInv (t.modSession b g) :=
    accountsInv_restsOn.kept (t.modSession_frame b g) (by simp [accountParts]) hbuilt
  split
  · split
    · exact openSession_keeps_accountsInv b _ hbuilt
    · exact hfreed _
  · exact hfreed _

theorem release_keeps_accountsInv {s : State} (number : BitVec 32) (h : AccountsInv s) :
    AccountsInv (s.release number).1 := by
  have hhigh (t : State) (ht : AccountsInv t) : AccountsInv t.evalHigh :=
    accountsInv_restsOn.kept t.evalHigh_frame (by simp [accountParts]) ht
  have htail : AccountsInv { s with rq.receipts := s.rq.receipts.tail } := h
  have hreleased : AccountsInv s.releaseOldest := by
    unfold State.releaseOldest
    dsimp only
    split
    · exact hhigh _ htail
    · exact hhigh _ (handOver_keeps_accountsInv _ _ htail)
  unfold State.release
  split
  · exact h
  · split
    · exact hreleased
    · split <;> exact h

/-- The commands that may change a metering part, restarts and resets apart. -/
theorem accountParts_changed {c : Instr} {part : Part} (ha : part ∈ accountParts) (hw : part ∈ workParts c) :
    workOf c = none ∨ (∃ r, c = .demandFrame r) ∨ c = .releaseReceipt ∨ c = .meteringTick := by
  obtain ⟨b, rfl⟩ := ha
  cases c with
  | warmRestart | supplyLoss | coldReset => exact .inl rfl
  | demandFrame | releaseReceipt | meteringTick => simp
  | _ =>
    simp [workParts, writtenParts, siteParts, inputParts, staleParts, answeredParts, counterParts, finalisedParts, passParts,
      publishedParts, canopyParts] at hw

theorem warmWork_keeps_accountsInv {s : State} (cause : RestartCause) (high low : Bool) (h : AccountsInv s) :
    AccountsInv (State.warmWork cause high low s) := by
  refine accountsInv_restsOn.kept (State.restartReceipts_frame _) (by simp [accountParts]) ?_
  refine accountsInv_restsOn.kept (State.restartCanopy_frame _) (by simp [accountParts]) ?_
  refine accountsInv_restsOn.kept (State.restartBattery_frame _) (by simp [accountParts]) ?_
  refine accountsInv_restsOn.kept (State.restartAlloc_frame _) (by simp [accountParts, passParts]) ?_
  refine accountsInv_restsOn.kept (State.restartSiu_frame _ _ _) (by simp [accountParts]) ?_
  refine accountsInv_restsOn.kept (State.restartSessions_frame _) (by simp [accountParts]) ?_
  refine accountsInv_restsOn.kept (State.restartLine_frame _) (by simp [accountParts, lineParts]) ?_
  exact accountsInv_restsOn.kept (State.restartManage_frame _ _) (by simp [accountParts]) h

/-- Settles O55: a tick gives each bay sources that make up its energy, to the accounts and to one band entry, and an opened session
starts from nothing. -/
theorem stepKeepsAccounts : Obligations.StepKeepsAccounts := by
  unfold Obligations.StepKeepsAccounts
  intro s t hs h
  refine step_keeps accountsInv_restsOn (by simp [accountParts, outerParts]) reset_accountsInv
    (fun s => accountsInv_restsOn.kept s.sendStatus_frame (by simp [accountParts])) ?work
    (fun s high low => accountsInv_restsOn.kept (s.coldPins_frame high low) (by simp [accountParts, inputParts]))
    (fun s cause high low h => warmWork_keeps_accountsInv cause high low h) hs h
  intro c work s hc hs
  cases c with
  | warmRestart | supplyLoss | coldReset => cases hc
  | demandFrame r =>
    cases hc
    exact accountsInv_restsOn.kept_by_receive (by simp [accountParts])
      (fun f t ht => demandFrame_keeps_accountsInv (s := t) f ht) hs
  | releaseReceipt =>
    cases hc
    refine accountsInv_restsOn.kept_by_service (by simp [accountParts, answeredParts]) (fun p => ?_) hs
    unfold commandRelease withArguments
    split
    · exact hs
    · exact release_keeps_accountsInv _ hs
  | meteringTick => cases hc; exact second_keeps_accountsInv hs
  | _ =>
    exact accountsInv_restsOn.kept (workOf_frame hc s)
      (fun part ha hw => by simpa [workOf] using accountParts_changed ha hw) hs

end Sys2Proof.Machine
end

section
/-! What every step keeps of the control inputs and of Battery Dispatch (O59). -/

namespace Sys2Proof.Machine

/-! ### An evaluation of BD -/

/-- What an evaluation leaves of the last setpoint sent (R77, R78). -/
theorem State.evaluateWith_sent (s : State) (also : List Byte) :
    (s.evaluateWith also).bd.sent =
      if (s.evaluateWith also).bd.mode = .off ∨ (s.evaluateWith also).bd.mode = .island then none else s.bd.sent := by
  simp only [State.evaluateWith]
  split <;> simp

/-- An evaluation shows TOPUP exactly with the flag that it leaves (R76, R78). -/
theorem modeOf_topUp (t : BatteryTable) (frozen : Bool) (figures : Option BatteryFigures) (flag : Bool) (old : Option Memory)
    (hmanual : t.control = .manual → flag = false) :
    (topUpAfter t frozen figures flag).1 = true ↔
      modeOf t frozen (figures.map fun f => nextMemory t f.soc old) (topUpAfter t frozen figures flag).1 = .topUp := by
  have hmode (m : Memory) : m.mode ≠ .topUp := by cases m <;> simp [Memory.mode]
  cases hc : t.control with
  | manual =>
    have hflag : (topUpAfter t frozen figures flag).1 = false := by
      cases figures <;> simp [topUpAfter, hc, hmanual hc]
    simp [hflag, modeOf, hc]
  | auto =>
    cases frozen with
    | true => simp [topUpAfter, modeOf, hc]
    | false =>
      cases figures with
      | none => simp [topUpAfter, modeOf, hc]
      | some f => by_cases hdone : (topUpAfter t false (some f) flag).1 = true <;> simp [modeOf, hc, hdone, hmode]

/-- Every evaluation leaves BD as its control, freeze and flag ask, from any state whose flag is clear under MANUAL. -/
theorem State.evaluateWith_batteryInv (s : State) (also : List Byte)
    (hmanual : s.bd.table.control = .manual → s.bd.topUp = false) : BatteryInv (s.evaluateWith also) := by
  obtain ⟨htable, hmemory, hflag, hmode, hoffer, -⟩ := s.evaluateWith_bd also
  obtain ⟨isManual, isIsland, isOff⟩ := modeOf_cases s.bd.table s.siu.freeze
    (s.batteryFigures.map fun f => nextMemory s.bd.table f.soc s.bd.memory)
    (topUpAfter s.bd.table s.siu.freeze s.batteryFigures s.bd.topUp).1
  rw [← hmode] at isManual isIsland isOff
  refine ⟨by rw [htable]; exact isManual, by rw [htable, State.evaluateWith_siu]; exact isIsland, ?_, fun h => ?_⟩
  · rw [hflag, hmode]
    exact modeOf_topUp _ _ _ _ _ hmanual
  · have hzero : offerOf s.bd.table (s.evaluateWith also).bd.mode s.bd.manual s.batteryFigures = (0, 0) := by
      rcases h with h | h <;> rw [h] <;> rfl
    rw [hzero, Prod.mk.injEq] at hoffer
    exact ⟨hoffer.1, hoffer.2, by rw [s.evaluateWith_sent also, if_pos h]⟩

theorem BatteryInv.flag_clear {s : State} (h : BatteryInv s) (hc : s.bd.table.control = .manual) : s.bd.topUp = false := by
  obtain ⟨hmanual, -, hflag, -⟩ := h
  have hmode := hmanual.mpr hc
  simpa [hmode] using hflag

theorem BatteryInv.evaluateWith {s : State} (h : BatteryInv s) (also : List Byte) : BatteryInv (s.evaluateWith also) :=
  s.evaluateWith_batteryInv also h.flag_clear

/-! ### What BD and the inputs rest on -/

/-- The parts on which BatteryInv rests. -/
def batteryParts : Set Part := {.battery, .batteryTable, .freeze}

/-- The parts on which InputsInv rests. -/
def controlParts : Set Part := {.shed, .island, .freeze, .site}

theorem BatteryInv.of_same {s t : State} (hb : t.bd = s.bd) (hf : t.siu.freeze = s.siu.freeze) (h : BatteryInv s) :
    BatteryInv t := by
  simpa [BatteryInv, hb, hf] using h

theorem State.bd_of_same {s t : State} (hb : s.same t .battery) (ht : s.same t .batteryTable) : t.bd = s.bd := by
  simp only [State.same] at hb ht
  rw [← hb, ← ht]

theorem batteryInv_restsOn : RestsOn BatteryInv batteryParts := fun s t same =>
  BatteryInv.of_same (State.bd_of_same (same .battery (by simp [batteryParts])) (same .batteryTable (by simp [batteryParts])))
    (same .freeze (by simp [batteryParts]))

theorem inputsInv_restsOn : RestsOn InputsInv controlParts := by
  intro s t same h
  have hshed : t.siu.shed = s.siu.shed := same .shed (by simp [controlParts])
  have hisland : t.siu.island = s.siu.island := same .island (by simp [controlParts])
  have hfreeze : t.siu.freeze = s.siu.freeze := same .freeze (by simp [controlParts])
  have hsite : t.mr.site = s.mr.site := same .site (by simp [controlParts])
  simpa [InputsInv, hshed, hisland, hfreeze, hsite] using h

/-- Both invariants of O59 together. -/
def ControlsInv (s : State) : Prop := InputsInv s ∧ BatteryInv s

theorem controlsInv_restsOn : RestsOn ControlsInv (controlParts ∪ batteryParts) :=
  inputsInv_restsOn.and batteryInv_restsOn

theorem ControlsInv.of_same {s t : State} (hsiu : t.siu.shed = s.siu.shed ∧ t.siu.island = s.siu.island ∧
    t.siu.freeze = s.siu.freeze) (hsite : t.mr.site = s.mr.site) (hb : t.bd = s.bd) (h : ControlsInv s) : ControlsInv t := by
  obtain ⟨hshed, hisland, hfreeze⟩ := hsiu
  exact ⟨by simpa [InputsInv, hshed, hisland, hfreeze, hsite] using h.1, h.2.of_same hb hfreeze⟩

theorem ControlsInv.evaluateWith {s : State} (h : ControlsInv s) (also : List Byte) : ControlsInv (s.evaluateWith also) :=
  ⟨inputsInv_restsOn.kept (s.evaluateWith_frame also) (by simp [controlParts, or_imp, forall_and]) h.1,
    h.2.evaluateWith also⟩

/-! ### Battery Dispatch (chapter 4) -/

section
variable {s : State}

theorem ControlsInv.batteryPass (h : ControlsInv s) : ControlsInv s.batteryPass := by
  have heval : ControlsInv s.evaluate := h.evaluateWith []
  have hsend (p : Int) (hoff : s.evaluate.bd.mode ≠ .off) (hisland : s.evaluate.bd.mode ≠ .island) :
      ControlsInv (s.evaluate.sendSetpoint p) := by
    have ⟨hin, hmanual, hislandIff, hflag, _⟩ := heval
    unfold State.sendSetpoint
    split
    · exact heval
    · dsimp only
      split
      · refine ⟨by simpa [InputsInv] using hin, by simpa using hmanual, by simpa using hislandIff, by simpa using hflag, ?_⟩
        simp [hoff, hisland]
      · exact ControlsInv.of_same (s := s.evaluate) (by simp) (by simp) (by simp) heval
  unfold State.batteryPass
  dsimp only
  split
  · exact heval
  · exact heval
  · exact heval
  · next hm hi ho =>
    split
    · exact hsend _ ho hi
    · exact heval

theorem ControlsInv.topUp (h : ControlsInv s) : ControlsInv s.topUp.1 := by
  unfold State.topUp
  dsimp only
  split
  · next hc =>
    have hset : InputsInv ({ s with bd.topUp := true } : State) := h.1
    exact ⟨inputsInv_restsOn.kept (State.evaluateWith_frame _ _) (by simp [controlParts, or_imp, forall_and]) hset,
      State.evaluateWith_batteryInv _ _ fun hm => by simp [hc.1] at hm⟩
  · exact h

theorem ControlsInv.takeBatteryTable (h : ControlsInv s) (t : BatteryTable) : ControlsInv (s.takeBatteryTable t) := by
  refine ⟨inputsInv_restsOn.kept (s.takeBatteryTable_frame t) (by simp [controlParts, or_imp, forall_and]) h.1, ?_⟩
  unfold State.takeBatteryTable
  dsimp only
  refine State.evaluateWith_batteryInv _ _ ?_
  split
  next hsame =>
    intro hc
    exact h.2.flag_clear (hsame.trans hc)
  next => split <;> simp

theorem ControlsInv.screenLimit (h : ControlsInv s) (f : Frame) : ControlsInv (State.screenLimit f s) := by
  have hheld (v : Int) : ControlsInv (s.forwardHeld f v).1 :=
    controlsInv_restsOn.kept (s.forwardHeld_frame f v) (by simp [controlParts, batteryParts, or_imp, forall_and]) h
  have hmanual (v w : Int) (hc : s.bd.table.control = .manual) : ControlsInv ((s.forwardHeld f v).1.takeManual w) := by
    obtain ⟨hin, hm, hi, hflag, -⟩ := hheld v
    have hbd : (s.forwardHeld f v).1.bd = s.bd := by
      unfold State.forwardHeld
      split <;> simp
    have hmode : (s.forwardHeld f v).1.bd.mode = .manual := by rw [hm, hbd]; exact hc
    refine ⟨hin, hm, hi, hflag, fun hoff => ?_⟩
    simp [State.takeManual, hmode] at hoff
  have hclamp : ControlsInv s.countClamp := h
  have hauto : ControlsInv s.countAutoDrop := h
  unfold State.screenLimit
  split
  · exact h
  · next e _ =>
    have hcontrol : s.screening f.kind e.role = .manual → s.bd.table.control = .manual := by
      unfold State.screening
      split <;> (try split) <;> (try split) <;> simp_all
    split
    · exact controlsInv_restsOn.kept (s.forward_frame .down f) (by simp [controlParts, batteryParts, or_imp, forall_and]) h
    · split
      · exact hauto
      · exact hauto
    · split
      · exact hclamp
      · exact hheld _
    · next hscreen =>
      split
      · exact hclamp
      · dsimp only
        split
        · exact hmanual _ _ (hcontrol hscreen)
        · exact hheld _

/-! ### Site Input Unit (chapter 2) -/

theorem ControlsInv.setShed (h : ControlsInv s) {i : Input} (hi : i.fits s.mr.site.shedSense) : ControlsInv (s.setShed i) := by
  obtain ⟨⟨-, hisland, hfreeze⟩, hb⟩ := h
  exact ⟨by simpa [InputsInv, State.setShed] using ⟨hi, hisland, hfreeze⟩, hb.of_same (by simp [State.setShed]) (by simp [State.setShed])⟩

theorem BatteryInv.setFreeze (h : BatteryInv s) (frozen : Bool) : BatteryInv (s.setFreeze frozen) := by
  unfold State.setFreeze
  split
  · exact h
  · exact State.evaluateWith_batteryInv _ _ h.flag_clear

@[simp] theorem State.setFreeze_freeze (s : State) (frozen : Bool) : (s.setFreeze frozen).siu.freeze = frozen := by
  unfold State.setFreeze
  split <;> simp_all [State.evaluate]

@[simp] theorem State.setFreeze_shed (s : State) (frozen : Bool) : (s.setFreeze frozen).siu.shed = s.siu.shed := by
  unfold State.setFreeze
  split <;> simp [State.evaluate]

@[simp] theorem State.setFreeze_island (s : State) (frozen : Bool) : (s.setFreeze frozen).siu.island = s.siu.island := by
  unfold State.setFreeze
  split <;> simp [State.evaluate]

@[simp] theorem State.setFreeze_site (s : State) (frozen : Bool) : (s.setFreeze frozen).mr.site = s.mr.site :=
  s.setFreeze_frame frozen .site (by simp)

/-- ISLAND takes any state that fits its sense: where it becomes active the freeze is set, and else the freeze stood already
wherever it was active. -/
theorem ControlsInv.setIsland (h : ControlsInv s) {i : Input} (hi : i.fits s.mr.site.islandSense) :
    ControlsInv (s.setIsland i) := by
  obtain ⟨⟨hshed, -, hfreeze⟩, hb⟩ := h
  unfold State.setIsland
  dsimp only
  split
  · refine ⟨⟨by simpa using hshed, by simpa using hi, by simp⟩, BatteryInv.setFreeze (hb.of_same ?_ ?_) true⟩ <;> simp
  · next hkept =>
    exact ⟨⟨hshed, hi, fun hactive => hfreeze (by simp_all)⟩, hb.of_same rfl rfl⟩

theorem ControlsInv.resume (h : ControlsInv s) : ControlsInv s.resume.1 := by
  obtain ⟨⟨hshed, hisland, hfreeze⟩, hb⟩ := h
  unfold State.resume
  dsimp only
  split
  · exact ⟨⟨hshed, hisland, hfreeze⟩, hb⟩
  · next hlevel =>
    have hinactive : (s.siu.island.cleared s.mr.site.islandSense).active = false := by
      revert hisland hlevel
      cases s.mr.site.islandSense <;> simp_all [Input.fits, Input.cleared, Sense.isLevel, Sense.levelActive]
    have hcleared := Input.cleared_fits hisland
    have hbd : BatteryInv ({ s with siu.island := s.siu.island.cleared s.mr.site.islandSense } : State) := hb
    exact ⟨⟨by simpa using hshed, by simpa using hcleared, by simp [hinactive]⟩, hbd.setFreeze false⟩

theorem ControlsInv.turnStale (h : ControlsInv s) (pos : Position) : ControlsInv (s.turnStale pos) := by
  have hreported (r : Option MeasRecord) : ControlsInv (s.setRecord pos r) := h
  have hraised (t : State) (ev : Event) (ht : ControlsInv t) : ControlsInv (t.raise ev) := ht
  unfold State.turnStale
  split
  · split
    · dsimp only
      have hevent (r : Option MeasRecord) (o : Option Event) : ControlsInv
          (match o with | some ev => (s.setRecord pos r).raise ev | none => s.setRecord pos r) := by
        cases o with
        | none => exact hreported r
        | some ev => exact hraised _ ev (hreported r)
      split
      · exact (hevent _ _).evaluateWith []
      · exact hevent _ _
    · exact h
  · exact h

theorem ControlsInv.tapSample (h : ControlsInv s) (pos : Position) (role : Role) (payload : List Byte) :
    ControlsInv (s.tapSample pos role payload) := by
  have hrecord (r : Option MeasRecord) : ControlsInv (s.setRecord pos r) := h
  unfold State.tapSample
  split
  · dsimp only
    split
    · exact (hrecord _).evaluateWith []
    · exact hrecord _
  · exact h

theorem ControlsInv.holdChanged (h : ControlsInv s) : ControlsInv s.holdChanged := by
  have hrecords (x : Vector (Option MeasRecord) 64) : ControlsInv ({ s with siu.records := x } : State) := h
  exact foldl_keeps (P := ControlsInv) (fun t pos ht => ControlsInv.turnStale ht pos) _ (hrecords _)

/-! ### The site table (9.3) -/

/-- A SITE write acts on each input whose sense it changes, and so leaves both in accord with the senses that then stand. -/
theorem ControlsInv.takeSiteRecord (h : ControlsInv s) (record : List Byte) : ControlsInv (State.takeSiteRecord record s).1 := by
  obtain ⟨⟨hshed, hisland, hfreeze⟩, hb⟩ := h
  have hsenses : ControlsInv (({ s with mr.site := (takeSite s.mr.site record).1 } : State).sensesChanged
      s.mr.site.shedSense s.mr.site.islandSense) := by
    generalize (takeSite s.mr.site record).1 = site
    have hset : ({ s with mr.site := site } : State).mr.site = site := rfl
    unfold State.sensesChanged
    dsimp only
    have hafter : ∃ t : State,
        (if s.mr.site.shedSense = site.shedSense then ({ s with mr.site := site } : State)
          else ({ s with mr.site := site } : State).setShed (Input.formed site.shedSense s.siu.shed.high)) = t ∧
        t.mr.site = site ∧ t.siu.shed.fits site.shedSense ∧ t.siu.island = s.siu.island ∧ t.siu.freeze = s.siu.freeze ∧
        BatteryInv t := by
      refine ⟨_, rfl, ?_⟩
      split
      next hsame => exact ⟨rfl, hsame ▸ hshed, rfl, rfl, hb⟩
      next =>
        refine ⟨by simp [State.setShed], by simpa [State.setShed] using Input.formed_fits _ _, by simp [State.setShed],
          by simp [State.setShed], hb.of_same (by simp [State.setShed]) (by simp [State.setShed])⟩
    obtain ⟨t, ht, hsite, hfits, hti, htf, htb⟩ := hafter
    rw [ht]
    split
    next hsame => exact ⟨⟨hsite ▸ hfits, by rw [hti, hsite, ← hsame]; exact hisland, by rw [hti, htf]; exact hfreeze⟩, htb⟩
    next =>
      have hlevel := Input.formed_fits site.islandSense t.siu.island.high
      unfold State.setIsland
      dsimp only
      split
      · refine ⟨⟨by simpa [hsite] using hfits, by simpa [hsite] using hlevel, by simp⟩,
          BatteryInv.setFreeze (htb.of_same ?_ ?_) true⟩ <;> simp
      · next hkept =>
        refine ⟨⟨by simpa [hsite] using hfits, by simpa [hsite] using hlevel, fun hactive => ?_⟩, htb.of_same rfl rfl⟩
        have hwas : t.siu.island.active = true := by simp_all
        exact htf ▸ hfreeze (hti ▸ hwas)
  have hhold (t : State) (old new : Nat) (ht : ControlsInv t) : ControlsInv (if old = new then t else t.holdChanged) := by
    split
    · exact ht
    · exact ht.holdChanged
  have hhigh (t : State) (old new : Nat) (ht : ControlsInv t) : ControlsInv (if old = new then t else t.evalHigh) := by
    split
    · exact ht
    · exact controlsInv_restsOn.kept t.evalHigh_frame (by simp [controlParts, batteryParts, or_imp, forall_and]) ht
  exact hhigh _ _ _ (hhold _ _ _ hsenses)

theorem ControlsInv.writeStation (h : ControlsInv s) (p : List Byte) : ControlsInv (State.writeStation p s).1 := by
  have hplaced (pos : Position) (new : Option Station) : ControlsInv (s.placeStation pos new) := by
    have hplace : ControlsInv (s.placed pos new) :=
      controlsInv_restsOn.kept (s.placed_frame pos new) (by simp [controlParts, batteryParts, or_imp, forall_and]) h
    rw [s.placeStation_eq]
    split
    · exact hplace.evaluateWith _
    · exact hplace
  unfold State.writeStation
  split
  · dsimp only
    split
    · exact h
    · split
      · exact h
      · exact controlsInv_restsOn.kept (State.planCheck_frame _) (by simp [controlParts, batteryParts, or_imp, forall_and])
          (hplaced _ _)
  · exact h

/-! ### Publications and restarts -/

theorem ControlsInv.publish (h : ControlsInv s) (p : AllocPass) : ControlsInv (s.publish p) := by
  have hgrants : ControlsInv (((s.publishTable p).publishDwells p).publishGrants p) := by
    refine controlsInv_restsOn.kept (State.changesOnly_trans (State.changesOnly_trans (s.publishTable_frame p)
      (State.setDwells_frame _ _)) (State.publishGrants_frame _ p)) ?_ h
    simp [controlParts, batteryParts, or_imp, forall_and]
  exact hgrants.batteryPass

theorem warmWork_controlsInv (s : State) (cause : RestartCause) (high low : Bool) :
    ControlsInv (State.warmWork cause high low s) := by
  have hsiu (t : State) : InputsInv (t.restartSiu high low) := by
    refine ⟨?_, ?_, ?_⟩ <;> simp [State.restartSiu, Input.formed_fits]
  have hbattery (t : State) : BatteryInv t.restartBattery := by
    cases hc : t.bd.table.control <;> cases hf : t.siu.freeze <;>
      simp [BatteryInv, State.restartBattery, restartMode, hc, hf]
  have hinputs (t : State) (ht : InputsInv t) : InputsInv t.restartAlloc.restartBattery :=
    inputsInv_restsOn.kept (State.changesOnly_trans t.restartAlloc_frame (State.restartBattery_frame _))
      (by simp [controlParts, passParts, or_imp, forall_and]) ht
  refine controlsInv_restsOn.kept (State.changesOnly_trans (State.restartCanopy_frame _) (State.restartReceipts_frame _)) ?_
    ⟨hinputs _ (hsiu _), hbattery _⟩
  simp [controlParts, batteryParts, or_imp, forall_and]

/-! ### Every step -/

/-- The commands that may change an input, the freeze, the site table or BD, restarts and resets apart. -/
theorem controlParts_changed {c : Instr} {part : Part} (ha : part ∈ controlParts ∪ batteryParts) (hw : part ∈ workParts c) :
    workOf c = none ∨ (∃ r, c = .sampleFrame r) ∨ (∃ r, c = .upLimitScreen r) ∨ c = .siteWrite ∨ c = .stationWrite ∨
      c = .batteryWrite ∨ c = .resume ∨ c = .shedClear ∨ c = .topUp ∨ (∃ x, c = .shedPinLevel x) ∨
      (∃ x, c = .islandPinLevel x) ∨ (∃ x, c = .recordStale x) ∨ c = .publication := by
  have hpart : part = .shed ∨ part = .island ∨ part = .freeze ∨ part = .site ∨ part = .battery ∨ part = .batteryTable := by
    simp only [controlParts, batteryParts, Set.mem_union, Set.mem_insert_iff, Set.mem_singleton_iff] at ha
    tauto
  cases c with
  | warmRestart | supplyLoss | coldReset => exact .inl rfl
  | sampleFrame | upLimitScreen | siteWrite | stationWrite | batteryWrite | resume | shedClear | topUp | shedPinLevel
  | islandPinLevel | recordStale | publication => simp
  | _ =>
    rcases hpart with rfl | rfl | rfl | rfl | rfl | rfl <;>
      simp [workParts, demandParts, writtenParts, answeredParts, releasedParts, counterParts, timerParts, finalisedParts,
        passParts, canopyParts] at hw

end

/-- Settles O59: every evaluation leaves BD in accord with control, freeze and flag, an input takes no state that does not fit
its sense, and the freeze is set in the step in which ISLAND becomes active. -/
theorem stepKeepsControls : Obligations.StepKeepsControls := by
  unfold Obligations.StepKeepsControls
  intro s t hs h
  refine step_keeps (P := ControlsInv) controlsInv_restsOn
    (by simp [controlParts, batteryParts, outerParts, or_imp, forall_and]) ⟨reset_inputsInv, reset_batteryInv⟩
    (fun s => controlsInv_restsOn.kept s.sendStatus_frame (by simp [controlParts, batteryParts, or_imp, forall_and])) ?work
    (fun s high low hs => (hs.setShed (Input.formed_fits _ _)).setIsland ?island)
    (fun s cause high low _ => warmWork_controlsInv _ cause high low) hs h
  case island => simpa [State.setShed] using Input.formed_fits _ _
  intro c work s hc hs
  have apart : ∀ part ∈ controlParts ∪ batteryParts, part ∉ answeredParts := by
    simp [controlParts, batteryParts, answeredParts, or_imp, forall_and]
  have apartPlan : ∀ part ∈ controlParts ∪ batteryParts, part ∉ ({.plan, .events} : Set Part) := by
    simp [controlParts, batteryParts, or_imp, forall_and]
  have apartReceived (p : Port) : ∀ part ∈ controlParts ∪ batteryParts, part ∉ ({.counters p} : Set Part) := by
    simp [controlParts, batteryParts, or_imp, forall_and]
  cases c with
  | warmRestart | supplyLoss | coldReset => cases hc
  | sampleFrame r =>
    cases hc
    refine controlsInv_restsOn.kept_by_receive (apartReceived _) (fun f u hu => ?_) hs
    unfold State.sampleFrame
    split
    · exact controlsInv_restsOn.kept (State.forwardSample_frame _ _ _ _)
        (by simp [controlParts, batteryParts, or_imp, forall_and]) (hu.tapSample _ _ _)
    · exact hu
  | upLimitScreen r =>
    cases hc
    exact controlsInv_restsOn.kept_by_receive (apartReceived _) (fun f u hu => hu.screenLimit f) hs
  | siteWrite =>
    cases hc
    exact controlsInv_restsOn.kept_by_service apart
      (controlsInv_restsOn.kept_by_write apartPlan (fun record => hs.takeSiteRecord record) hs) hs
  | stationWrite =>
    cases hc
    exact controlsInv_restsOn.kept_by_service apart (fun p => hs.writeStation p) hs
  | batteryWrite =>
    cases hc
    exact controlsInv_restsOn.kept_by_service apart
      (controlsInv_restsOn.kept_by_write apartPlan (fun record => hs.takeBatteryTable _) hs) hs
  | resume =>
    cases hc
    exact controlsInv_restsOn.kept_by_service apart (fun _ => hs.resume) hs
  | shedClear =>
    cases hc
    refine controlsInv_restsOn.kept_by_service apart (fun _ => ?_) hs
    unfold State.shedClear
    split
    · exact hs
    · exact hs.setShed (Input.cleared_fits hs.1.1)
  | topUp =>
    cases hc
    exact controlsInv_restsOn.kept_by_service apart (fun _ => hs.topUp) hs
  | shedPinLevel high =>
    cases hc
    exact hs.setShed (Input.take_fits _ _ _)
  | islandPinLevel high =>
    cases hc
    exact hs.setIsland (Input.take_fits _ _ _)
  | recordStale pos =>
    cases hc
    exact hs.turnStale pos
  | publication =>
    cases hc
    dsimp only
    split
    · exact hs.publish _
    · exact hs
  | _ =>
    exact controlsInv_restsOn.kept (workOf_frame hc s) (fun part ha hw => by simpa [workOf] using controlParts_changed ha hw) hs

end Sys2Proof.Machine
end

section
/-! What every step keeps in range: figures and grants, written tables, measurement records and station entries (O58). -/

namespace Sys2Proof.Machine

/-! ### Bays that an operation leaves -/

section
variable (s : State) (b c : BayNo)

@[simp] theorem State.raise_bay (e : Event) : (s.raise e).bay c = s.bay c := rfl

@[simp] theorem State.evalHigh_bay : s.evalHigh.bay c = s.bay c := by simp [State.bay]

@[simp] theorem State.buildReceipt_bay : (s.buildReceipt b).bay c = s.bay c := by simp [State.bay]

@[simp] theorem State.blockedGrant_bay : (s.blockedGrant b).bay c = s.bay c := by simp [State.bay]

@[simp] theorem State.setHeld_bay (l : List BayNo) : ({ s with held := l } : State).bay c = s.bay c := rfl

end

/-! ### The figures of a bay: what each operation of the SM leaves of them -/

section
variable (s : State) (b c : BayNo)

/-- A change of the session part that keeps the figures of its bay keeps those of every bay. -/
theorem State.modSession_figures {g : Session → Session} (hg : ∀ x, (g x).figures = x.figures) :
    ((s.modSession b g).bay c).session.figures = (s.bay c).session.figures := by
  by_cases h : c = b
  · subst h
    simp [hg]
  · rw [s.modSession_frame b g (.session c) (by simp [h])]

theorem State.openSession_figures (f : Figures) :
    ((s.openSession b f).bay c).session.figures = (s.bay c).session.figures := by
  by_cases h : c = b
  · subst h
    exact congrArg (fun x => x.session.figures) (State.setBay_bay s c _)
  · rw [s.openSession_frame b f (.session c) (by simp [h])]

theorem State.close_figures (reason : EndReason) :
    ((s.close b reason).bay c).session.figures = (s.bay c).session.figures :=
  s.modSession_figures b c fun _ => rfl

theorem State.finalise_figures (reason : EndReason) (final : Option Register) :
    ((s.finalise b reason final).bay c).session.figures = (s.bay c).session.figures := by
  have hended := s.modSession_figures b c
    (g := fun x => { x with finalRegister := final, endTime := s.siteTime, endUptime := some s.now,
                            endReason := some reason, timer := none }) fun _ => rfl
  unfold State.finalise
  dsimp only
  rw [← hended]
  generalize s.modSession b _ = t
  split
  · rw [State.modSession_figures, State.evalHigh_bay, State.buildReceipt_bay]
    exact fun _ => rfl
  · split
    · rw [State.blockedGrant_bay, State.raise_bay, State.setHeld_bay, State.modSession_figures]
      exact fun _ => rfl
    · rw [State.raise_bay, State.setHeld_bay, State.modSession_figures]
      exact fun _ => rfl

theorem State.demandHeld_figures (f : Figures) :
    ((s.demandHeld b f).bay c).session.figures = (s.bay c).session.figures := by
  unfold State.demandHeld
  dsimp only
  split
  · rw [State.blockedGrant_bay, State.modSession_figures]
    exact fun _ => rfl
  · exact s.modSession_figures b c fun _ => rfl

/-- A DEMAND leaves its own figures at its bay, and those of the others as they were (R4). -/
theorem State.demand_figures (f : Figures) :
    ((s.demand b f).bay c).session.figures = if c = b then some f else (s.bay c).session.figures := by
  have htaken : ((s.modSession b fun x => { x with figures := some f }).bay c).session.figures =
      if c = b then some f else (s.bay c).session.figures := by
    split
    next h => subst h; simp
    next h => rw [s.modSession_frame b _ (.session c) (by simp [h])]
  unfold State.demand
  dsimp only
  rw [← htaken]
  generalize s.modSession b _ = t
  cases (t.bay b).session.state with
  | vacant =>
    dsimp only
    split
    · exact t.openSession_figures b c f
    · rfl
  | disabled => rfl
  | connected | active | silent =>
    dsimp only [State.demandRunning]
    cases f.state with
    | connected | requesting => exact t.modSession_figures b c fun _ => rfl
    | ending => exact t.close_figures b c _
    | ended | available | fault => exact t.finalise_figures b c _ _
  | closing =>
    dsimp only [State.demandClosing]
    cases f.state with
    | connected | requesting | ending => rfl
    | ended | available | fault => exact t.finalise_figures b c _ _
  | held => exact t.demandHeld_figures b c f

theorem State.handOver_figures (rest : List BayNo) :
    ((s.handOver b rest).bay c).session.figures = (s.bay c).session.figures := by
  have hbuilt : (({ s with held := rest } : State).buildReceipt b).bay c = s.bay c := by simp
  unfold State.handOver
  dsimp only
  rw [← hbuilt]
  generalize ({ s with held := rest } : State).buildReceipt b = t
  split
  · split
    · exact t.openSession_figures b c _
    · exact t.modSession_figures b c fun _ => rfl
  · exact t.modSession_figures b c fun _ => rfl

theorem State.release_figures (number : BitVec 32) :
    ((s.release number).1.bay c).session.figures = (s.bay c).session.figures := by
  have hreleased : (s.releaseOldest.bay c).session.figures = (s.bay c).session.figures := by
    have htail : ({ s with rq.receipts := s.rq.receipts.tail } : State).bay c = s.bay c := rfl
    unfold State.releaseOldest
    dsimp only
    split
    · rw [State.evalHigh_bay, htail]
    · rw [State.evalHigh_bay, State.handOver_figures, htail]
  unfold State.release
  split
  · rfl
  · split
    · exact hreleased
    · split <;> rfl

theorem State.takeLink_figures (bay : Nat) (token : BitVec 64) (allowance : Nat) :
    ((s.takeLink bay token allowance).1.bay c).session.figures = (s.bay c).session.figures := by
  unfold State.takeLink
  split
  · dsimp only
    split
    all_goals first
      | rfl
      | (split
         · rfl
         · exact s.modSession_figures _ c fun _ => rfl)
      | (unfold State.storeLink; dsimp only; split <;> rfl)
  · rfl

theorem State.forceClose_figures (bay : Nat) :
    ((s.forceClose bay).1.bay c).session.figures = (s.bay c).session.figures := by
  unfold State.forceClose
  split
  · dsimp only
    split
    all_goals first
      | rfl
      | exact s.close_figures _ c _
  · rfl

theorem State.takeBayConfig_figures (config : BayConfig) :
    ((s.takeBayConfig b config).bay c).session.figures = (s.bay c).session.figures := by
  have hset : ((s.setBay b { s.bay b with config := config }).bay c).session = (s.bay c).session := by
    by_cases h : c = b
    · subst h; simp
    · rw [s.setBay_other _ h]
  unfold State.takeBayConfig
  dsimp only
  rw [← hset]
  generalize s.setBay b { s.bay b with config := config } = t
  split
  · rfl
  · unfold State.changeEnabled
    split
    all_goals first
      | rfl
      | exact t.modSession_figures b c fun _ => rfl

theorem State.silenceExpiry_figures :
    ((s.silenceExpiry b).bay c).session.figures = (s.bay c).session.figures := by
  have hsilent : ((s.goSilent b).bay c).session.figures = (s.bay c).session.figures :=
    s.modSession_figures b c (g := fun x => { x with state := .silent, timer := some s.newTimer }) fun _ => rfl
  unfold State.silenceExpiry
  split
  all_goals first
    | rfl
    | (split
       · exact hsilent
       · rfl)

theorem State.silentCloseExpiry_figures :
    ((s.silentCloseExpiry b).bay c).session.figures = (s.bay c).session.figures := by
  unfold State.silentCloseExpiry
  split
  all_goals first
    | rfl
    | (split
       · exact s.finalise_figures b c _ _
       · rfl)

theorem State.closeHoldExpiry_figures :
    ((s.closeHoldExpiry b).bay c).session.figures = (s.bay c).session.figures := by
  unfold State.closeHoldExpiry
  split
  all_goals first
    | rfl
    | (split
       · exact s.finalise_figures b c _ _
       · rfl)

end

/-! ### The second of uptime: its timers before its tick (R107, R108) -/

/-- A bay with its guard and its session timer a second on. -/
def Bay.timed (x : Bay) (now : Uptime) (site : SiteTable) : Bay :=
  { x with
    alloc := { x.alloc with guard := x.alloc.guard.tick }
    session := { x.session with timer := x.session.timer.map fun t => t.tick now (site.durationIn x.session.state) } }

/-- The state that the metering tick of a second finds: uptime, every timer and the site clock a second on. -/
def State.advanced (s : State) : State :=
  { State.countTimers { s with mu.uptime := s.mu.uptime + 1 } with mu.clock := s.mu.clock.map SiteTime.next }

theorem State.second_eq (s : State) : s.second = s.advanced.tick := rfl

theorem State.advanced_bay (s : State) (b : BayNo) :
    s.advanced.bay b = (s.bay b).timed (s.mu.uptime + 1) s.mr.site := by
  have hbays : s.advanced.bays = (s.mapBays fun _ x => x.timed (s.mu.uptime + 1) s.mr.site).bays := rfl
  rw [State.bay, hbays]
  exact s.mapBays_bay _ b

/-! ### Figures and currents (R4, R51, R115) -/

/-- The part of CurrentsInv that speaks of one bay. -/
def Bay.currents (x : Bay) : Prop :=
  (∀ f, x.session.figures = some f → f.inRange) ∧ x.config.cap ≤ 800 ∧ x.alloc.grant ≤ 800 ∧ x.metering.peak ≤ 800

/-- The parts on which CurrentsInv rests. -/
def currentParts : Set Part :=
  {.allocPass} ∪ Set.range .session ∪ Set.range .config ∪ Set.range .grant ∪ Set.range .metering

theorem currentsInv_restsOn : RestsOn CurrentsInv currentParts := by
  intro s t same h
  have hpass : t.ae.pass = s.ae.pass := same .allocPass (by simp [currentParts])
  have hbays (b : BayNo) : (t.bay b).currents := by
    have hs : (t.bay b).session = (s.bay b).session := same (.session b) (by simp [currentParts])
    have hc : (t.bay b).config = (s.bay b).config := same (.config b) (by simp [currentParts])
    have hg : (t.bay b).alloc = (s.bay b).alloc := same (.grant b) (by simp [currentParts])
    have hm : (t.bay b).metering = (s.bay b).metering := same (.metering b) (by simp [currentParts])
    simpa [Bay.currents, hs, hc, hg, hm] using h.1 b
  exact ⟨hbays, by rw [hpass]; exact h.2⟩

/-- The sessions and accounts of the bays may change as long as their figures and peaks stay in range. -/
theorem CurrentsInv.of_sessions {s t : State} {a : Set Part} (h : CurrentsInv s) (frame : s.changesOnly t a)
    (apart : ∀ part ∈ a, part ≠ .allocPass ∧ (∀ b, part ≠ .config b) ∧ ∀ b, part ≠ .grant b)
    (figures : ∀ b f, (t.bay b).session.figures = some f → f.inRange)
    (peak : ∀ b, (t.bay b).metering.peak ≤ 800) : CurrentsInv t := by
  have hpass : t.ae.pass = s.ae.pass := frame .allocPass fun hp => (apart _ hp).1 rfl
  refine ⟨fun b => ?_, by rw [hpass]; exact h.2⟩
  have hc : (t.bay b).config = (s.bay b).config := frame (.config b) fun hp => (apart _ hp).2.1 b rfl
  have hg : (t.bay b).alloc = (s.bay b).alloc := frame (.grant b) fun hp => (apart _ hp).2.2 b rfl
  obtain ⟨-, hcap, hgrant, -⟩ := h.1 b
  exact ⟨figures b, by rwa [hc], by rwa [hg], peak b⟩

/-- A DEMAND's figures are stored in range (R4). -/
theorem readDemand_inRange {p : List Byte} {now : Uptime} {f : Figures} (h : readDemand p now = some f) : f.inRange := by
  unfold readDemand at h
  split at h
  · cases h
  · obtain ⟨state, -, rfl⟩ := Option.map_eq_some_iff.mp h
    simp only [Figures.inRange]
    omega

/-- A current within the figures of a bay is within 800 dA (R51). -/
theorem maxCurrent_le {f : Figures} (h : f.inRange) (cap : Nat) : maxCurrent f cap ≤ 800 := by
  obtain ⟨hrequested, hminimum, hmaximum, -⟩ := h
  unfold maxCurrent
  dsimp only
  split <;> omega

section
variable {s : State}

theorem passLine_grant_le (h : CurrentsInv s) {basis : Basis} {gs : List (Candidate × Nat)}
    (hgs : ∀ g ∈ gs, s.standing g.1.bay = .candidate g.1 ∧ ∃ x, g.2 = g.1.raised x) (b : BayNo) :
    (s.passLines basis gs)[b].grant ≤ 800 := by
  have hline : (s.passLines basis gs)[b] = s.passLine basis gs b := by simp [State.passLines]
  rw [hline]
  cases hg : gs.find? fun g => g.1.bay == b with
  | none => simp [State.passLine, hg]
  | some g =>
    obtain ⟨hstanding, x, hx⟩ := hgs g (List.mem_of_find?_eq_some hg)
    obtain ⟨f, hf, hc⟩ := State.standing_candidate hstanding
    have hrange := (h.1 g.1.bay).1 f hf
    have hmax : g.1.imax ≤ 800 := by rw [hc]; exact maxCurrent_le hrange _
    have hmin : g.1.imin ≤ 800 := by rw [hc]; exact hrange.2.1.trans hrange.2.2.1
    have hgrant : g.2 ≤ 800 := by
      rw [hx, Candidate.raised, Candidate.gap]
      omega
    simpa [State.passLine, hg] using hgrant

/-- The bays of a snapshot are those of the state before it. -/
theorem CurrentsInv.of_bays {t : State} (h : CurrentsInv s) (hbays : t.bays = s.bays)
    (hpass : ∀ p, t.ae.pass = some p → ∀ b : BayNo, p.lines[b].grant ≤ 800) : CurrentsInv t :=
  ⟨fun b => by rw [State.bay, hbays]; exact h.1 b, hpass⟩

theorem runPass_currentsInv (h : CurrentsInv s) (found : Vector (List BayNo × Bool) 8) : CurrentsInv (s.runPass found) := by
  have hnone (t : State) (ht : CurrentsInv t) (basis : Basis) (b : BayNo) : (t.passLines basis [])[b].grant ≤ 800 :=
    passLine_grant_le ht (by simp) b
  have htrim (t : State) (ht : CurrentsInv t) : CurrentsInv t.updateTrim :=
    ht.of_bays (by simp [State.updateTrim]) (by simpa [State.updateTrim] using ht.2)
  have hmarks : CurrentsInv s.applyMarks := h.of_bays rfl h.2
  unfold State.runPass
  cases s.passBasis with
  | settle => exact h.of_bays rfl fun p hp => by cases hp; exact hnone s h _
  | frozen =>
    exact (htrim s h).of_bays rfl fun p hp => by cases hp; exact hnone _ (htrim s h) _
  | fallback =>
    refine h.of_bays rfl fun p hp => ?_
    cases hp
    exact passLine_grant_le h fun g hg => ⟨bayOrder_standing (fallbackGrants_mem hg).1, (fallbackGrants_mem hg).2⟩
  | normal =>
    refine (htrim _ hmarks).of_bays rfl fun p hp => ?_
    cases hp
    exact passLine_grant_le (htrim _ hmarks) fun g hg => ⟨walkOrder_standing (allocate_mem hg).1, (allocate_mem hg).2⟩

/-- The grant table of a publication: every bay's row, and its guard loaded where the grant falls to 0 (R64, R66). -/
theorem State.publishTable_bay (s : State) (p : AllocPass) (b : BayNo) :
    (s.publishTable p).bay b = { s.bay b with alloc := (s.bay b).alloc.publish p.restartGuard (s.row p b) } := by
  have hbays : (s.publishTable p).bays =
      (s.mapBays fun b x => { x with alloc := x.alloc.publish p.restartGuard (s.row p b) }).bays := rfl
  rw [State.bay, hbays]
  exact s.mapBays_bay _ b

theorem publishTable_currentsInv (h : CurrentsInv s) {p : AllocPass} (hp : s.ae.pass = some p) :
    CurrentsInv (s.publishTable p) := by
  refine ⟨fun b => ?_, fun _ hp => nomatch hp⟩
  obtain ⟨hf, hcap, -, hpeak⟩ := h.1 b
  rw [s.publishTable_bay]
  exact ⟨hf, hcap, (s.row_le p b).trans (h.2 p hp b), hpeak⟩

theorem modAlloc_currentsInv (h : CurrentsInv s) (b : BayNo) {g : Alloc → Alloc} (hg : ∀ x, (g x).grant = x.grant) :
    CurrentsInv (s.modAlloc b g) := by
  refine ⟨fun c => ?_, h.2⟩
  by_cases hcb : c = b
  · subst hcb
    obtain ⟨hf, hcap, hle, hpeak⟩ := h.1 c
    exact ⟨by simpa using hf, by simpa [State.modAlloc] using hcap, by simpa [hg] using hle,
      by simpa [State.modAlloc] using hpeak⟩
  · rw [State.modAlloc, State.setBay_other _ _ hcb]
    exact h.1 c

theorem sendGrant_currentsInv (h : CurrentsInv s) (p : AllocPass) (b : BayNo) : CurrentsInv (State.sendGrant p s b) := by
  have hoffer (q : Queued) : CurrentsInv (s.offer .down q).1 :=
    currentsInv_restsOn.kept (s.offer_frame .down q) (by simp [currentParts, or_imp, forall_and]) h
  unfold State.sendGrant
  dsimp only
  split
  · split
    · split
      · exact modAlloc_currentsInv (hoffer _) b fun _ => rfl
      · exact hoffer _
    · exact h
  · exact h

theorem publish_currentsInv (h : CurrentsInv s) {p : AllocPass} (hp : s.ae.pass = some p) : CurrentsInv (s.publish p) := by
  refine currentsInv_restsOn.kept (State.setAllocTimer_frame _ _) (by simp [currentParts, or_imp, forall_and]) ?_
  refine currentsInv_restsOn.kept (State.batteryPass_frame _) (by simp [currentParts, or_imp, forall_and]) ?_
  refine foldl_keeps (P := CurrentsInv) (fun t b ht => sendGrant_currentsInv ht p b) _ ?_
  exact CurrentsInv.of_bays (publishTable_currentsInv h hp) rfl fun _ hp => nomatch hp

/-- The peak of an opened session starts from 0 (R116). -/
theorem openSession_peak (b : BayNo) (f : Figures) (h : ∀ c, (s.bay c).metering.peak ≤ 800) (c : BayNo) :
    ((s.openSession b f).bay c).metering.peak ≤ 800 := by
  by_cases hcb : c = b
  · subst hcb
    have hopened : ((s.openSession c f).bay c).metering = ⟨0, 0, 0, 0, 0, [⟨s.bandRef, 0, 0⟩], false, 0, 0, 0⟩ :=
      congrArg Bay.metering (State.setBay_bay s c _)
    simp [hopened]
  · rw [s.openSession_frame b f (.metering c) (by simp [hcb])]
    exact h c

theorem demand_peak (b : BayNo) (f : Figures) (h : ∀ c, (s.bay c).metering.peak ≤ 800) (c : BayNo) :
    ((s.demand b f).bay c).metering.peak ≤ 800 := by
  have htaken (c : BayNo) : ((s.modSession b fun x => { x with figures := some f }).bay c).metering.peak ≤ 800 := by
    simpa using h c
  unfold State.demand
  dsimp only
  generalize (s.modSession b fun x => { x with figures := some f }) = t at htaken ⊢
  have hkept {u : State} {a : Set Part} (hu : t.changesOnly u a) (ha : .metering c ∉ a) : (u.bay c).metering.peak ≤ 800 := by
    rw [hu (.metering c) ha]
    exact htaken c
  cases (t.bay b).session.state with
  | vacant =>
    dsimp only
    split
    · exact openSession_peak b f htaken c
    · exact htaken c
  | disabled => exact htaken c
  | connected | active | silent => exact hkept (t.demandRunning_frame b f) (by simp [finalisedParts])
  | closing => exact hkept (t.demandClosing_frame b f) (by simp [finalisedParts])
  | held => exact hkept (t.demandHeld_frame b f) (by simp)

theorem release_peak (number : BitVec 32) (h : ∀ c, (s.bay c).metering.peak ≤ 800) (c : BayNo) :
    ((s.release number).1.bay c).metering.peak ≤ 800 := by
  have hover (t : State) (b : BayNo) (rest : List BayNo) (ht : ∀ c, (t.bay c).metering.peak ≤ 800) :
      ((t.handOver b rest).bay c).metering.peak ≤ 800 := by
    have hbuilt (c : BayNo) : ((({ t with held := rest } : State).buildReceipt b).bay c).metering.peak ≤ 800 := by
      simpa using ht c
    unfold State.handOver
    dsimp only
    split
    · split
      · exact openSession_peak b _ hbuilt c
      · simpa using ht c
    · simpa using ht c
  have hreleased : (s.releaseOldest.bay c).metering.peak ≤ 800 := by
    have htail (c : BayNo) : (({ s with rq.receipts := s.rq.receipts.tail } : State).bay c).metering.peak ≤ 800 := h c
    unfold State.releaseOldest
    dsimp only
    split
    · rw [State.evalHigh_bay]
      exact htail c
    · rw [State.evalHigh_bay]
      exact hover _ _ _ htail
  unfold State.release
  split
  · exact h c
  · split
    · exact hreleased
    · split <;> exact h c

end

end Sys2Proof.Machine
end

section
/-! Every step keeps what is written, measured and granted in range (O58): the four invariants, each kept on its own. -/

namespace Sys2Proof.Machine

/-! ### Fields as they are read and taken (R167, R179) -/

theorem natOfBytes_append (xs ys : List Byte) : natOfBytes (xs ++ ys) = natOfBytes xs * 256 ^ ys.length + natOfBytes ys := by
  have hfrom (ys : List Byte) (acc : Nat) :
      ys.foldl (fun acc b => acc * 256 + b.toNat) acc = acc * 256 ^ ys.length + natOfBytes ys := by
    induction ys generalizing acc with
    | nil => simp [natOfBytes]
    | cons y ys ih =>
      simp only [natOfBytes, List.foldl_cons, List.length_cons] at ih ⊢
      rw [ih, ih (0 * 256 + y.toNat)]
      ring
  rw [natOfBytes, List.foldl_append, hfrom]
  rfl

theorem natOfBytes_lt (bs : List Byte) : natOfBytes bs < 256 ^ bs.length := by
  induction bs with
  | nil => simp [natOfBytes]
  | cons b bs ih =>
    have hsplit := natOfBytes_append [b] bs
    have hbyte : natOfBytes [b] = b.toNat := by simp [natOfBytes]
    have hlt : b.toNat + 1 ≤ 256 := b.isLt
    rw [List.singleton_append, hbyte] at hsplit
    rw [hsplit, List.length_cons, pow_succ]
    nlinarith [Nat.mul_le_mul_right (256 ^ bs.length) hlt]

/-- A field of `w` bytes carries less than 256 ^ w. -/
theorem readU_lt (p : List Byte) (off w : Nat) : readU p off w < 256 ^ w :=
  lt_of_lt_of_le (natOfBytes_lt _) (Nat.pow_le_pow_right (by omega) (by simp [slice]))

theorem takeNat_le {lo hi : Nat} (h : lo ≤ hi) (n : Nat) : lo ≤ (takeNat lo hi n).1 ∧ (takeNat lo hi n).1 ≤ hi := by
  simp only [takeNat]
  omega

theorem takeAddress_ne (b : Byte) : (takeAddress b).1 ≠ broadcast := by
  unfold takeAddress
  split
  · decide
  · assumption

/-! ### Written tables (R167) -/

theorem takeSite_inRange (old : SiteTable) (p : List Byte) : (takeSite old p).1.inRange := by
  have hu2 (off : Nat) : readU p off 2 ≤ 65535 := Nat.le_of_lt_succ (readU_lt p off 2)
  refine ⟨takeAddress_ne _, takeNat_le (by omega) _, hu2 _, takeNat_le (by omega) _, takeNat_le (by omega) _,
    takeNat_le (by omega) _, takeNat_le (by omega) _, takeNat_le (by omega) _, (takeNat_le (by omega) _).2,
    takeNat_le (by omega) _, takeNat_le (by omega) _, (takeNat_le (by omega) _).2, (takeNat_le (by omega) _).2,
    (takeNat_le (by omega) _).2, (takeNat_le (by omega) _).2, (takeNat_le (by omega) _).2, (takeNat_le (by omega) _).2,
    (takeNat_le (by omega) _).2, (takeNat_le (by omega) _).2, (takeNat_le (by omega) _).2, fun k => ?_,
    takeNat_le (by omega) _, takeNat_le (by omega) _⟩
  have hdwell : (takeSite old p).1.dwell[k] = readU p (59 + 2 * k.val) 2 := by simp [takeSite]
  rw [hdwell]
  exact hu2 _

theorem takeBattery_inRange (old : BatteryTable) (p : List Byte) : (takeBattery old p).1.inRange :=
  ⟨(takeNat_le (by omega) _).2, (takeNat_le (by omega) _).2, (takeNat_le (by omega) _).2, (takeNat_le (by omega) _).2,
    (takeNat_le (by omega) _).2, (takeNat_le (by omega) _).2, (takeNat_le (by omega) _).2, (takeNat_le (by omega) _).2,
    takeNat_le (by omega) _⟩

theorem takeCanopy_inRange (old : CanopyTable) (p : List Byte) : (takeCanopy old p).1.inRange := by
  refine ⟨(takeNat_le (by omega) _).2, (takeNat_le (by omega) _).2, takeNat_le (by omega) _, fun j => ?_⟩
  have hstring : (takeCanopy old p).1.strings[j] = (takeString old.strings[j] p (10 + 9 * j.val)).1 := by simp [takeCanopy]
  rw [hstring]
  exact ⟨(takeNat_le (by omega) _).2, (takeNat_le (by omega) _).2⟩

theorem takeBand_inRange (p : List Byte) (i : Nat) : (takeBand p i).1.inRange :=
  ⟨(takeNat_le (by omega) _).2, Nat.le_of_lt_succ (readU_lt p _ 2), Nat.le_of_lt_succ (readU_lt p _ 2)⟩

theorem takeProfile_inRange (p : List Byte) : (takeProfile p).1.inRange := by
  have hcount : 1 ≤ (takeCount p).1 ∧ (takeCount p).1 ≤ 8 := takeNat_le (by omega) _
  have hbands : (takeProfile p).1.bands =
      (takeBand p 0).1 :: (List.range ((takeCount p).1 - 1)).map fun i => (takeBand p (i + 1)).1 := by
    simp [takeProfile, Profile.bands]
  constructor
  · rw [hbands]
    simp only [List.length_cons, List.length_map, List.length_range]
    omega
  · rw [hbands]
    intro b hb
    rcases List.mem_cons.mp hb with rfl | hb
    · exact takeBand_inRange p 0
    · obtain ⟨i, -, rfl⟩ := List.mem_map.mp hb
      exact takeBand_inRange p (i + 1)

theorem takeBay_cap (old : BayConfig) (p : List Byte) : (takeBay old p).1.cap ≤ 800 := (takeNat_le (by omega) _).2

/-! ### TablesInv -/

/-- The parts on which TablesInv rests. -/
def tableParts : Set Part := {.site, .batteryTable, .canopyTable, .profiles} ∪ Set.range .config

/-- The written tables but for the bays' configuration. -/
def TablesInv.Whole (s : State) : Prop :=
  s.mr.site.inRange ∧ s.bd.table.inRange ∧ s.cc.table.inRange ∧ s.mu.profileA.inRange ∧ s.mu.profileB.inRange

theorem tablesInv_iff (s : State) : TablesInv s ↔ TablesInv.Whole s ∧ ∀ b, (s.bay b).config.cap ≤ 800 := by
  simp only [TablesInv, TablesInv.Whole, and_assoc]

theorem tablesInv_restsOn : RestsOn TablesInv tableParts := by
  intro s t same h
  have hsite : t.mr.site = s.mr.site := same .site (by simp [tableParts])
  have hbattery : t.bd.table = s.bd.table := same .batteryTable (by simp [tableParts])
  have hcanopy : t.cc.table = s.cc.table := same .canopyTable (by simp [tableParts])
  obtain ⟨hprofileA, hprofileB⟩ := same .profiles (by simp [tableParts])
  have hconfig (b : BayNo) : (t.bay b).config = (s.bay b).config := same (.config b) (by simp [tableParts])
  simpa [TablesInv, hsite, hbattery, hcanopy, hprofileA, hprofileB, hconfig] using h

/-- What changes at most one of the tables, and that to one in range, keeps them all in range. -/
theorem TablesInv.of_frame {s t : State} {part : Part} {a : Set Part} (h : TablesInv s) (frame : s.changesOnly t a)
    (apart : ∀ other ∈ tableParts, other ≠ part → other ∉ a)
    (changed : (part = .site ∧ t.mr.site.inRange) ∨ (part = .batteryTable ∧ t.bd.table.inRange) ∨
      (part = .canopyTable ∧ t.cc.table.inRange) ∨
      (part = .profiles ∧ t.mu.profileA.inRange ∧ t.mu.profileB.inRange)) : TablesInv t := by
  have kept (other : Part) (hin : other ∈ tableParts) (hne : other ≠ part) : s.same t other := frame other (apart other hin hne)
  obtain ⟨⟨hsite, hbattery, hcanopy, hprofileA, hprofileB⟩, hcap⟩ := (tablesInv_iff s).mp h
  have csite : t.mr.site.inRange := by
    by_cases hp : part = .site
    · subst hp; simpa using changed
    · have e : t.mr.site = s.mr.site := kept .site (by simp [tableParts]) (Ne.symm hp)
      rwa [e]
  have cbattery : t.bd.table.inRange := by
    by_cases hp : part = .batteryTable
    · subst hp; simpa using changed
    · have e : t.bd.table = s.bd.table := kept .batteryTable (by simp [tableParts]) (Ne.symm hp)
      rwa [e]
  have ccanopy : t.cc.table.inRange := by
    by_cases hp : part = .canopyTable
    · subst hp; simpa using changed
    · have e : t.cc.table = s.cc.table := kept .canopyTable (by simp [tableParts]) (Ne.symm hp)
      rwa [e]
  have cprofiles : t.mu.profileA.inRange ∧ t.mu.profileB.inRange := by
    by_cases hp : part = .profiles
    · subst hp; simpa using changed
    · obtain ⟨ea, eb⟩ := kept .profiles (by simp [tableParts]) (Ne.symm hp)
      exact ⟨by rwa [ea], by rwa [eb]⟩
  refine (tablesInv_iff t).mpr ⟨⟨csite, cbattery, ccanopy, cprofiles⟩, fun b => ?_⟩
  have e : (t.bay b).config = (s.bay b).config := kept (.config b) (by simp [tableParts])
    (by rcases changed with ⟨rfl, -⟩ | ⟨rfl, -⟩ | ⟨rfl, -⟩ | ⟨rfl, -⟩ <;> simp)
  rw [e]
  exact hcap b

section
variable (s : State)

@[simp] theorem State.evaluateWith_table (also : List Byte) : (s.evaluateWith also).bd.table = s.bd.table :=
  (s.evaluateWith_bd also).1

@[simp] theorem State.takeBatteryTable_table (t : BatteryTable) : (s.takeBatteryTable t).bd.table = t := by
  unfold State.takeBatteryTable State.evaluate
  dsimp only
  rw [State.evaluateWith_table]
  split
  · rfl
  · split <;> simp

/-- A SITE write leaves the table as its record is taken (R167). -/
theorem State.takeSiteRecord_site (record : List Byte) :
    (State.takeSiteRecord record s).1.mr.site = (takeSite s.mr.site record).1 := by
  have hsenses := State.sensesChanged_frame { s with mr.site := (takeSite s.mr.site record).1 } s.mr.site.shedSense
    s.mr.site.islandSense .site (by simp [inputParts])
  have hhold (t : State) (c : Prop) [Decidable c] : (if c then t else t.holdChanged).mr.site = t.mr.site := by
    split
    · rfl
    · exact t.holdChanged_frame .site (by simp [staleParts])
  have hhigh (t : State) (c : Prop) [Decidable c] : (if c then t else t.evalHigh).mr.site = t.mr.site := by
    split
    · rfl
    · exact t.evalHigh_frame .site (by simp)
  unfold State.takeSiteRecord
  dsimp only
  rw [hhigh, hhold]
  exact hsenses

theorem State.takeBayConfig_config (b : BayNo) (c : BayConfig) : ((s.takeBayConfig b c).bay b).config = c := by
  have hset : ((s.setBay b { s.bay b with config := c }).bay b).config = c := by simp
  unfold State.takeBayConfig
  dsimp only
  split
  · exact hset
  · exact (State.changeEnabled_frame _ b _ (.config b) (by simp)).trans hset

end

/-- The commands that may change a written table, restarts and resets apart. -/
theorem tableParts_changed {c : Instr} {part : Part} (ha : part ∈ tableParts) (hw : part ∈ workParts c) :
    workOf c = none ∨ c = .siteWrite ∨ c = .bayWrite ∨ c = .batteryWrite ∨ c = .canopyWrite ∨ c = .tariffWrite := by
  have hpart : part = .site ∨ part = .batteryTable ∨ part = .canopyTable ∨ part = .profiles ∨ ∃ b, part = .config b := by
    simpa [tableParts, or_assoc, eq_comm] using ha
  cases c with
  | warmRestart | supplyLoss | coldReset => exact .inl rfl
  | siteWrite | bayWrite | batteryWrite | canopyWrite | tariffWrite => simp
  | _ =>
    rcases hpart with rfl | rfl | rfl | rfl | ⟨b, rfl⟩ <;>
      simp [workParts, demandParts, answeredParts, releasedParts, counterParts, timerParts, finalisedParts,
        passParts, publishedParts, canopyParts] at hw

theorem bayWrite_tablesInv {s : State} (h : TablesInv s) (p : List Byte) : TablesInv (State.writeBay p s).1 := by
  have hconfig (b : BayNo) (c : BayConfig) (hc : c.cap ≤ 800) : TablesInv (s.takeBayConfig b c) := by
    have frame := s.takeBayConfig_frame b c
    obtain ⟨hwhole, hcap⟩ := (tablesInv_iff s).mp h
    refine (tablesInv_iff _).mpr ⟨?_, fun d => ?_⟩
    · have hsite : (s.takeBayConfig b c).mr.site = s.mr.site := frame .site (by simp)
      have hbattery : (s.takeBayConfig b c).bd.table = s.bd.table := frame .batteryTable (by simp)
      have hcanopy : (s.takeBayConfig b c).cc.table = s.cc.table := frame .canopyTable (by simp)
      obtain ⟨hprofileA, hprofileB⟩ := frame .profiles (by simp)
      simpa [TablesInv.Whole, hsite, hbattery, hcanopy, hprofileA, hprofileB] using hwhole
    · by_cases hd : d = b
      · subst hd
        rw [s.takeBayConfig_config]
        exact hc
      · have e : ((s.takeBayConfig b c).bay d).config = (s.bay d).config := frame (.config d) (by simp [hd])
        rw [e]
        exact hcap d
  unfold State.writeBay
  split
  · dsimp only
    split
    · exact h
    · exact tablesInv_restsOn.kept (State.planCheck_frame _) (by simp [tableParts, or_imp, forall_and])
        (hconfig _ _ (takeBay_cap _ _))
  · exact h

theorem step_keeps_tablesInv {s t : State} (hs : TablesInv s) (h : step s = .next t) : TablesInv t := by
  refine step_keeps tablesInv_restsOn (by simp [tableParts, outerParts, or_imp, forall_and]) reset_tablesInv
    (fun s => tablesInv_restsOn.kept s.sendStatus_frame (by simp [tableParts, or_imp, forall_and])) ?work
    (fun s high low => tablesInv_restsOn.kept (s.coldPins_frame high low) (by simp [tableParts, inputParts, or_imp, forall_and]))
    ?warm hs h
  case warm =>
    intro s cause high low h
    refine tablesInv_restsOn.kept (State.restartReceipts_frame _) (by simp [tableParts, or_imp, forall_and]) ?_
    refine tablesInv_restsOn.kept (State.restartCanopy_frame _) (by simp [tableParts, or_imp, forall_and]) ?_
    refine tablesInv_restsOn.kept (State.restartBattery_frame _) (by simp [tableParts, or_imp, forall_and]) ?_
    refine tablesInv_restsOn.kept (State.restartAlloc_frame _) (by simp [tableParts, passParts, or_imp, forall_and]) ?_
    refine tablesInv_restsOn.kept (State.restartSiu_frame _ _ _) (by simp [tableParts, or_imp, forall_and]) ?_
    refine tablesInv_restsOn.kept (State.restartSessions_frame _) (by simp [tableParts, or_imp, forall_and]) ?_
    refine tablesInv_restsOn.kept (State.restartLine_frame _) (by simp [tableParts, lineParts, or_imp, forall_and]) ?_
    exact tablesInv_restsOn.kept (State.restartManage_frame _ _) (by simp [tableParts, or_imp, forall_and]) h
  intro c work s hc hs
  have apart : ∀ part ∈ tableParts, part ∉ answeredParts := by simp [tableParts, answeredParts, or_imp, forall_and]
  have apartPlan : ∀ part ∈ tableParts, part ∉ ({.plan, .events} : Set Part) := by simp [tableParts, or_imp, forall_and]
  cases c with
  | warmRestart | supplyLoss | coldReset => cases hc
  | siteWrite =>
    cases hc
    refine tablesInv_restsOn.kept_by_service apart (tablesInv_restsOn.kept_by_write apartPlan (fun record => ?_) hs) hs
    refine hs.of_frame (part := .site) (s.takeSiteRecord_frame record) ?_ (.inl ⟨rfl, ?_⟩)
    · simp [tableParts, siteParts, inputParts, staleParts, or_imp, forall_and]
    · rw [s.takeSiteRecord_site]
      exact takeSite_inRange _ _
  | bayWrite =>
    cases hc
    exact tablesInv_restsOn.kept_by_service apart (fun p => bayWrite_tablesInv hs p) hs
  | batteryWrite =>
    cases hc
    refine tablesInv_restsOn.kept_by_service apart (tablesInv_restsOn.kept_by_write apartPlan (fun record => ?_) hs) hs
    refine hs.of_frame (part := .batteryTable) (s.takeBatteryTable_frame _) ?_ (.inr (.inl ⟨rfl, ?_⟩))
    · simp [tableParts, or_imp, forall_and]
    · rw [s.takeBatteryTable_table]
      exact takeBattery_inRange _ _
  | canopyWrite =>
    cases hc
    refine tablesInv_restsOn.kept_by_service apart (tablesInv_restsOn.kept_by_write apartPlan (fun record => ?_) hs) hs
    refine hs.of_frame (part := .canopyTable) (s.takeCanopyTable_frame _) ?_ (.inr (.inr (.inl ⟨rfl, ?_⟩)))
    · simp [tableParts, or_imp, forall_and]
    · exact takeCanopy_inRange s.cc.table record
  | tariffWrite =>
    cases hc
    refine tablesInv_restsOn.kept_by_service apart
      (fun p => tablesInv_restsOn.kept_by_write apartPlan (fun record => ?_) hs p) hs
    refine hs.of_frame (part := .profiles) (s.setProfile_frame _ _) ?_ (.inr (.inr (.inr ⟨rfl, ?_⟩)))
    · simp [tableParts]
    · obtain ⟨⟨-, -, -, hprofileA, hprofileB⟩, -⟩ := (tablesInv_iff s).mp hs
      have htaken := takeProfile_inRange record
      cases writtenProfile p with
      | a => exact ⟨htaken, hprofileB⟩
      | b => exact ⟨hprofileA, htaken⟩
  | _ =>
    exact tablesInv_restsOn.kept (workOf_frame hc s) (fun part ha hw => by simpa [workOf] using tableParts_changed ha hw) hs

end Sys2Proof.Machine
end

section
/-! Every step keeps figures, grants, measurement records and station entries in range (O58). -/

namespace Sys2Proof.Machine

/-! ### CurrentsInv -/

section
variable {s : State}

theorem CurrentsInv.peak_le (h : CurrentsInv s) (b : BayNo) : (s.bay b).metering.peak ≤ 800 := (h.1 b).2.2.2

theorem CurrentsInv.figures_inRange (h : CurrentsInv s) (b : BayNo) (f : Figures) (hf : (s.bay b).session.figures = some f) :
    f.inRange := (h.1 b).1 f hf

theorem demandFrame_currentsInv (h : CurrentsInv s) (f : Frame) : CurrentsInv (State.demandFrame f s) := by
  refine currentsInv_restsOn.kept (State.forward_frame _ .up f) (by simp [currentParts, or_imp, forall_and]) ?_
  split
  · split
    · next b figures _ hread =>
      refine h.of_sessions (s.demand_frame b figures) (by simp [finalisedParts, or_imp, forall_and]) (fun c g hg => ?_)
        (demand_peak b figures h.peak_le)
      rw [s.demand_figures] at hg
      split at hg
      · cases hg
        exact readDemand_inRange hread
      · exact h.figures_inRange c g hg
    · exact h
  · exact h

theorem tick_currentsInv (h : CurrentsInv s) : CurrentsInv s.tick := by
  refine ⟨fun b => ?_, h.2⟩
  rw [s.tick_bay b]
  split
  · obtain ⟨hf, hcap, hgrant, hpeak⟩ := h.1 b
    exact ⟨hf, hcap, hgrant, Nat.max_le.mpr ⟨hpeak, hgrant⟩⟩
  · exact h.1 b

theorem second_currentsInv (h : CurrentsInv s) : CurrentsInv s.second := by
  rw [s.second_eq]
  refine tick_currentsInv ⟨fun b => ?_, h.2⟩
  rw [s.advanced_bay]
  exact h.1 b

theorem startPass_currentsInv (h : CurrentsInv s) : CurrentsInv s.startPass := by
  have hsnapshot : CurrentsInv
      ({ s with ae.timer := Countdown.load 0, ae.settling := s.ae.settling && !s.settleEnds } : State).maintainLists :=
    h.of_bays rfl h.2
  exact runPass_currentsInv hsnapshot _

theorem placed_currentsInv (h : CurrentsInv s) (pos : Position) (new : Option Station) : CurrentsInv (s.placed pos new) := by
  have hset : CurrentsInv (s.setStation pos new) := h
  have hcaps : CurrentsInv ((touched Role.string? s.fs.stations[pos] new).foldl State.forgetCap (s.setStation pos new)) :=
    foldl_keeps (P := CurrentsInv) (fun t j ht => currentsInv_restsOn.kept (t.forgetCap_frame j)
      (by simp [currentParts, or_imp, forall_and]) ht) _ hset
  exact foldl_keeps (P := CurrentsInv) (f := State.forgetGrant) (fun t b ht => modAlloc_currentsInv ht b fun _ => rfl) _ hcaps

theorem writeBay_currentsInv (h : CurrentsInv s) (p : List Byte) : CurrentsInv (State.writeBay p s).1 := by
  have hconfig (b : BayNo) (c : BayConfig) (hc : c.cap ≤ 800) : CurrentsInv (s.takeBayConfig b c) := by
    have frame := s.takeBayConfig_frame b c
    have hpass : (s.takeBayConfig b c).ae.pass = s.ae.pass := frame .allocPass (by simp)
    refine ⟨fun d => ?_, by rw [hpass]; exact h.2⟩
    have hgrant : ((s.takeBayConfig b c).bay d).alloc = (s.bay d).alloc := frame (.grant d) (by simp)
    have hmetering : ((s.takeBayConfig b c).bay d).metering = (s.bay d).metering := frame (.metering d) (by simp)
    obtain ⟨hf, hcap, hle, hpeak⟩ := h.1 d
    refine ⟨by rwa [s.takeBayConfig_figures], ?_, by rwa [hgrant], by rwa [hmetering]⟩
    by_cases hd : d = b
    · subst hd
      rw [s.takeBayConfig_config]
      exact hc
    · have e : ((s.takeBayConfig b c).bay d).config = (s.bay d).config := frame (.config d) (by simp [hd])
      rwa [e]
  unfold State.writeBay
  split
  · dsimp only
    split
    · exact h
    · exact currentsInv_restsOn.kept (State.planCheck_frame _) (by simp [currentParts, or_imp, forall_and])
        (hconfig _ _ (takeBay_cap _ _))
  · exact h

theorem warmWork_currentsInv (h : CurrentsInv s) (cause : RestartCause) (high low : Bool) :
    CurrentsInv (State.warmWork cause high low s) := by
  have hsessions (t : State) (ht : CurrentsInv t) : CurrentsInv t.restartSessions := by
    refine ⟨fun b => ?_, ht.2⟩
    have hbay : t.restartSessions.bay b = if (t.bay b).session.state.isOpen then
        { t.bay b with session := { (t.bay b).session with restarted := true, timer := some t.newTimer } } else t.bay b :=
      t.mapBays_bay _ b
    rw [hbay]
    split
    · exact ht.1 b
    · exact ht.1 b
  have halloc (t : State) (ht : CurrentsInv t) : CurrentsInv t.restartAlloc := by
    refine ⟨fun b => ?_, fun _ hp => nomatch hp⟩
    have hbays : t.restartAlloc.bays = (t.mapBays fun _ x => { x with alloc := ⟨.none, 0, none, Countdown.load 0⟩ }).bays := rfl
    have hbay : t.restartAlloc.bay b = { t.bay b with alloc := ⟨.none, 0, none, Countdown.load 0⟩ } := by
      rw [State.bay, hbays]
      exact t.mapBays_bay _ b
    obtain ⟨hf, hcap, -, hpeak⟩ := ht.1 b
    rw [hbay]
    exact ⟨hf, hcap, Nat.zero_le _, hpeak⟩
  refine currentsInv_restsOn.kept (State.restartReceipts_frame _) (by simp [currentParts, or_imp, forall_and]) ?_
  refine currentsInv_restsOn.kept (State.restartCanopy_frame _) (by simp [currentParts, or_imp, forall_and]) ?_
  refine currentsInv_restsOn.kept (State.restartBattery_frame _) (by simp [currentParts, or_imp, forall_and]) ?_
  refine halloc _ ?_
  refine currentsInv_restsOn.kept (State.restartSiu_frame _ _ _) (by simp [currentParts, or_imp, forall_and]) ?_
  refine hsessions _ ?_
  refine currentsInv_restsOn.kept (State.restartLine_frame _) (by simp [currentParts, lineParts, or_imp, forall_and]) ?_
  exact currentsInv_restsOn.kept (State.restartManage_frame _ _) (by simp [currentParts, or_imp, forall_and]) h

end

/-- The commands that may change a part of CurrentsInv, restarts and resets apart. -/
theorem currentParts_changed {c : Instr} {part : Part} (ha : part ∈ currentParts) (hw : part ∈ workParts c) :
    workOf c = none ∨ (∃ r, c = .demandFrame r) ∨ (∃ r, c = .linkFrame r) ∨ c = .stationWrite ∨ c = .bayWrite ∨
      c = .forceClose ∨ c = .releaseReceipt ∨ c = .meteringTick ∨ (∃ b, c = .silenceExpiry b) ∨
      (∃ b, c = .silentCloseExpiry b) ∨ (∃ b, c = .closeHoldExpiry b) ∨ c = .allocationPassStart ∨ c = .publication ∨
      ∃ b, c = .guardExpiry b := by
  have hpart : part = .allocPass ∨ (∃ b, part = .session b) ∨ (∃ b, part = .config b) ∨ (∃ b, part = .grant b) ∨
      ∃ b, part = .metering b := by simpa [currentParts, or_assoc, eq_comm] using ha
  cases c with
  | warmRestart | supplyLoss | coldReset => exact .inl rfl
  | demandFrame | linkFrame | stationWrite | bayWrite | forceClose | releaseReceipt | meteringTick | silenceExpiry
  | silentCloseExpiry | closeHoldExpiry | allocationPassStart | publication | guardExpiry => simp
  | _ =>
    rcases hpart with rfl | ⟨b, rfl⟩ | ⟨b, rfl⟩ | ⟨b, rfl⟩ | ⟨b, rfl⟩ <;>
      simp [workParts, writtenParts, siteParts, inputParts, staleParts, answeredParts, counterParts, canopyParts] at hw

theorem step_keeps_currentsInv {s t : State} (hs : CurrentsInv s) (h : step s = .next t) : CurrentsInv t := by
  refine step_keeps currentsInv_restsOn (by simp [currentParts, outerParts, or_imp, forall_and]) reset_currentsInv
    (fun s => currentsInv_restsOn.kept s.sendStatus_frame (by simp [currentParts, or_imp, forall_and])) ?work
    (fun s high low => currentsInv_restsOn.kept (s.coldPins_frame high low)
      (by simp [currentParts, inputParts, or_imp, forall_and]))
    (fun s cause high low h => warmWork_currentsInv (s := s.clearPending) h cause high low) hs h
  intro c work s hc hs
  have apart : ∀ part ∈ currentParts, part ∉ answeredParts := by simp [currentParts, answeredParts, or_imp, forall_and]
  have apartReceived (p : Port) : ∀ part ∈ currentParts, part ∉ ({.counters p} : Set Part) := by
    simp [currentParts, or_imp, forall_and]
  have sessions {u t : State} {a : Set Part} (hu : CurrentsInv u) (frame : u.changesOnly t a)
      (ha : ∀ part ∈ a, part ≠ .allocPass ∧ (∀ b, part ≠ .config b) ∧ (∀ b, part ≠ .grant b) ∧ ∀ b, part ≠ .metering b)
      (figures : ∀ b, (t.bay b).session.figures = (u.bay b).session.figures) : CurrentsInv t :=
    hu.of_sessions frame (fun part hp => ⟨(ha part hp).1, (ha part hp).2.1, (ha part hp).2.2.1⟩)
      (fun b f hf => hu.figures_inRange b f (by rwa [← figures b]))
      (fun b => by
        have e : (t.bay b).metering = (u.bay b).metering := frame (.metering b) fun hp => (ha _ hp).2.2.2 b rfl
        rw [e]
        exact hu.peak_le b)
  cases c with
  | warmRestart | supplyLoss | coldReset => cases hc
  | demandFrame r =>
    cases hc
    exact currentsInv_restsOn.kept_by_receive (apartReceived _) (fun f u hu => demandFrame_currentsInv hu f) hs
  | linkFrame r =>
    cases hc
    refine currentsInv_restsOn.kept_by_receive (apartReceived _) (fun f u hu => ?_) hs
    unfold State.linkFrame
    split
    · exact currentsInv_restsOn.kept u.countOwnDrop_frame (by simp [currentParts, or_imp, forall_and]) hu
    · refine currentsInv_restsOn.kept (State.offer_frame _ .up _) (by simp [currentParts, or_imp, forall_and]) ?_
      exact sessions hu (u.takeLink_frame _ _ _) (by simp [or_imp, forall_and]) fun b => u.takeLink_figures b _ _ _
  | stationWrite =>
    cases hc
    exact currentsInv_restsOn.kept_by_service apart (writeStation_keeps currentsInv_restsOn
      (by simp [currentParts, or_imp, forall_and]) hs fun pos new _ => placed_currentsInv hs pos new) hs
  | bayWrite =>
    cases hc
    exact currentsInv_restsOn.kept_by_service apart (fun p => writeBay_currentsInv hs p) hs
  | forceClose =>
    cases hc
    refine currentsInv_restsOn.kept_by_service apart (fun p => ?_) hs
    unfold commandForceClose withArguments
    split
    · exact hs
    · exact sessions hs (s.forceClose_frame _) (by simp [forall_and]) fun b => s.forceClose_figures b _
  | releaseReceipt =>
    cases hc
    refine currentsInv_restsOn.kept_by_service apart (fun p => ?_) hs
    unfold commandRelease withArguments
    split
    · exact hs
    · refine hs.of_sessions (s.release_frame _) (by simp [releasedParts, or_imp, forall_and])
        (fun b f hf => hs.figures_inRange b f ?_) (release_peak _ hs.peak_le)
      rwa [s.release_figures] at hf
  | meteringTick =>
    cases hc
    exact second_currentsInv hs
  | silenceExpiry b =>
    cases hc
    exact sessions hs (s.silenceExpiry_frame b) (by simp [or_imp, forall_and]) fun c => s.silenceExpiry_figures b c
  | silentCloseExpiry b =>
    cases hc
    exact sessions hs (s.silentCloseExpiry_frame b) (by simp [finalisedParts, or_imp, forall_and])
      fun c => s.silentCloseExpiry_figures b c
  | closeHoldExpiry b =>
    cases hc
    exact sessions hs (s.closeHoldExpiry_frame b) (by simp [finalisedParts, or_imp, forall_and])
      fun c => s.closeHoldExpiry_figures b c
  | allocationPassStart =>
    cases hc
    dsimp only
    split
    · exact startPass_currentsInv hs
    · exact hs
  | publication =>
    cases hc
    dsimp only
    split
    next p hp => exact publish_currentsInv hs hp
    next => exact hs
  | guardExpiry b =>
    cases hc
    dsimp only
    split
    · exact modAlloc_currentsInv hs b fun _ => rfl
    · exact hs
  | _ =>
    exact currentsInv_restsOn.kept (workOf_frame hc s) (fun part ha hw => by simpa [workOf] using currentParts_changed ha hw) hs

/-! ### RecordsInv (R28, R29, R31) -/

/-- The parts on which RecordsInv rests. -/
def recordParts : Set Part := Set.range .record ∪ Set.range .station

/-- Whether a position's record fits its entry: the part of RecordsInv that speaks of one position. -/
def recordFits (e : Option Station) (r : Option MeasRecord) : Prop :=
  r.isSome = (e.any fun e => e.role.measures) ∧
    ∀ x y, r = some x → e = some y → x.age ≤ 255 ∧ ∀ v, x.values = some v → v.fit y.role

theorem recordsInv_restsOn : RestsOn RecordsInv recordParts := by
  intro s t same h pos
  have hr : t.siu.records[pos] = s.siu.records[pos] := same (.record pos) (by simp [recordParts])
  have he : t.fs.stations[pos] = s.fs.stations[pos] := same (.station pos) (by simp [recordParts])
  rw [hr, he]
  exact h pos

/-- The values read of a SAMPLE are those of its source's role (R29). -/
theorem readSample_fit {role : Role} {p : List Byte} {v : Values} (h : readSample role p = some v) : v.fit role := by
  unfold readSample at h
  split at h
  · cases h
  · cases role <;> simp only [Option.some.injEq, reduceCtorEq] at h <;> subst h <;> simp [Values.fit]

/-- A record that keeps its values, or loses them, and whose age stays in range still fits its entry. -/
theorem recordFits.of_kept {e : Option Station} {r : MeasRecord} (h : recordFits e (some r)) {x : MeasRecord}
    (hage : x.age ≤ 255) (hvalues : x.values = r.values ∨ x.values = none) : recordFits e (some x) := by
  refine ⟨h.1, fun y z hy hz => ?_⟩
  cases hy
  refine ⟨hage, fun v hv => ?_⟩
  rcases hvalues with hk | hn
  · exact (h.2 r z rfl hz).2 v (hk ▸ hv)
  · simp [hn] at hv

section
variable {s : State}

theorem RecordsInv.age_le (h : RecordsInv s) {pos : Position} {r : MeasRecord} (hr : s.siu.records[pos] = some r) :
    r.age ≤ 255 := by
  obtain ⟨hexists, hfits⟩ := h pos
  rw [hr, Option.isSome_some, eq_comm, Option.any_eq_true_iff_get] at hexists
  obtain ⟨he, -⟩ := hexists
  exact (hfits r _ hr (Option.some_get he).symm).1

theorem setRecord_recordsInv (h : RecordsInv s) (pos : Position) {r : MeasRecord}
    (hr : recordFits s.fs.stations[pos] (some r)) : RecordsInv (s.setRecord pos (some r)) := by
  intro other
  by_cases hp : other = pos
  · subst hp
    rw [s.setRecord_record]
    exact hr
  · rw [s.setRecord_other _ hp]
    exact h other

theorem evaluate_recordsInv (h : RecordsInv s) (also : List Byte) : RecordsInv (s.evaluateWith also) :=
  recordsInv_restsOn.kept (s.evaluateWith_frame also) (by simp [recordParts, or_imp, forall_and]) h

theorem turnStale_recordsInv (h : RecordsInv s) (pos : Position) : RecordsInv (s.turnStale pos) := by
  have hraised (t : State) (o : Option Event) (ht : RecordsInv t) :
      RecordsInv (match o with | some ev => t.raise ev | none => t) := by
    cases o <;> exact ht
  unfold State.turnStale
  split
  · next r e hr he =>
    split
    · have hset : RecordsInv (s.setRecord pos (some { r with reported := true })) := by
        refine setRecord_recordsInv h pos ?_
        have hfits : recordFits s.fs.stations[pos] (some r) := hr ▸ h pos
        exact hfits.of_kept (x := { r with reported := true }) (h.age_le (r := r) hr) (.inl rfl)
      dsimp only
      split
      · exact evaluate_recordsInv (hraised _ _ hset) []
      · exact hraised _ _ hset
    · exact h
  · exact h

/-- Each record changed in the same way, so that it keeps its values or loses them. -/
theorem mapRecords_recordsInv (h : RecordsInv s) {g : MeasRecord → MeasRecord} (hage : ∀ r, r.age ≤ 255 → (g r).age ≤ 255)
    (hvalues : ∀ r, (g r).values = r.values ∨ (g r).values = none) :
    RecordsInv { s with siu.records := s.siu.records.map fun r => r.map g } := by
  intro pos
  have hrecord : ({ s with siu.records := s.siu.records.map fun r => r.map g } : State).siu.records[pos] =
      s.siu.records[pos].map g := by simp
  rw [hrecord]
  have hfits : recordFits s.fs.stations[pos] s.siu.records[pos] := h pos
  cases hr : s.siu.records[pos] with
  | none => rw [hr] at hfits; exact ⟨hfits.1, fun _ _ hx => nomatch hx⟩
  | some r =>
    rw [hr] at hfits
    exact hfits.of_kept (hage r (h.age_le hr)) (hvalues r)

theorem holdChanged_recordsInv (h : RecordsInv s) : RecordsInv s.holdChanged := by
  refine foldl_keeps (P := RecordsInv) (fun t pos ht => turnStale_recordsInv ht pos) _ (mapRecords_recordsInv h ?_ ?_)
  · intro r hr
    unfold MeasRecord.refreshed
    split <;> exact hr
  · intro r
    unfold MeasRecord.refreshed
    split <;> exact .inl rfl

theorem ageRecords_recordsInv (h : RecordsInv s) : RecordsInv s.ageRecords :=
  mapRecords_recordsInv h (fun _ _ => Nat.min_le_left _ _) fun _ => .inl rfl

theorem sampleFrame_recordsInv (h : RecordsInv s) (f : Frame) : RecordsInv (State.sampleFrame f s) := by
  have htapped (pos : Position) (e : Station) (he : s.fs.stations[pos] = some e) :
      RecordsInv (s.tapSample pos e.role f.payload) := by
    unfold State.tapSample
    split
    · next v r hv hr =>
      have hset : RecordsInv (s.setRecord pos (some { r with values := some v, age := 0, reported := false })) := by
        refine setRecord_recordsInv h pos ?_
        have hexists : recordFits s.fs.stations[pos] (some r) := hr ▸ h pos
        refine ⟨hexists.1, fun x y hx hy => ?_⟩
        cases hx
        obtain rfl : e = y := by simpa [he] using hy
        exact ⟨Nat.zero_le _, fun w hw => by cases hw; exact readSample_fit hv⟩
      dsimp only
      split
      · exact evaluate_recordsInv hset []
      · exact hset
    · exact h
  unfold State.sampleFrame
  split
  · next pos e hstation =>
    refine recordsInv_restsOn.kept (State.forwardSample_frame _ _ _ _) (by simp [recordParts, or_imp, forall_and]) (htapped _ _ ?_)
    unfold State.stationOf at hstation
    split at hstation
    · cases hstation
    · exact (State.findStation_some hstation).1
  · exact h

theorem recordAfter_fits (now : Uptime) {old : Option Station} (new : Option Station) {r : Option MeasRecord}
    (h : recordFits old r) : recordFits new (recordAfter now old new r) := by
  unfold recordAfter
  cases new with
  | none => exact ⟨rfl, fun _ _ hx => nomatch hx⟩
  | some e =>
    by_cases hm : e.role.measures = true
    · simp only [hm, if_true]
      split
      · next hsame =>
        obtain ⟨o, rfl, ho⟩ := Option.map_eq_some_iff.mp hsame
        have hrole : o.role = e.role := congrArg Prod.snd ho
        refine ⟨by rw [h.1]; simp [hrole, hm], fun x y hx hy => ?_⟩
        cases hy
        rw [← hrole]
        exact h.2 x o hx rfl
      · refine ⟨by simp [hm], fun x y hx hy => ?_⟩
        cases hx
        exact ⟨le_rfl, fun v hv => nomatch hv⟩
    · simp only [hm]
      exact ⟨by simp [hm], fun _ _ hx => nomatch hx⟩

theorem setStation_recordsInv (h : RecordsInv s) (pos : Position) (new : Option Station) : RecordsInv (s.setStation pos new) := by
  intro other
  by_cases hp : other = pos
  · subst hp
    have hr : (s.setStation other new).siu.records[other] = recordAfter s.now s.fs.stations[other] new s.siu.records[other] := by
      simp [State.setStation]
    have he : (s.setStation other new).fs.stations[other] = new := by simp [State.setStation]
    rw [hr, he]
    exact recordAfter_fits _ _ (h other)
  · have hr : (s.setStation pos new).siu.records[other] = s.siu.records[other] := s.setStation_frame pos new (.record other) (by simp [hp])
    have he : (s.setStation pos new).fs.stations[other] = s.fs.stations[other] := s.setStation_frame pos new (.station other) (by simp [hp])
    rw [hr, he]
    exact h other

theorem placed_recordsInv (h : RecordsInv s) (pos : Position) (new : Option Station) : RecordsInv (s.placed pos new) := by
  refine foldl_keeps (P := RecordsInv) (fun t b ht => recordsInv_restsOn.kept (t.modAlloc_frame b _)
    (by simp [recordParts, or_imp, forall_and]) ht) _ ?_
  exact foldl_keeps (P := RecordsInv) (fun t j ht => recordsInv_restsOn.kept (t.forgetCap_frame j)
    (by simp [recordParts, or_imp, forall_and]) ht) _ (setStation_recordsInv h pos new)

end
end Sys2Proof.Machine
end

section
/-! Every step keeps measurement records and station entries in range, and with them all that O58 names. -/

namespace Sys2Proof.Machine

/-! ### RecordsInv -/

/-- The commands that may change a record or an entry, restarts and resets apart. -/
theorem recordParts_changed {c : Instr} {part : Part} (ha : part ∈ recordParts) (hw : part ∈ workParts c) :
    workOf c = none ∨ (∃ r, c = .sampleFrame r) ∨ c = .siteWrite ∨ c = .stationWrite ∨ c = .measureAgeTick ∨
      ∃ pos, c = .recordStale pos := by
  have hpart : (∃ pos, part = .record pos) ∨ ∃ pos, part = .station pos := by simpa [recordParts, eq_comm] using ha
  cases c with
  | warmRestart | supplyLoss | coldReset => exact .inl rfl
  | sampleFrame | siteWrite | stationWrite | measureAgeTick | recordStale => simp
  | _ =>
    rcases hpart with ⟨pos, rfl⟩ | ⟨pos, rfl⟩ <;>
      simp [workParts, demandParts, writtenParts, answeredParts, releasedParts, counterParts, timerParts, finalisedParts,
        passParts, publishedParts, canopyParts] at hw

theorem takeSiteRecord_recordsInv {s : State} (h : RecordsInv s) (record : List Byte) :
    RecordsInv (State.takeSiteRecord record s).1 := by
  have hsite (site : SiteTable) : RecordsInv { s with mr.site := site } := h
  have hsenses (t : State) (a b : Sense) (ht : RecordsInv t) : RecordsInv (t.sensesChanged a b) :=
    recordsInv_restsOn.kept (t.sensesChanged_frame a b) (by simp [recordParts, inputParts, or_imp, forall_and]) ht
  have hhold (t : State) (c : Prop) [Decidable c] (ht : RecordsInv t) : RecordsInv (if c then t else t.holdChanged) := by
    split
    · exact ht
    · exact holdChanged_recordsInv ht
  have hhigh (t : State) (c : Prop) [Decidable c] (ht : RecordsInv t) : RecordsInv (if c then t else t.evalHigh) := by
    split
    · exact ht
    · exact recordsInv_restsOn.kept t.evalHigh_frame (by simp [recordParts, or_imp, forall_and]) ht
  exact hhigh _ _ (hhold _ _ (hsenses _ _ _ (hsite _)))

theorem warmWork_recordsInv {s : State} (h : RecordsInv s) (cause : RestartCause) (high low : Bool) :
    RecordsInv (State.warmWork cause high low s) := by
  have hsiu (t : State) (ht : RecordsInv t) : RecordsInv (t.restartSiu high low) := by
    have hnever : RecordsInv { t with siu.records := t.siu.records.map fun r => r.map fun _ => MeasRecord.never t.now } :=
      mapRecords_recordsInv (g := fun _ => MeasRecord.never t.now) ht (fun _ _ => le_rfl) fun _ => .inr rfl
    refine recordsInv_restsOn.kept (State.changesOnly_trans (State.raiseIf_frame _ _ _) (State.raiseIf_frame _ _ _))
      (by simp [recordParts, or_imp, forall_and]) ?_
    exact hnever
  refine recordsInv_restsOn.kept (State.restartReceipts_frame _) (by simp [recordParts, or_imp, forall_and]) ?_
  refine recordsInv_restsOn.kept (State.restartCanopy_frame _) (by simp [recordParts, or_imp, forall_and]) ?_
  refine recordsInv_restsOn.kept (State.restartBattery_frame _) (by simp [recordParts, or_imp, forall_and]) ?_
  refine recordsInv_restsOn.kept (State.restartAlloc_frame _) (by simp [recordParts, passParts, or_imp, forall_and]) ?_
  refine hsiu _ ?_
  refine recordsInv_restsOn.kept (State.restartSessions_frame _) (by simp [recordParts, or_imp, forall_and]) ?_
  refine recordsInv_restsOn.kept (State.restartLine_frame _) (by simp [recordParts, lineParts, or_imp, forall_and]) ?_
  exact recordsInv_restsOn.kept (State.restartManage_frame _ _) (by simp [recordParts, or_imp, forall_and]) h

theorem step_keeps_recordsInv {s t : State} (hs : RecordsInv s) (h : step s = .next t) : RecordsInv t := by
  refine step_keeps recordsInv_restsOn (by simp [recordParts, outerParts, or_imp, forall_and]) reset_recordsInv
    (fun s => recordsInv_restsOn.kept s.sendStatus_frame (by simp [recordParts, or_imp, forall_and])) ?work
    (fun s high low => recordsInv_restsOn.kept (s.coldPins_frame high low)
      (by simp [recordParts, inputParts, or_imp, forall_and]))
    (fun s cause high low h => warmWork_recordsInv (s := s.clearPending) h cause high low) hs h
  intro c work s hc hs
  have apart : ∀ part ∈ recordParts, part ∉ answeredParts := by simp [recordParts, answeredParts, or_imp, forall_and]
  cases c with
  | warmRestart | supplyLoss | coldReset => cases hc
  | sampleFrame r =>
    cases hc
    exact recordsInv_restsOn.kept_by_receive (by simp [recordParts, or_imp, forall_and])
      (fun f u hu => sampleFrame_recordsInv hu f) hs
  | siteWrite =>
    cases hc
    exact recordsInv_restsOn.kept_by_service apart (recordsInv_restsOn.kept_by_write
      (by simp [recordParts, or_imp, forall_and]) (fun record => takeSiteRecord_recordsInv hs record) hs) hs
  | stationWrite =>
    cases hc
    exact recordsInv_restsOn.kept_by_service apart (writeStation_keeps recordsInv_restsOn
      (by simp [recordParts, or_imp, forall_and]) hs fun pos new _ => placed_recordsInv hs pos new) hs
  | measureAgeTick => cases hc; exact ageRecords_recordsInv hs
  | recordStale pos => cases hc; exact turnStale_recordsInv hs pos
  | _ =>
    exact recordsInv_restsOn.kept (workOf_frame hc s) (fun part ha hw => by simpa [workOf] using recordParts_changed ha hw) hs

/-! ### StationsInv (R150, R154) -/

/-- The parts on which StationsInv rests. -/
def entryParts : Set Part := Set.range .station ∪ Set.range .forwardCount

theorem stationsInv_restsOn : RestsOn StationsInv entryParts := by
  intro s t same h pos e
  have he : t.fs.stations[pos] = s.fs.stations[pos] := same (.station pos) (by simp [entryParts])
  have hn : t.fs.counts[pos] = s.fs.counts[pos] := same (.forwardCount pos) (by simp [entryParts])
  rw [hn, he]
  exact h pos e

section
variable {s : State}

/-- An entry that an address matches stands at its position (R150). -/
theorem State.stationOf_some {a : Byte} {pos : Position} {e : Station} (h : s.stationOf a = some (pos, e)) :
    s.fs.stations[pos] = some e := by
  unfold State.stationOf at h
  split at h
  · cases h
  · exact (State.findStation_some h).1

theorem setCount_stationsInv (h : StationsInv s) {pos : Position} {n : Nat}
    (hn : ∀ e, s.fs.stations[pos] = some e → n < e.divider) :
    StationsInv { s with fs.counts := s.fs.counts.set pos n } := by
  intro other e he
  obtain ⟨haddress, hlow, hhigh, hcount⟩ := h other e he
  refine ⟨haddress, hlow, hhigh, ?_⟩
  by_cases hp : pos = other
  · subst hp
    simpa using hn e he
  · have hne : (pos : Nat) ≠ other := fun heq => hp (Fin.ext heq)
    simpa [Vector.getElem_set_ne, hne] using hcount

theorem forwardSample_stationsInv (h : StationsInv s) {pos : Position} {e : Station} (he : s.fs.stations[pos] = some e)
    (f : Frame) : StationsInv (s.forwardSample pos e f) := by
  have hcounted : StationsInv { s with fs.counts := s.fs.counts.set pos ((s.fs.counts[pos] + 1) % e.divider) } := by
    refine setCount_stationsInv h fun x hx => ?_
    obtain rfl : e = x := by simpa [he] using hx
    exact Nat.mod_lt _ (h pos e he).2.1
  unfold State.forwardSample
  dsimp only
  split
  · exact stationsInv_restsOn.kept (State.forward_frame _ .up f) (by simp [entryParts, or_imp, forall_and]) hcounted
  · exact hcounted

theorem sampleFrame_stationsInv (h : StationsInv s) (f : Frame) : StationsInv (State.sampleFrame f s) := by
  unfold State.sampleFrame
  split
  · next pos e hstation =>
    have frame := s.tapSample_frame pos e.role f.payload
    refine forwardSample_stationsInv (stationsInv_restsOn.kept frame (by simp [entryParts, or_imp, forall_and]) h) ?_ f
    have hkept : (s.tapSample pos e.role f.payload).fs.stations[pos] = s.fs.stations[pos] := frame (.station pos) (by simp)
    rw [hkept]
    exact State.stationOf_some hstation
  · exact h

theorem forwardUpFrame_stationsInv (h : StationsInv s) (f : Frame) : StationsInv (State.forwardUpFrame f s) := by
  have hforward (t : State) (ht : StationsInv t) : StationsInv (t.forward .up f) :=
    stationsInv_restsOn.kept (t.forward_frame .up f) (by simp [entryParts, or_imp, forall_and]) ht
  have hcounted : StationsInv { s with fs.unknownStation := bump s.fs.unknownStation } := h
  unfold State.forwardUpFrame
  split
  · exact hforward _ hcounted
  · next hstation =>
    split
    · exact forwardSample_stationsInv h (State.stationOf_some hstation) f
    · exact hforward _ h

theorem takeStation_inRange {old : Option Station} {p : List Byte} {e : Station} (h : (takeStation old p).1 = some e) :
    e.address ≠ broadcast ∧ 1 ≤ e.divider ∧ e.divider ≤ 16 := by
  unfold takeStation at h
  dsimp only at h
  split at h
  · cases h
  · cases h
    exact ⟨takeAddress_ne _, takeNat_le (by omega) _⟩

theorem placed_stationsInv (h : StationsInv s) (pos : Position) {new : Option Station}
    (hnew : ∀ e, new = some e → e.address ≠ broadcast ∧ 1 ≤ e.divider ∧ e.divider ≤ 16) : StationsInv (s.placed pos new) := by
  have hset : StationsInv (s.setStation pos new) := by
    intro other e he
    by_cases hp : other = pos
    · subst hp
      have hentry : (s.setStation other new).fs.stations[other] = new := by simp [State.setStation]
      have hcount : (s.setStation other new).fs.counts[other] = 0 := by simp [State.setStation]
      obtain ⟨haddress, hlow, hhigh⟩ := hnew e (hentry ▸ he)
      exact ⟨haddress, hlow, hhigh, by rw [hcount]; exact hlow⟩
    · have frame := s.setStation_frame pos new
      have hentry : (s.setStation pos new).fs.stations[other] = s.fs.stations[other] := frame (.station other) (by simp [hp])
      have hcount : (s.setStation pos new).fs.counts[other] = s.fs.counts[other] := frame (.forwardCount other) (by simp [hp])
      rw [hcount]
      exact h other e (hentry ▸ he)
  refine foldl_keeps (P := StationsInv) (fun t b ht => stationsInv_restsOn.kept (t.modAlloc_frame b _)
    (by simp [entryParts, or_imp, forall_and]) ht) _ ?_
  exact foldl_keeps (P := StationsInv) (fun t j ht => stationsInv_restsOn.kept (t.forgetCap_frame j)
    (by simp [entryParts, or_imp, forall_and]) ht) _ hset

theorem warmWork_stationsInv (h : StationsInv s) (cause : RestartCause) (high low : Bool) :
    StationsInv (State.warmWork cause high low s) := by
  have hline (t : State) (ht : StationsInv t) : StationsInv t.restartLine := by
    intro pos e he
    obtain ⟨haddress, hlow, hhigh, -⟩ := ht pos e he
    have hcount : t.restartLine.fs.counts[pos] = 0 := by simp [State.restartLine]
    exact ⟨haddress, hlow, hhigh, by rw [hcount]; exact hlow⟩
  refine stationsInv_restsOn.kept (State.restartReceipts_frame _) (by simp [entryParts, or_imp, forall_and]) ?_
  refine stationsInv_restsOn.kept (State.restartCanopy_frame _) (by simp [entryParts, or_imp, forall_and]) ?_
  refine stationsInv_restsOn.kept (State.restartBattery_frame _) (by simp [entryParts, or_imp, forall_and]) ?_
  refine stationsInv_restsOn.kept (State.restartAlloc_frame _) (by simp [entryParts, passParts, or_imp, forall_and]) ?_
  refine stationsInv_restsOn.kept (State.restartSiu_frame _ _ _) (by simp [entryParts, or_imp, forall_and]) ?_
  refine stationsInv_restsOn.kept (State.restartSessions_frame _) (by simp [entryParts, or_imp, forall_and]) ?_
  refine hline _ ?_
  exact stationsInv_restsOn.kept (State.restartManage_frame _ _) (by simp [entryParts, or_imp, forall_and]) h

end

/-- The commands that may change an entry or a forward count, restarts and resets apart. -/
theorem entryParts_changed {c : Instr} {part : Part} (ha : part ∈ entryParts) (hw : part ∈ workParts c) :
    workOf c = none ∨ (∃ r, c = .sampleFrame r) ∨ (∃ r, c = .forwardUp r) ∨ c = .stationWrite := by
  have hpart : (∃ pos, part = .station pos) ∨ ∃ pos, part = .forwardCount pos := by simpa [entryParts, eq_comm] using ha
  cases c with
  | warmRestart | supplyLoss | coldReset => exact .inl rfl
  | sampleFrame | forwardUp | stationWrite => simp
  | _ =>
    rcases hpart with ⟨pos, rfl⟩ | ⟨pos, rfl⟩ <;>
      simp [workParts, demandParts, writtenParts, siteParts, inputParts, staleParts, answeredParts, releasedParts, counterParts,
        timerParts, finalisedParts, passParts, publishedParts, canopyParts] at hw

theorem step_keeps_stationsInv {s t : State} (hs : StationsInv s) (h : step s = .next t) : StationsInv t := by
  refine step_keeps stationsInv_restsOn (by simp [entryParts, outerParts, or_imp, forall_and]) reset_stationsInv
    (fun s => stationsInv_restsOn.kept s.sendStatus_frame (by simp [entryParts, or_imp, forall_and])) ?work
    (fun s high low => stationsInv_restsOn.kept (s.coldPins_frame high low)
      (by simp [entryParts, inputParts, or_imp, forall_and]))
    (fun s cause high low h => warmWork_stationsInv (s := s.clearPending) h cause high low) hs h
  intro c work s hc hs
  have apart : ∀ part ∈ entryParts, part ∉ answeredParts := by simp [entryParts, answeredParts, or_imp, forall_and]
  cases c with
  | warmRestart | supplyLoss | coldReset => cases hc
  | sampleFrame r =>
    cases hc
    exact stationsInv_restsOn.kept_by_receive (by simp [entryParts, or_imp, forall_and])
      (fun f u hu => sampleFrame_stationsInv hu f) hs
  | forwardUp r =>
    cases hc
    exact stationsInv_restsOn.kept_by_receive (by simp [entryParts, or_imp, forall_and])
      (fun f u hu => forwardUpFrame_stationsInv hu f) hs
  | stationWrite =>
    cases hc
    refine stationsInv_restsOn.kept_by_service apart (writeStation_keeps stationsInv_restsOn
      (by simp [entryParts, or_imp, forall_and]) hs fun pos new htaken => placed_stationsInv hs pos fun e he => ?_) hs
    obtain ⟨p, rfl⟩ := htaken
    exact takeStation_inRange he
  | _ =>
    exact stationsInv_restsOn.kept (workOf_frame hc s) (fun part ha hw => by simpa [workOf] using entryParts_changed ha hw) hs

/-- Settles O58: each of the four invariants is kept on its own. -/
theorem stepKeepsRanges : Obligations.StepKeepsRanges := by
  unfold Obligations.StepKeepsRanges
  intro s t ⟨htables, hcurrents, hrecords, hstations⟩ h
  exact ⟨step_keeps_tablesInv htables h, step_keeps_currentsInv hcurrents h, step_keeps_recordsInv hrecords h,
    step_keeps_stationsInv hstations h⟩

end Sys2Proof.Machine
end

section
/-! What every step keeps of sessions, pending links, the held list and receipt numbers (O56). -/

namespace Sys2Proof.Machine

/-! ### Finalisation, with room in the receipt queue and without (R14, R17) -/

/-- The session part of a session that has ended, before the bay leaves it. -/
def Session.ended (x : Session) (s : State) (reason : EndReason) (final : Option Register) : Session :=
  { x with
    finalRegister := final
    endTime := s.siteTime
    endUptime := some s.now
    endReason := some reason
    timer := none }

/-- The state in which a session has ended, and its receipt is not yet built. -/
def State.endSession (s : State) (b : BayNo) (reason : EndReason) (final : Option Register) : State :=
  s.modSession b fun x => x.ended s reason final

section
variable (s : State) (b : BayNo) (reason : EndReason) (final : Option Register)

theorem State.restState_modSession (g : Session → Session) (c : BayNo) :
    ((s.modSession b g).bay c).restState = (s.bay c).restState := by
  simp [Bay.restState]

variable {s}

theorem State.finalise_room (h : s.rq.receipts.length < receiptSlots) :
    s.finalise b reason final =
      ((s.endSession b reason final).buildReceipt b).evalHigh.modSession b fun x =>
        { x with state := (s.bay b).restState } := by
  have hroom : (s.endSession b reason final).rq.receipts.length < receiptSlots := h
  have hrest : (((s.endSession b reason final).buildReceipt b).evalHigh.bay b).restState = (s.bay b).restState := by
    rw [State.evalHigh_bay, State.buildReceipt_bay]
    exact s.restState_modSession b _ b
  rw [← hrest]
  exact if_pos hroom

/-- Whether a bay in HELD blocks its plug, by its figures (R18). -/
def Session.blocks (x : Session) : Bool := x.figures.any Figures.plugged

/-- A bay whose session has ended joins the held list, and RECEIPT_HELD is pending. -/
def State.holdEnded (s : State) (b : BayNo) : State :=
  ({ s.modSession b fun x => { x with state := .held, blocked := (s.bay b).session.blocks } with
      held := s.held ++ [b] } : State).raise .receiptHeld

/-- The state in which a bay's session has ended and the bay is HELD. -/
def State.holdBay (s : State) (b : BayNo) (reason : EndReason) (final : Option Register) : State :=
  (s.endSession b reason final).holdEnded b

theorem State.endSession_session : ((s.endSession b reason final).bay b).session = (s.bay b).session.ended s reason final := by
  simp [State.endSession]

theorem State.finalise_full (h : receiptSlots ≤ s.rq.receipts.length) :
    s.finalise b reason final =
      if (s.bay b).session.blocks && !(s.bay b).session.blocked then (s.holdBay b reason final).blockedGrant b
      else s.holdBay b reason final := by
  have hfull : ¬(s.endSession b reason final).rq.receipts.length < receiptSlots := Nat.not_lt.mpr h
  have hblocks : ((s.endSession b reason final).bay b).session.blocks = (s.bay b).session.blocks := by
    rw [State.endSession_session]; rfl
  have hwas : ((s.endSession b reason final).bay b).session.blocked = (s.bay b).session.blocked := by
    rw [State.endSession_session]; rfl
  rw [← hblocks, ← hwas]
  exact if_neg hfull

theorem State.finalise_session_room (h : s.rq.receipts.length < receiptSlots) :
    ((s.finalise b reason final).bay b).session =
      { (s.bay b).session.ended s reason final with state := (s.bay b).restState } := by
  rw [State.finalise_room b reason final h, State.modSession_session, State.evalHigh_bay, State.buildReceipt_bay,
    State.endSession_session]

theorem State.finalise_session_full (h : receiptSlots ≤ s.rq.receipts.length) :
    ((s.finalise b reason final).bay b).session =
      { (s.bay b).session.ended s reason final with state := .held, blocked := (s.bay b).session.blocks } := by
  have hheld : ((s.holdBay b reason final).bay b).session =
      { (s.bay b).session.ended s reason final with state := .held, blocked := (s.bay b).session.blocks } := by
    rw [State.holdBay, State.holdEnded, State.raise_bay, State.setHeld_bay, State.modSession_session,
      State.endSession_session]
    rfl
  rw [State.finalise_full b reason final h]
  split
  · rw [State.blockedGrant_bay]; exact hheld
  · exact hheld

theorem State.finalise_rq_room (h : s.rq.receipts.length < receiptSlots) :
    (s.finalise b reason final).rq.receipts = s.rq.receipts ++ [(s.endSession b reason final).receiptOf b] ∧
      (s.finalise b reason final).rq.next = s.rq.next + 1 := by
  rw [State.finalise_room b reason final h]
  constructor <;> simp [State.evalHigh_rq, State.buildReceipt_rq, State.endSession]

theorem State.finalise_held_room (h : s.rq.receipts.length < receiptSlots) :
    (s.finalise b reason final).held = s.held := by
  rw [State.finalise_room b reason final h]
  simp [State.endSession]

theorem State.finalise_full_held (h : receiptSlots ≤ s.rq.receipts.length) :
    (s.finalise b reason final).held = s.held ++ [b] ∧ (s.finalise b reason final).rq = s.rq := by
  rw [State.finalise_full b reason final h]
  split <;> simp [State.holdBay, State.holdEnded, State.endSession]

end

/-! ### Receipt numbers (R130) -/

theorem NumbersInv.of_receipts {s t : State} (hr : t.rq.receipts = s.rq.receipts) (hn : t.rq.next = s.rq.next)
    (h : NumbersInv s) : NumbersInv t := by
  simpa [NumbersInv, hr, hn] using h

/-- The next receipt at the tail keeps the numbers consecutive. -/
theorem NumbersInv.append {s t : State} {r : Receipt} (h : NumbersInv s) (hr : t.rq.receipts = s.rq.receipts ++ [r])
    (hnumber : r.number = s.rq.next) (hn : t.rq.next = s.rq.next + 1) : NumbersInv t := by
  unfold NumbersInv at h ⊢
  rw [hr, hn, List.map_append, h, List.length_append, List.length_singleton, List.range_succ, List.map_append]
  congr 1
  · refine List.map_congr_left fun i hi => ?_
    have hlt : i < s.rq.receipts.length := List.mem_range.mp hi
    have hone : s.rq.receipts.length + 1 - i = (s.rq.receipts.length - i) + 1 := by omega
    rw [hone, BitVec.ofNat_add]
    exact (add_sub_add_right_eq_sub _ _ _).symm
  · simp [hnumber]

/-- The oldest receipt gone, the others keep their numbers. -/
theorem NumbersInv.tail {s t : State} (h : NumbersInv s) (hr : t.rq.receipts = s.rq.receipts.tail)
    (hn : t.rq.next = s.rq.next) : NumbersInv t := by
  unfold NumbersInv at h ⊢
  rw [hr, hn, List.map_tail, h, List.length_tail]
  cases s.rq.receipts.length with
  | zero => rfl
  | succ n =>
    rw [List.range_succ_eq_map, List.map_cons, List.tail_cons, List.map_map, Nat.add_sub_cancel]
    refine List.map_congr_left fun i _ => ?_
    simp only [Function.comp_apply, Nat.succ_eq_add_one, Nat.add_sub_add_right]

/-! ### The invariant, and a change at one bay -/

/-- The four invariants of O56. -/
def SessionsInv (s : State) : Prop := SessionInv s ∧ LinksInv s ∧ HeldInv s ∧ NumbersInv s

/-- The four invariants but for what the state of one bay implies of its session part. -/
def SessionsBut (b : BayNo) (s : State) : Prop :=
  (∀ c, c ≠ b → (s.bay c).sessionFits) ∧ LinksInv s ∧ HeldInv s ∧ NumbersInv s

theorem sessionsInv_iff (b : BayNo) (s : State) : SessionsInv s ↔ SessionsBut b s ∧ (s.bay b).sessionFits := by
  constructor
  · rintro ⟨hs, hl, hh, hn⟩
    exact ⟨⟨fun c _ => hs c, hl, hh, hn⟩, hs b⟩
  · rintro ⟨⟨hs, hl, hh, hn⟩, hb⟩
    refine ⟨fun c => ?_, hl, hh, hn⟩
    by_cases hc : c = b
    · exact hc ▸ hb
    · exact hs c hc

/-- The parts on which SessionsInv rests. -/
def sessionParts : Set Part := {.links, .held, .receipts} ∪ Set.range .session ∪ Set.range .config

/-- SessionsInv rests on the sessions, the enabled fields, the bays of the links, the held list and the receipts alone. -/
theorem SessionsInv.of_same {s t : State} (hsession : ∀ b, (t.bay b).session = (s.bay b).session)
    (hconfig : ∀ b, (t.bay b).config = (s.bay b).config) (hlinks : t.links.map (·.bay) = s.links.map (·.bay))
    (hheld : t.held = s.held) (hreceipts : t.rq.receipts = s.rq.receipts) (hnext : t.rq.next = s.rq.next)
    (h : SessionsInv s) : SessionsInv t := by
  obtain ⟨hs, ⟨hnodup, hl⟩, hh, hn⟩ := h
  refine ⟨fun b => ?_, ⟨by rwa [hlinks], fun e he => ?_⟩, ?_, hn.of_receipts hreceipts hnext⟩
  · have hb := hs b
    simp only [Bay.sessionFits, hsession, hconfig] at hb ⊢
    exact hb
  · have hin : e.bay ∈ s.links.map (·.bay) := hlinks ▸ List.mem_map_of_mem he
    obtain ⟨e', he', hbay⟩ := List.mem_map.mp hin
    rw [hsession, ← hbay]
    exact hl e' he'
  · simpa only [HeldInv, hheld, hreceipts, hsession] using hh

theorem sessionsInv_restsOn : RestsOn SessionsInv sessionParts := by
  intro s t same
  have hlinks : t.links = s.links := same .links (by simp [sessionParts])
  have hreceipts : t.rq = s.rq := same .receipts (by simp [sessionParts])
  exact SessionsInv.of_same (fun b => same (.session b) (by simp [sessionParts]))
    (fun b => same (.config b) (by simp [sessionParts])) (by rw [hlinks]) (same .held (by simp [sessionParts]))
    (by rw [hreceipts]) (by rw [hreceipts])

/-- Whether a bay has neither an open nor a held session, as its pending link asks. -/
def SessionState.isFree (x : SessionState) : Prop := x = .vacant ∨ x = .disabled

section
variable {s t : State} {b : BayNo}

/-- A change at one bay that neither enters nor leaves HELD, nor opens a session. -/
theorem SessionsBut.change (h : SessionsBut b s) (others : ∀ c, c ≠ b → t.bay c = s.bay c) (hlinks : t.links = s.links)
    (hheld : t.held = s.held) (hrq : t.rq = s.rq)
    (keepsHeld : (t.bay b).session.state = .held ↔ (s.bay b).session.state = .held)
    (keepsFree : (s.bay b).session.state.isFree → (t.bay b).session.state.isFree) : SessionsBut b t := by
  obtain ⟨hfits, ⟨hnodup, hfree⟩, ⟨hnd, hmem, hlen, hfull⟩, hn⟩ := h
  refine ⟨fun c hc => by rw [others c hc]; exact hfits c hc, ⟨by rwa [hlinks], fun e he => ?_⟩,
    ⟨by rwa [hheld], fun c => ?_, by rwa [hrq], by rwa [hheld, hrq]⟩, hn.of_receipts (by rw [hrq]) (by rw [hrq])⟩
  · rw [hlinks] at he
    by_cases hc : e.bay = b
    · exact hc ▸ keepsFree (hc ▸ hfree e he)
    · rw [others _ hc]
      exact hfree e he
  · rw [hheld, hmem c]
    by_cases hc : c = b
    · subst hc; exact keepsHeld.symm
    · rw [others c hc]

/-- A change of the session part of one bay, as `SessionsBut.change`. -/
theorem SessionsBut.modSession (h : SessionsBut b s) {g : Session → Session}
    (keepsHeld : (g (s.bay b).session).state = .held ↔ (s.bay b).session.state = .held)
    (keepsFree : (s.bay b).session.state.isFree → (g (s.bay b).session).state.isFree) : SessionsBut b (s.modSession b g) :=
  h.change (fun _ hc => s.setBay_other _ hc) rfl rfl rfl (by simpa using keepsHeld) (by simpa using keepsFree)

/-- An open session leaves its bay's session whole: what finalisation needs of it. -/
def Session.started (x : Session) : Prop :=
  x.state.isOpen = true ∧ x.startUptime.isSome ∧ x.startRegister.isSome ∧ x.figures.isSome

theorem Bay.sessionFits.started {x : Bay} (h : x.sessionFits) (hopen : x.session.state.isOpen = true) : x.session.started := by
  obtain ⟨-, hstart, -⟩ := h
  obtain ⟨huptime, hregister, hfigures⟩ := hstart (.inl hopen)
  exact ⟨hopen, huptime, hregister, hfigures⟩

/-- A bay at rest fits its state, whatever its session left (R14, R19). -/
theorem sessionFits_rest {x : Bay} (hstate : x.session.state = x.restState) (htimer : x.session.timer = none) :
    x.sessionFits := by
  unfold Bay.restState at hstate
  cases he : x.config.enabled <;> simp [he] at hstate <;>
    simp [Bay.sessionFits, hstate, htimer, he, SessionState.isOpen]

theorem not_mem_links (h : SessionsBut b s) (hopen : (s.bay b).session.state.isOpen = true) : ∀ e ∈ s.links, e.bay ≠ b := by
  intro e he hb
  subst hb
  rcases h.2.1.2 e he with hv | hd
  · simp [hv, SessionState.isOpen] at hopen
  · simp [hd, SessionState.isOpen] at hopen

theorem ne_held_of_open (hopen : (s.bay b).session.state.isOpen = true) : (s.bay b).session.state ≠ .held := by
  intro e
  simp [e, SessionState.isOpen] at hopen

/-- Two states whose bays but one have the same session parts and configuration. -/
def sameBays (b : BayNo) (s t : State) : Prop :=
  ∀ c, c ≠ b → (t.bay c).session = (s.bay c).session ∧ (t.bay c).config = (s.bay c).config

theorem SessionsBut.sessionInv (h : SessionsBut b s) (others : sameBays b s t) (hb : (t.bay b).sessionFits) : SessionInv t := by
  intro c
  by_cases hc : c = b
  · rw [hc]; exact hb
  · obtain ⟨hs, hg⟩ := others c hc
    have hfits := h.1 c hc
    simp only [Bay.sessionFits, hs, hg] at hfits ⊢
    exact hfits

theorem SessionsBut.linksInv (h : SessionsBut b s) (hopen : (s.bay b).session.state.isOpen = true) (others : sameBays b s t)
    (hlinks : t.links = s.links) : LinksInv t := by
  have hlink := not_mem_links h hopen
  obtain ⟨-, ⟨hnodup, hfree⟩, -⟩ := h
  refine ⟨by rwa [hlinks], fun e he => ?_⟩
  rw [hlinks] at he
  rw [(others _ (hlink e he)).1]
  exact hfree e he

/-- An open session ends while the receipt queue has room: its receipt is built and the bay is free. -/
theorem SessionsBut.freed (h : SessionsBut b s) (hopen : (s.bay b).session.state.isOpen = true)
    (hroom : s.rq.receipts.length < receiptSlots) (others : sameBays b s t) (hlinks : t.links = s.links) (hheld : t.held = s.held)
    {r : Receipt} (hreceipts : t.rq.receipts = s.rq.receipts ++ [r]) (hnumber : r.number = s.rq.next)
    (hnext : t.rq.next = s.rq.next + 1) (hb : (t.bay b).sessionFits) (hleft : (t.bay b).session.state ≠ .held) :
    SessionsInv t := by
  have hsessions := h.sessionInv others hb
  have hlinksInv := h.linksInv hopen others hlinks
  obtain ⟨-, -, ⟨hnd, hmem, hlen, hfull⟩, hn⟩ := h
  have hempty : s.held = [] := by
    by_contra hne
    have := hfull hne
    omega
  refine ⟨hsessions, hlinksInv, ⟨by rwa [hheld], fun c => ?_, ?_, by simp [hheld, hempty]⟩, hn.append hreceipts hnumber hnext⟩
  · rw [hheld]
    by_cases hc : c = b
    · subst hc
      exact iff_of_false (by simp [hempty]) hleft
    · rw [(others c hc).1]
      exact hmem c
  · rw [hreceipts, List.length_append, List.length_singleton]
    omega

/-- An open session ends while the receipt queue is full: the bay is HELD at the tail of the held list. -/
theorem SessionsBut.heldBack (h : SessionsBut b s) (hopen : (s.bay b).session.state.isOpen = true)
    (hfull : receiptSlots ≤ s.rq.receipts.length) (others : sameBays b s t) (hlinks : t.links = s.links)
    (hheld : t.held = s.held ++ [b]) (hrq : t.rq = s.rq) (hb : (t.bay b).sessionFits)
    (hstate : (t.bay b).session.state = .held) : SessionsInv t := by
  have hsessions := h.sessionInv others hb
  have hlinksInv := h.linksInv hopen others hlinks
  obtain ⟨-, -, ⟨hnd, hmem, hlen, -⟩, hn⟩ := h
  have hnotIn : b ∉ s.held := fun hin => ne_held_of_open hopen ((hmem b).mp hin)
  refine ⟨hsessions, hlinksInv, ⟨?_, fun c => ?_, by rwa [hrq], fun _ => by rw [hrq]; omega⟩,
    hn.of_receipts (by rw [hrq]) (by rw [hrq])⟩
  · rw [hheld]
    exact List.nodup_append.mpr ⟨hnd, List.nodup_singleton b, fun x hx y hy hxy => hnotIn (by simp_all)⟩
  · rw [hheld, List.mem_append, List.mem_singleton]
    by_cases hc : c = b
    · subst hc; simp [hstate]
    · rw [(others c hc).1, ← hmem c]
      simp [hc]

/-- Finalisation of an open session: its receipt is built and its bay is free, or its bay is HELD at the tail of the held list. -/
theorem SessionsBut.finalise (h : SessionsBut b s) (hx : (s.bay b).session.started) (reason : EndReason)
    (final : Option Register) : SessionsInv (s.finalise b reason final) := by
  obtain ⟨hopen, huptime, hregister, hfigures⟩ := hx
  have frame := s.finalise_frame b reason final
  have hlinks : (s.finalise b reason final).links = s.links := frame .links (by simp [finalisedParts])
  have hconfig : ((s.finalise b reason final).bay b).config = (s.bay b).config := frame (.config b) (by simp [finalisedParts])
  have others : sameBays b s (s.finalise b reason final) := fun c hc =>
    ⟨frame (.session c) (by simp [finalisedParts, hc]), frame (.config c) (by simp [finalisedParts])⟩
  by_cases hroom : s.rq.receipts.length < receiptSlots
  · have hsession := State.finalise_session_room b reason final hroom
    obtain ⟨hreceipts, hnext⟩ := State.finalise_rq_room b reason final hroom
    have hheld := State.finalise_held_room b reason final hroom
    generalize s.finalise b reason final = t at *
    have hrest : (t.bay b).restState = (s.bay b).restState := by simp only [Bay.restState, hconfig]
    refine h.freed hopen hroom others hlinks hheld hreceipts rfl hnext
      (sessionFits_rest (by rw [hsession, hrest]) (by rw [hsession]; rfl)) ?_
    rw [hsession]
    simp only [Bay.restState]
    split <;> simp
  · have hfull : receiptSlots ≤ s.rq.receipts.length := Nat.not_lt.mp hroom
    have hsession := State.finalise_session_full b reason final hfull
    obtain ⟨hheld, hrq⟩ := State.finalise_full_held b reason final hfull
    generalize s.finalise b reason final = t at *
    refine h.heldBack hopen hfull others hlinks hheld hrq ?_ (by rw [hsession])
    simp [Bay.sessionFits, hsession, Session.ended, SessionState.isOpen, huptime, hregister, hfigures]

end
end Sys2Proof.Machine
end

section
/-! The operations of the Session Manager keep sessions, links, the held list and receipt numbers consistent (O56). -/

namespace Sys2Proof.Machine

/-! ### Opening a session (R6, R22, R25) -/

/-- The session part of a session that opens. -/
def State.opened (s : State) (b : BayNo) (f : Figures) : Session where
  state := f.openState
  id := (s.bay b).session.id + 1
  startTime := s.siteTime
  startUptime := some s.now
  startRegister := some f.register
  finalRegister := none
  endTime := none
  endUptime := none
  endReason := none
  timer := some s.newTimer
  link := (s.links.find? fun e => e.bay == b).map fun e => enterLink e.token e.allowance
  restarted := false
  blocked := false
  figures := (s.bay b).session.figures

section
variable {s t : State} {b : BayNo} {f : Figures}

theorem State.openSession_session (s : State) (b : BayNo) (f : Figures) :
    ((s.openSession b f).bay b).session = s.opened b f := congrArg Bay.session (State.setBay_bay s b _)

theorem Figures.openState_cases (f : Figures) :
    (f.state = .requesting ∧ 0 < f.requested ∧ f.openState = .active) ∨ f.openState = .connected := by
  unfold Figures.openState
  split
  · next h => exact .inl ⟨h.1, h.2, rfl⟩
  · exact .inr rfl

theorem opened_fits {x : Bay} (hx : x.session = s.opened b f) (he : x.config.enabled = true)
    (hf : (s.bay b).session.figures = some f) : x.sessionFits := by
  rcases f.openState_cases with ⟨hreq, hpos, ho⟩ | ho <;>
    simp [Bay.sessionFits, hx, State.opened, ho, SessionState.isOpen, hf, he]
  exact ⟨hreq, hpos⟩

/-- Fewer links, none of them for a bay that has just opened its session. -/
theorem LinksInv.fewer (h : LinksInv s) (others : sameBays b s t) (hlinks : t.links.Sublist s.links)
    (hb : ∀ e ∈ t.links, e.bay ≠ b) : LinksInv t := by
  obtain ⟨hnodup, hfree⟩ := h
  refine ⟨hnodup.sublist (hlinks.map _), fun e he => ?_⟩
  rw [(others _ (hb e he)).1]
  exact hfree e (hlinks.subset he)

theorem State.openSession_links (s : State) (b : BayNo) (f : Figures) :
    (s.openSession b f).links = s.links.filter fun e => e.bay != b := rfl

theorem openSession_sameBays (s : State) (b : BayNo) (f : Figures) : sameBays b s (s.openSession b f) := fun c hc =>
  ⟨s.openSession_frame b f (.session c) (by simp [hc]), s.openSession_frame b f (.config c) (by simp)⟩

/-- A session that opens at a vacant bay takes the bay's link with it. -/
theorem SessionsBut.openSession (h : SessionsBut b s) (hvacant : (s.bay b).session.state = .vacant)
    (he : (s.bay b).config.enabled = true) (hf : (s.bay b).session.figures = some f) : SessionsInv (s.openSession b f) := by
  have others := openSession_sameBays s b f
  have hsession := s.openSession_session b f
  have hconfig : ((s.openSession b f).bay b).config = (s.bay b).config := s.openSession_frame b f (.config b) (by simp)
  have hlinks := s.openSession_links b f
  have hheld : (s.openSession b f).held = s.held := rfl
  have hrq : (s.openSession b f).rq = s.rq := rfl
  generalize s.openSession b f = t at *
  have hsessions := h.sessionInv others (opened_fits hsession (by rwa [hconfig]) hf)
  obtain ⟨-, hlinksInv, ⟨hnd, hmem, hlen, hfull⟩, hn⟩ := h
  refine ⟨hsessions, hlinksInv.fewer others ?_ ?_, ⟨by rwa [hheld], fun c => ?_, by rwa [hrq], by rwa [hheld, hrq]⟩,
    hn.of_receipts (by rw [hrq]) (by rw [hrq])⟩
  · rw [hlinks]; exact List.filter_sublist
  · rw [hlinks]; simp
  · rw [hheld, hmem c]
    by_cases hc : c = b
    · subst hc
      rcases f.openState_cases with ⟨-, -, ho⟩ | ho <;> simp [hsession, State.opened, ho, hvacant]
    · rw [(others c hc).1]

/-! ### A DEMAND (R4, R5, R7, R8, R9, R18) -/

/-- A state that is neither open nor free of links, nor HELD, takes any other such state. -/
theorem SessionsBut.stays_open (h : SessionsBut b s) {g : Session → Session}
    (hopen : (s.bay b).session.state.isOpen = true) (hg : (g (s.bay b).session).state.isOpen = true) :
    SessionsBut b (s.modSession b g) := by
  refine h.modSession (iff_of_false ?_ (ne_held_of_open hopen)) fun hfree => ?_
  · intro e
    simp [e, SessionState.isOpen] at hg
  · rcases hfree with e | e <;> simp [e, SessionState.isOpen] at hopen

/-- A session part that has changed within its bay, in a bay that then fits it. -/
theorem SessionsBut.settled (h : SessionsBut b t) (hb : (t.bay b).sessionFits) : SessionsInv t :=
  (sessionsInv_iff b t).mpr ⟨h, hb⟩

theorem SessionsBut.close (h : SessionsBut b s) (hx : (s.bay b).session.started) (reason : EndReason) :
    SessionsInv (s.close b reason) := by
  obtain ⟨hopen, huptime, hregister, hfigures⟩ := hx
  refine (h.stays_open hopen rfl).settled ?_
  simp [Bay.sessionFits, SessionState.isOpen, huptime, hregister, hfigures]

theorem SessionsBut.demandRunning (h : SessionsBut b s) (hx : (s.bay b).session.started)
    (hf : (s.bay b).session.figures = some f) (he : (s.bay b).config.enabled = true) : SessionsInv (s.demandRunning b f) := by
  have hreport : SessionsInv (s.modSession b fun x => { x with state := f.openState, timer := some s.newTimer }) := by
    have ⟨hopen, huptime, hregister, hfigures⟩ := hx
    rcases f.openState_cases with ⟨hreq, hpos, ho⟩ | ho
    · refine (h.stays_open hopen (by simp [ho, SessionState.isOpen])).settled ?_
      simp [Bay.sessionFits, ho, SessionState.isOpen, huptime, hregister, hf, he, hreq, hpos]
    · refine (h.stays_open hopen (by simp [ho, SessionState.isOpen])).settled ?_
      simp [Bay.sessionFits, ho, SessionState.isOpen, huptime, hregister, hfigures, he]
  unfold State.demandRunning
  cases f.state with
  | connected | requesting => exact hreport
  | ending => exact h.close hx _
  | ended | available | fault => exact h.finalise hx _ _

theorem SessionsBut.demandClosing (h : SessionsBut b s) (hx : (s.bay b).session.started) (hb : (s.bay b).sessionFits) :
    SessionsInv (s.demandClosing b f) := by
  unfold State.demandClosing
  cases f.state with
  | connected | requesting | ending => exact h.settled hb
  | ended | available | fault => exact h.finalise hx _ _

theorem blockedGrant_sessionsInv (h : SessionsInv s) (c : BayNo) : SessionsInv (s.blockedGrant c) :=
  sessionsInv_restsOn.kept (s.blockedGrant_frame c) (by simp [sessionParts, or_imp, forall_and]) h

theorem SessionsBut.demandHeld (h : SessionsBut b s) (hb : (s.bay b).sessionFits) : SessionsInv (s.demandHeld b f) := by
  have hflag : SessionsInv (s.modSession b fun x => { x with blocked := f.plugged }) := by
    refine (h.modSession (g := fun x => { x with blocked := f.plugged }) Iff.rfl id).settled ?_
    simpa [Bay.sessionFits] using hb
  unfold State.demandHeld
  dsimp only
  split
  · exact blockedGrant_sessionsInv hflag b
  · exact hflag

/-- Figures alone change what a bay's state implies of its session only while it is ACTIVE. -/
theorem sessionFits_figures {x y : Bay} (h : x.sessionFits) (hs : y.session = { x.session with figures := some f })
    (hc : y.config = x.config) (hactive : x.session.state ≠ .active) : y.sessionFits := by
  obtain ⟨htimer, hstart, hend, hheld, -, hoff, hon⟩ := h
  refine ⟨by simpa [hs] using htimer, fun ho => ?_, by simpa [hs] using hend, by simpa [hs] using hheld,
    fun ha => absurd (by simpa [hs] using ha) hactive, by simpa [hs, hc] using hoff, by simpa [hs, hc] using hon⟩
  obtain ⟨huptime, hregister, -⟩ := hstart (by simpa [hs] using ho)
  simp [hs, huptime, hregister]

theorem demand_sessionsInv (h : SessionsInv s) (b : BayNo) (f : Figures) : SessionsInv (s.demand b f) := by
  obtain ⟨hbut, hfits⟩ := (sessionsInv_iff b s).mp h
  have hu : SessionsBut b (s.modSession b fun x => { x with figures := some f }) := hbut.modSession Iff.rfl id
  have hsession : ((s.modSession b fun x => { x with figures := some f }).bay b).session =
      { (s.bay b).session with figures := some f } := s.modSession_session b _
  have hconfig : ((s.modSession b fun x => { x with figures := some f }).bay b).config = (s.bay b).config := by simp
  unfold State.demand
  dsimp only
  generalize (s.modSession b fun x => { x with figures := some f }) = u at hu hsession hconfig ⊢
  have hstate : (u.bay b).session.state = (s.bay b).session.state := by rw [hsession]
  have hfigures : (u.bay b).session.figures = some f := by rw [hsession]
  have hstarted (hopen : (s.bay b).session.state.isOpen = true) : (u.bay b).session.started := by
    obtain ⟨-, huptime, hregister, -⟩ := hfits.started hopen
    exact ⟨by rwa [hstate], by rwa [hsession], by rwa [hsession], by rw [hfigures]; rfl⟩
  have hkept (hactive : (s.bay b).session.state ≠ .active) : (u.bay b).sessionFits :=
    sessionFits_figures hfits hsession hconfig hactive
  have henabled := hfits.2.2.2.2.2.2
  rw [hstate]
  cases hs : (s.bay b).session.state with
  | vacant =>
    dsimp only
    split
    · exact hu.openSession (hstate.trans hs) (by rw [hconfig]; exact henabled (.inl hs)) hfigures
    · exact hu.settled (hkept (by simp [hs]))
  | disabled => exact hu.settled (hkept (by simp [hs]))
  | connected | active | silent =>
    exact hu.demandRunning (hstarted (by simp [hs, SessionState.isOpen])) hfigures (by rw [hconfig]; exact henabled (by simp [hs]))
  | closing => exact hu.demandClosing (hstarted (by simp [hs, SessionState.isOpen])) (hkept (by simp [hs]))
  | held => exact hu.demandHeld (hkept (by simp [hs]))

theorem demandFrame_sessionsInv (h : SessionsInv s) (f : Frame) : SessionsInv (State.demandFrame f s) := by
  refine sessionsInv_restsOn.kept (State.forward_frame _ .up f) (by simp [sessionParts, or_imp, forall_and]) ?_
  split
  · split
    · exact demand_sessionsInv h _ _
    · exact h
  · exact h

/-! ### Expiries, force-close and the enabled field (R11 to R13, R15, R16) -/

theorem silenceExpiry_sessionsInv (h : SessionsInv s) (b : BayNo) : SessionsInv (s.silenceExpiry b) := by
  obtain ⟨hbut, hfits⟩ := (sessionsInv_iff b s).mp h
  have hsilent (hs : (s.bay b).session.state = .connected ∨ (s.bay b).session.state = .active) : SessionsInv (s.goSilent b) := by
    have hopen : (s.bay b).session.state.isOpen = true := by rcases hs with hs | hs <;> simp [hs, SessionState.isOpen]
    obtain ⟨-, huptime, hregister, hfigures⟩ := hfits.started hopen
    have henabled := hfits.2.2.2.2.2.2 (.inr (hs.imp_right .inl))
    refine sessionsInv_restsOn.kept (State.raise_frame _ _) (by simp [sessionParts, or_imp, forall_and]) ?_
    refine (hbut.stays_open hopen rfl).settled ?_
    simp [Bay.sessionFits, SessionState.isOpen, huptime, hregister, hfigures, henabled]
  unfold State.silenceExpiry
  cases hs : (s.bay b).session.state with
  | connected =>
    dsimp only
    split
    · exact hsilent (.inl hs)
    · exact h
  | active =>
    dsimp only
    split
    · exact hsilent (.inr hs)
    · exact h
  | vacant | silent | closing | held | disabled => exact h

theorem silentCloseExpiry_sessionsInv (h : SessionsInv s) (b : BayNo) : SessionsInv (s.silentCloseExpiry b) := by
  obtain ⟨hbut, hfits⟩ := (sessionsInv_iff b s).mp h
  unfold State.silentCloseExpiry
  cases hs : (s.bay b).session.state with
  | silent =>
    dsimp only
    split
    · exact hbut.finalise (hfits.started (by simp [hs, SessionState.isOpen])) _ _
    · exact h
  | vacant | connected | active | closing | held | disabled => exact h

theorem closeHoldExpiry_sessionsInv (h : SessionsInv s) (b : BayNo) : SessionsInv (s.closeHoldExpiry b) := by
  obtain ⟨hbut, hfits⟩ := (sessionsInv_iff b s).mp h
  unfold State.closeHoldExpiry
  cases hs : (s.bay b).session.state with
  | closing =>
    dsimp only
    split
    · exact hbut.finalise (hfits.started (by simp [hs, SessionState.isOpen])) _ _
    · exact h
  | vacant | connected | active | silent | held | disabled => exact h

theorem forceClose_sessionsInv (h : SessionsInv s) (bay : Nat) : SessionsInv (s.forceClose bay).1 := by
  unfold State.forceClose
  split
  next hbay =>
    obtain ⟨hbut, hfits⟩ := (sessionsInv_iff ⟨bay, hbay⟩ s).mp h
    dsimp only
    cases hs : (s.bay ⟨bay, hbay⟩).session.state with
    | connected | active | silent => exact hbut.close (hfits.started (by simp [hs, SessionState.isOpen])) _
    | vacant | closing | held | disabled => exact h
  next => exact h

theorem takeBayConfig_sessionsInv (h : SessionsInv s) (b : BayNo) (c : BayConfig) : SessionsInv (s.takeBayConfig b c) := by
  obtain ⟨hbut, hfits⟩ := (sessionsInv_iff b s).mp h
  have hu : SessionsBut b (s.setBay b { s.bay b with config := c }) :=
    hbut.change (fun _ hc => s.setBay_other _ hc) rfl rfl rfl (by simp) (by simp)
  have hsession : ((s.setBay b { s.bay b with config := c }).bay b).session = (s.bay b).session := by simp
  have hconfig : ((s.setBay b { s.bay b with config := c }).bay b).config = c := by simp
  unfold State.takeBayConfig
  dsimp only
  generalize s.setBay b { s.bay b with config := c } = u at hu hsession hconfig ⊢
  split
  · next hsame =>
    refine hu.settled ?_
    simp only [Bay.sessionFits, hsession, hconfig, ← hsame]
    exact hfits
  · next hchanged =>
    have hstarted (hopen : (s.bay b).session.state.isOpen = true) : (u.bay b).session.started := by
      rw [hsession]; exact hfits.started hopen
    obtain ⟨htimer, hstart, hend, hheld, hactive, hoff, hon⟩ := hfits
    have hstays (hs : (s.bay b).session.state = .closing ∨ (s.bay b).session.state = .held) : SessionsInv u := by
      refine hu.settled ?_
      simp only [Bay.sessionFits, hsession, hconfig]
      refine ⟨htimer, hstart, hend, hheld, hactive, ?_, ?_⟩ <;> rcases hs with hs | hs <;> simp [hs]
    unfold State.changeEnabled
    rw [hsession]
    cases hs : (s.bay b).session.state with
    | vacant =>
      have hwas := hon (.inl hs)
      have hnow : c.enabled = false := by simpa [hwas] using hchanged
      rw [hnow]
      refine (hu.modSession (g := fun x => { x with state := .disabled }) ?_ fun _ => .inr rfl).settled ?_
      · simp [hsession, hs]
      · simp [Bay.sessionFits, SessionState.isOpen, hsession, hconfig, hnow]
        simpa [hs, SessionState.isOpen] using htimer
    | disabled =>
      have hwas := hoff hs
      have hnow : c.enabled = true := by simpa [hwas] using hchanged
      rw [hnow]
      refine (hu.modSession (g := fun x => { x with state := .vacant }) ?_ fun _ => .inl rfl).settled ?_
      · simp [hsession, hs]
      · simp [Bay.sessionFits, SessionState.isOpen, hsession, hconfig, hnow]
        simpa [hs, SessionState.isOpen] using htimer
    | connected | active | silent =>
      have hwas := hon (by simp [hs])
      have hnow : c.enabled = false := by simpa [hwas] using hchanged
      rw [hnow]
      exact hu.close (hstarted (by simp [hs, SessionState.isOpen])) _
    | closing | held => exact hstays (by simp [hs])

/-! ### Links (R21, R23) -/

theorem takeLink_sessionsInv (h : SessionsInv s) (bay : Nat) (token : BitVec 64) (allowance : Nat) :
    SessionsInv (s.takeLink bay token allowance).1 := by
  have hentered (b : BayNo) (l : Option SessionLink) : SessionsInv (s.modSession b fun x => { x with link := l }) := by
    obtain ⟨hbut, hfits⟩ := (sessionsInv_iff b s).mp h
    refine (hbut.modSession (g := fun x => { x with link := l }) Iff.rfl id).settled ?_
    simpa [Bay.sessionFits] using hfits
  have hstored (b : BayNo) (hfree : (s.bay b).session.state = .vacant ∨ (s.bay b).session.state = .disabled) :
      SessionsInv (s.storeLink b token allowance).1 := by
    by_cases hroom : s.linkRoom b
    · rw [s.storeLink_stored b token allowance hroom]
      obtain ⟨hs, ⟨hnodup, hl⟩, hh, hn⟩ := h
      refine ⟨hs, ⟨?_, fun e he => ?_⟩, hh, hn⟩
      · simp only [List.map_append, List.map_cons, List.map_nil]
        refine List.nodup_append.mpr ⟨hnodup.sublist (List.filter_sublist.map _), List.nodup_singleton b, fun x hx y hy hxy => ?_⟩
        simp only [List.mem_map, List.mem_filter, List.mem_singleton] at hx hy
        obtain ⟨e, ⟨-, hne⟩, rfl⟩ := hx
        exact absurd (hxy.trans hy) (by simpa using hne)
      · rcases List.mem_append.mp he with he | he
        · exact hl e (List.mem_filter.mp he).1
        · rw [List.mem_singleton] at he
          subst he
          exact hfree
    · rw [s.storeLink_tableFull b token allowance hroom]
      exact h
  unfold State.takeLink
  split
  next hbay =>
    dsimp only
    cases hs : (s.bay ⟨bay, hbay⟩).session.state with
    | connected | active | silent =>
      dsimp only
      split
      · exact h
      · exact hentered _ _
    | closing | held => exact h
    | vacant => exact hstored _ (.inl hs)
    | disabled => exact hstored _ (.inr hs)
  next => exact h

theorem expireLink_sessionsInv (h : SessionsInv s) (b : BayNo) : SessionsInv (s.expireLink b) := by
  obtain ⟨hs, ⟨hnodup, hl⟩, hh, hn⟩ := h
  exact ⟨hs, ⟨hnodup.sublist (List.filter_sublist.map _), fun e he => hl e (List.mem_filter.mp he).1⟩, hh, hn⟩

/-! ### The held list and the receipt queue (R19, R139, R140) -/

/-- The oldest receipt is gone from the queue. -/
def State.droppedOldest (s : State) : State := { s with rq.receipts := s.rq.receipts.tail }

theorem State.releaseOldest_free (h : s.held = []) : s.releaseOldest = s.droppedOldest.evalHigh := by
  unfold State.releaseOldest
  dsimp only
  rw [h]
  exact congrArg State.evalHigh (by rw [← h]; rfl)

theorem State.releaseOldest_held {rest : List BayNo} (h : s.held = b :: rest) :
    s.releaseOldest = (s.droppedOldest.handOver b rest).evalHigh := by
  unfold State.releaseOldest
  dsimp only
  rw [h]
  exact congrArg (fun t => (State.handOver t b rest).evalHigh) (by rw [← h]; rfl)

theorem State.handOver_cases (s : State) (b : BayNo) (rest : List BayNo) :
    let u := ({ s with held := rest } : State).buildReceipt b
    (∃ f, (s.bay b).session.figures = some f ∧ (s.bay b).config.enabled = true ∧ (s.bay b).session.blocked = true ∧
        s.handOver b rest = u.openSession b f) ∨
      ((∀ f, (s.bay b).session.figures = some f → ¬((s.bay b).config.enabled = true ∧ (s.bay b).session.blocked = true)) ∧
        s.handOver b rest = u.modSession b fun y => { y with state := (s.bay b).restState, blocked := false }) := by
  intro u
  have hbay : u.bay b = s.bay b := by simp [u]
  cases hf : (s.bay b).session.figures with
  | none => exact .inr ⟨by simp, by simp only [State.handOver]; simp [hf, u]⟩
  | some f =>
    by_cases hblock : (s.bay b).config.enabled = true ∧ (s.bay b).session.blocked = true
    · exact .inl ⟨f, rfl, hblock.1, hblock.2, by simp only [State.handOver]; simp [hf, hblock, u]⟩
    · refine .inr ⟨fun _ _ => hblock, ?_⟩
      have hfalse : ((s.bay b).config.enabled && (s.bay b).session.blocked) = false := by simpa using hblock
      simp only [State.handOver]
      simp [hf, hfalse, u]

/-- The slot of a released receipt goes to the head of the held list: its receipt is the newest, and its bay leaves HELD. -/
theorem SessionsInv.slotPassed (h : SessionsInv s) {rest : List BayNo} (hhead : s.held = b :: rest)
    (others : sameBays b s t) (hlinks : t.links.Sublist s.links) (hheld : t.held = rest) {r : Receipt}
    (hreceipts : t.rq.receipts = s.rq.receipts.tail ++ [r]) (hnumber : r.number = s.rq.next)
    (hnext : t.rq.next = s.rq.next + 1) (hb : (t.bay b).sessionFits) (hleft : (t.bay b).session.state ≠ .held) :
    SessionsInv t := by
  obtain ⟨hbut, hfits⟩ := (sessionsInv_iff b s).mp h
  have hsessions := hbut.sessionInv others hb
  obtain ⟨-, hlinksInv, ⟨hnd, hmem, hlen, hfull⟩, hn⟩ := hbut
  have hcount := hfull (by simp [hhead])
  have hstate : (s.bay b).session.state = .held := (hmem b).mp (by simp [hhead])
  have hnotIn : b ∉ rest := by
    rw [hhead] at hnd
    exact (List.nodup_cons.mp hnd).1
  have hlength : t.rq.receipts.length = receiptSlots := by
    rw [hreceipts, List.length_append, List.length_tail, hcount]
    rfl
  refine ⟨hsessions, hlinksInv.fewer others hlinks fun e he heb => ?_, ⟨?_, fun c => ?_, by omega, fun _ => hlength⟩, ?_⟩
  · rcases hlinksInv.2 e (hlinks.subset he) with hv | hd
    · rw [heb, hstate] at hv; cases hv
    · rw [heb, hstate] at hd; cases hd
  · rw [hheld]
    rw [hhead] at hnd
    exact (List.nodup_cons.mp hnd).2
  · rw [hheld]
    by_cases hc : c = b
    · subst hc
      exact iff_of_false hnotIn hleft
    · rw [(others c hc).1, ← hmem c, hhead]
      simp [hc]
  · have htail : NumbersInv ({ s with rq.receipts := s.rq.receipts.tail } : State) := hn.tail rfl rfl
    exact htail.append hreceipts hnumber hnext

theorem evalHigh_sessionsInv (h : SessionsInv s) : SessionsInv s.evalHigh :=
  SessionsInv.of_same (fun b => by rw [State.evalHigh_bay]) (fun b => by rw [State.evalHigh_bay]) (by simp) (by simp)
    (by simp [State.evalHigh_rq]) (by simp [State.evalHigh_rq]) h

theorem releaseOldest_sessionsInv (h : SessionsInv s) : SessionsInv s.releaseOldest := by
  cases hheld : s.held with
  | nil =>
    obtain ⟨hs, hl, ⟨hnd, hmem, hlen, hfull⟩, hn⟩ := h
    rw [State.releaseOldest_free hheld]
    exact evalHigh_sessionsInv ⟨hs, hl, ⟨hnd, hmem, (List.length_tail ▸ Nat.sub_le _ _).trans hlen, fun hne => absurd hheld hne⟩,
      hn.tail rfl rfl⟩
  | cons b rest =>
    rw [State.releaseOldest_held hheld]
    refine evalHigh_sessionsInv ?_
    have hfits := h.1 b
    have hb : (s.bay b).session.state = .held := (h.2.2.1.2.1 b).mp (by simp [hheld])
    have htimer : (s.bay b).session.timer = none := by
      have htimer := hfits.1
      rw [hb] at htimer
      exact Option.isNone_iff_eq_none.mp (by simpa [SessionState.isOpen] using htimer)
    generalize hs' : s.droppedOldest = s'
    have hbays (c : BayNo) : s'.bay c = s.bay c := by rw [← hs']; rfl
    have hbuilt (c : BayNo) : (({ s' with held := rest } : State).buildReceipt b).bay c = s.bay c := by
      rw [State.buildReceipt_bay, State.setHeld_bay, hbays]
    have hrq : (({ s' with held := rest } : State).buildReceipt b).rq.receipts =
          s.rq.receipts.tail ++ [({ s' with held := rest } : State).receiptOf b] ∧
        (({ s' with held := rest } : State).buildReceipt b).rq.next = s.rq.next + 1 := by
      rw [State.buildReceipt_rq, ← hs']
      exact ⟨rfl, rfl⟩
    have hnumber : (({ s' with held := rest } : State).receiptOf b).number = s.rq.next := by rw [← hs']; rfl
    have hlinks : (({ s' with held := rest } : State).buildReceipt b).links = s.links := by
      rw [State.buildReceipt_links, ← hs']
      rfl
    have hrest : (({ s' with held := rest } : State).buildReceipt b).held = rest := by rw [State.buildReceipt_held]
    rcases s'.handOver_cases b rest with ⟨f, hf, he, -, e⟩ | ⟨-, e⟩
    all_goals
      rw [e]
      generalize ({ s' with held := rest } : State).buildReceipt b = u at hbuilt hrq hlinks hrest ⊢
    · have hopened := openSession_sameBays u b f
      refine h.slotPassed (b := b) (rest := rest) hheld (fun c hc => ?_) ?_ hrest hrq.1 hnumber hrq.2 ?_ ?_
      · rw [(hopened c hc).1, (hopened c hc).2, hbuilt]
        exact ⟨rfl, rfl⟩
      · rw [u.openSession_links, hlinks]
        exact List.filter_sublist
      · refine opened_fits (u.openSession_session b f) ?_ (by rw [hbuilt, ← hbays]; exact hf)
        have hconfig : ((u.openSession b f).bay b).config = (u.bay b).config := u.openSession_frame b f (.config b) (by simp)
        rw [hconfig, hbuilt, ← hbays]
        exact he
      · rw [u.openSession_session]
        rcases f.openState_cases with ⟨-, -, ho⟩ | ho <;> simp [State.opened, ho]
    · refine h.slotPassed (b := b) (rest := rest) hheld (fun c hc => ?_) (by rw [State.modSession_links, hlinks]) hrest
        hrq.1 hnumber hrq.2 ?_ ?_
      · rw [State.modSession, State.setBay_other _ _ hc, hbuilt]
        exact ⟨rfl, rfl⟩
      · refine sessionFits_rest ?_ ?_
        · rw [State.modSession_session, State.restState_modSession, hbuilt, hbays]
        · rw [State.modSession_session, hbuilt]
          exact htimer
      · rw [State.modSession_session]
        simp only [Bay.restState]
        split <;> simp

theorem release_sessionsInv (h : SessionsInv s) (number : BitVec 32) : SessionsInv (s.release number).1 := by
  unfold State.release
  split
  · exact h
  · split
    · exact releaseOldest_sessionsInv h
    · split <;> exact h

/-! ### The second of uptime and restarts -/

/-- A tick changes only the link of a session part (R121). -/
theorem meterWith_session (x : Bay) (ref : BandRef) (band : Band) (share : TickShare) :
    (∃ l, (x.meterWith ref band share).session = { x.session with link := l }) ∧
      (x.meterWith ref band share).config = x.config := ⟨⟨_, rfl⟩, rfl⟩

theorem tick_bay_session (b : BayNo) : (s.tick.bay b).session.state = (s.bay b).session.state ∧
    ((s.bay b).sessionFits → (s.tick.bay b).sessionFits) := by
  rw [s.tick_bay b]
  split
  · obtain ⟨⟨l, hs⟩, hc⟩ := meterWith_session (s.bay b) s.bandRef s.bandInForce (s.tickShare b)
    generalize (s.bay b).meterWith s.bandRef s.bandInForce (s.tickShare b) = y at hs hc ⊢
    exact ⟨by rw [hs], fun h => by simpa [Bay.sessionFits, hs, hc] using h⟩
  · exact ⟨rfl, id⟩

/-- What keeps every bay's state and fit, and the bays of the links, keeps the whole. -/
theorem SessionsInv.of_fits (h : SessionsInv s) (hstate : ∀ b, (t.bay b).session.state = (s.bay b).session.state)
    (hfits : ∀ b, (s.bay b).sessionFits → (t.bay b).sessionFits) (hlinks : t.links.map (·.bay) = s.links.map (·.bay))
    (hheld : t.held = s.held) (hrq : t.rq = s.rq) : SessionsInv t := by
  obtain ⟨hs, ⟨hnodup, hl⟩, hh, hn⟩ := h
  refine ⟨fun b => hfits b (hs b), ⟨by rwa [hlinks], fun e he => ?_⟩, ?_, hn.of_receipts (by rw [hrq]) (by rw [hrq])⟩
  · have hin : e.bay ∈ s.links.map (·.bay) := hlinks ▸ List.mem_map_of_mem he
    obtain ⟨e', he', hbay⟩ := List.mem_map.mp hin
    rw [hstate, ← hbay]
    exact hl e' he'
  · simpa only [HeldInv, hheld, hrq, hstate] using hh

theorem State.advanced_held (s : State) : s.advanced.held = s.held := by
  simp only [State.advanced, State.countTimers, State.mapBays]

theorem State.advanced_rq (s : State) : s.advanced.rq = s.rq := by
  simp only [State.advanced, State.countTimers, State.mapBays]

theorem State.advanced_links (s : State) : s.advanced.links =
    s.links.map fun e => { e with due := decide (s.mr.site.linkLifetime ≤ elapsed (s.mu.uptime + 1) e.stored) } := by
  simp only [State.advanced, State.countTimers, State.mapBays, State.now]
  rfl

theorem second_sessionsInv (h : SessionsInv s) : SessionsInv s.second := by
  have hadvanced : SessionsInv s.advanced := by
    refine h.of_fits (fun b => by rw [s.advanced_bay]; rfl) (fun b hb => ?_) ?_ s.advanced_held s.advanced_rq
    · rw [s.advanced_bay]
      simpa [Bay.sessionFits, Bay.timed] using hb
    · rw [s.advanced_links, List.map_map]
      rfl
  have frame := s.advanced.tick_frame
  have hlinks : s.advanced.tick.links = s.advanced.links := frame .links (by simp)
  rw [s.second_eq]
  exact hadvanced.of_fits (fun b => (tick_bay_session b).1) (fun b => (tick_bay_session b).2) (by rw [hlinks])
    (frame .held (by simp)) (frame .receipts (by simp))

theorem warmWork_sessionsInv (h : SessionsInv s) (cause : RestartCause) (high low : Bool) :
    SessionsInv (State.warmWork cause high low s) := by
  have hsessions (t : State) (ht : SessionsInv t) : SessionsInv t.restartSessions := by
    have hbay (b : BayNo) : t.restartSessions.bay b = if (t.bay b).session.state.isOpen then
        { t.bay b with session := { (t.bay b).session with restarted := true, timer := some t.newTimer } } else t.bay b :=
      t.mapBays_bay _ b
    have frame := t.restartSessions_frame
    have hlinks : t.restartSessions.links = t.links := frame .links (by simp)
    refine ht.of_fits (fun b => ?_) (fun b hb => ?_) (by rw [hlinks]) (frame .held (by simp)) (frame .receipts (by simp))
    · rw [hbay]; split <;> rfl
    · rw [hbay]
      split
      · next hopen => simpa [Bay.sessionFits, hopen] using hb.2
      · exact hb
  have hreceipts (t : State) (ht : SessionsInv t) : SessionsInv t.restartReceipts := by
    have hcleared : SessionsInv { t with rq.high := false } := ht
    exact evalHigh_sessionsInv hcleared
  refine hreceipts _ ?_
  refine sessionsInv_restsOn.kept (State.restartCanopy_frame _) (by simp [sessionParts, or_imp, forall_and]) ?_
  refine sessionsInv_restsOn.kept (State.restartBattery_frame _) (by simp [sessionParts, or_imp, forall_and]) ?_
  refine sessionsInv_restsOn.kept (State.restartAlloc_frame _) (by simp [sessionParts, passParts, or_imp, forall_and]) ?_
  refine sessionsInv_restsOn.kept (State.restartSiu_frame _ _ _) (by simp [sessionParts, or_imp, forall_and]) ?_
  refine hsessions _ ?_
  refine sessionsInv_restsOn.kept (State.restartLine_frame _) (by simp [sessionParts, lineParts, or_imp, forall_and]) ?_
  exact sessionsInv_restsOn.kept (State.restartManage_frame _ _) (by simp [sessionParts, or_imp, forall_and]) h

theorem takeSiteRecord_sessionsInv (h : SessionsInv s) (record : List Byte) :
    SessionsInv (State.takeSiteRecord record s).1 := by
  have hsite (site : SiteTable) : SessionsInv { s with mr.site := site } := h
  have hsenses (t : State) (a b : Sense) (ht : SessionsInv t) : SessionsInv (t.sensesChanged a b) :=
    sessionsInv_restsOn.kept (t.sensesChanged_frame a b) (by simp [sessionParts, inputParts, or_imp, forall_and]) ht
  have hhold (t : State) (c : Prop) [Decidable c] (ht : SessionsInv t) : SessionsInv (if c then t else t.holdChanged) := by
    split
    · exact ht
    · exact sessionsInv_restsOn.kept t.holdChanged_frame (by simp [sessionParts, staleParts, or_imp, forall_and]) ht
  have hhigh (t : State) (c : Prop) [Decidable c] (ht : SessionsInv t) : SessionsInv (if c then t else t.evalHigh) := by
    split
    · exact ht
    · exact evalHigh_sessionsInv ht
  exact hhigh _ _ (hhold _ _ (hsenses _ _ _ (hsite _)))

end

/-! ### Every step -/

/-- The commands that may change a part of SessionsInv, restarts and resets apart. -/
theorem sessionParts_changed {c : Instr} {part : Part} (ha : part ∈ sessionParts) (hw : part ∈ workParts c) :
    workOf c = none ∨ (∃ r, c = .demandFrame r) ∨ (∃ r, c = .linkFrame r) ∨ c = .siteWrite ∨ c = .bayWrite ∨
      c = .forceClose ∨ c = .releaseReceipt ∨ c = .meteringTick ∨ (∃ b, c = .silenceExpiry b) ∨
      (∃ b, c = .silentCloseExpiry b) ∨ (∃ b, c = .closeHoldExpiry b) ∨ ∃ b, c = .pendingLinkExpiry b := by
  have hpart : part = .links ∨ part = .held ∨ part = .receipts ∨ (∃ b, part = .session b) ∨ ∃ b, part = .config b := by
    simpa [sessionParts, or_assoc, eq_comm] using ha
  cases c with
  | warmRestart | supplyLoss | coldReset => exact .inl rfl
  | demandFrame | linkFrame | siteWrite | bayWrite | forceClose | releaseReceipt | meteringTick | silenceExpiry
  | silentCloseExpiry | closeHoldExpiry | pendingLinkExpiry => simp
  | _ =>
    rcases hpart with rfl | rfl | rfl | ⟨b, rfl⟩ | ⟨b, rfl⟩ <;>
      simp [workParts, writtenParts, answeredParts, counterParts, passParts, publishedParts, canopyParts] at hw

/-- Settles O56: a session part leaves its fit only together with its state, a link goes with the session that opens, and a held
bay leaves the list with the receipt that takes the freed slot. -/
theorem stepKeepsSessions : Obligations.StepKeepsSessions := by
  unfold Obligations.StepKeepsSessions
  intro s t hs h
  refine step_keeps (P := SessionsInv) sessionsInv_restsOn (by simp [sessionParts, outerParts, or_imp, forall_and])
    ⟨reset_sessionInv, reset_linksInv, reset_heldInv, reset_numbersInv⟩
    (fun s => sessionsInv_restsOn.kept s.sendStatus_frame (by simp [sessionParts, or_imp, forall_and])) ?work
    (fun s high low => sessionsInv_restsOn.kept (s.coldPins_frame high low)
      (by simp [sessionParts, inputParts, or_imp, forall_and]))
    (fun s cause high low h => warmWork_sessionsInv (s := s.clearPending) h cause high low) hs h
  intro c work s hc hs
  have apart : ∀ part ∈ sessionParts, part ∉ answeredParts := by simp [sessionParts, answeredParts, or_imp, forall_and]
  have apartPlan : ∀ part ∈ sessionParts, part ∉ ({.plan, .events} : Set Part) := by simp [sessionParts, or_imp, forall_and]
  have apartReceived (p : Port) : ∀ part ∈ sessionParts, part ∉ ({.counters p} : Set Part) := by
    simp [sessionParts, or_imp, forall_and]
  cases c with
  | warmRestart | supplyLoss | coldReset => cases hc
  | demandFrame r =>
    cases hc
    exact sessionsInv_restsOn.kept_by_receive (apartReceived _) (fun f u hu => demandFrame_sessionsInv hu f) hs
  | linkFrame r =>
    cases hc
    refine sessionsInv_restsOn.kept_by_receive (apartReceived _) (fun f u hu => ?_) hs
    unfold State.linkFrame
    split
    · exact sessionsInv_restsOn.kept u.countOwnDrop_frame (by simp [sessionParts, or_imp, forall_and]) hu
    · exact sessionsInv_restsOn.kept (State.offer_frame _ .up _) (by simp [sessionParts, or_imp, forall_and])
        (takeLink_sessionsInv hu _ _ _)
  | siteWrite =>
    cases hc
    exact sessionsInv_restsOn.kept_by_service apart (sessionsInv_restsOn.kept_by_write apartPlan
      (fun record => takeSiteRecord_sessionsInv hs record) hs) hs
  | bayWrite =>
    cases hc
    refine sessionsInv_restsOn.kept_by_service apart (fun p => ?_) hs
    unfold State.writeBay
    split
    · dsimp only
      split
      · exact hs
      · exact sessionsInv_restsOn.kept (State.planCheck_frame _) apartPlan (takeBayConfig_sessionsInv hs _ _)
    · exact hs
  | forceClose =>
    cases hc
    refine sessionsInv_restsOn.kept_by_service apart (fun p => ?_) hs
    unfold commandForceClose withArguments
    split
    · exact hs
    · exact forceClose_sessionsInv hs _
  | releaseReceipt =>
    cases hc
    refine sessionsInv_restsOn.kept_by_service apart (fun p => ?_) hs
    unfold commandRelease withArguments
    split
    · exact hs
    · exact release_sessionsInv hs _
  | meteringTick => cases hc; exact second_sessionsInv hs
  | silenceExpiry b => cases hc; exact silenceExpiry_sessionsInv hs b
  | silentCloseExpiry b => cases hc; exact silentCloseExpiry_sessionsInv hs b
  | closeHoldExpiry b => cases hc; exact closeHoldExpiry_sessionsInv hs b
  | pendingLinkExpiry b =>
    cases hc
    dsimp only
    split
    · exact expireLink_sessionsInv hs b
    · exact hs
  | _ =>
    exact sessionsInv_restsOn.kept (workOf_frame hc s) (fun part ha hw => by simpa [workOf] using sessionParts_changed ha hw) hs

end Sys2Proof.Machine
end

section
/-! O54: what a transmit queue, a list and a counter can hold, and that every operation keeps it (8.5, 8.6, R122, R130, R157,
R158, R160, R164). -/

namespace Sys2Proof.Machine

/-! ### Offered frames in a queue (R157, R158) -/

theorem replaces_iff (new old : Queued) : replaces new old = true ↔
    (∃ b, new.origin = .grant b ∧ old.origin = .grant b) ∨
      (new.origin = .limit ∧ old.origin = .limit ∧ old.frame.dest = new.frame.dest) := by
  unfold replaces
  cases h : new.origin <;> simp

theorem replaces_comm (a b : Queued) : replaces a b = replaces b a := by
  rw [Bool.eq_iff_iff, replaces_iff, replaces_iff]
  constructor <;> rintro (⟨c, ha, hb⟩ | ⟨ha, hb, hdest⟩)
  · exact .inl ⟨c, hb, ha⟩
  · exact .inr ⟨hb, ha, hdest.symm⟩
  · exact .inl ⟨c, hb, ha⟩
  · exact .inr ⟨hb, ha, hdest.symm⟩

/-- A frame that replaces another one replaces exactly what that one replaces. -/
theorem replaces_congr {new old : Queued} (h : replaces new old = true) (x : Queued) : replaces new x = replaces old x := by
  unfold replaces at h ⊢
  cases ha : new.origin <;> simp only [ha, Bool.false_eq_true] at h ⊢
  · rw [beq_iff_eq.mp h]
  · simp only [Bool.and_eq_true, beq_iff_eq] at h
    simp [h.1, h.2]

/-- The queue holds no two own frames for one bay or station. -/
def distinctOwn (l : List Queued) : Prop := l.Pairwise fun a b => replaces a b = false

/-- What an offer leaves in a queue was there or is the frame offered. -/
theorem enqueue_mem {queue q : List Queued} {new x : Queued} (h : enqueue queue new = some q) (hx : x ∈ q) :
    x ∈ queue ∨ x = new := by
  rcases enqueue_cases queue new with ⟨front, old, back, rfl, -, -, he⟩ | ⟨-, ⟨-, he⟩ | ⟨-, he⟩⟩ <;> rw [he] at h <;> cases h
  · simp only [List.mem_append, List.mem_cons] at hx ⊢
    tauto
  · simpa using hx

theorem enqueue_distinctOwn {queue q : List Queued} {new : Queued} (h : enqueue queue new = some q)
    (hd : distinctOwn queue) : distinctOwn q := by
  rcases enqueue_cases queue new with ⟨front, old, back, rfl, -, hr, he⟩ | ⟨hnone, ⟨-, he⟩ | ⟨-, he⟩⟩ <;>
    rw [he] at h <;> cases h
  · simp only [distinctOwn, List.pairwise_append, List.pairwise_cons, List.mem_cons, forall_eq_or_imp] at hd ⊢
    obtain ⟨hfront, ⟨hold, hback⟩, hacross⟩ := hd
    refine ⟨hfront, ⟨fun x hx => ?_, hback⟩, fun x hx => ⟨?_, (hacross x hx).2⟩⟩
    · rw [replaces_congr hr]
      exact hold x hx
    · rw [replaces_comm, replaces_congr hr, replaces_comm]
      exact (hacross x hx).1
  · simp only [distinctOwn, List.pairwise_append, List.mem_singleton, forall_eq]
    exact ⟨hd, List.pairwise_singleton _ _, fun x hx => by rw [replaces_comm]; exact hnone x hx⟩

/-! ### The invariant -/

theorem bump_le (n : Nat) : bump n ≤ 65535 := Nat.min_le_left _ _

theorem bumpBy_le (k n : Nat) : bumpBy k n ≤ 65535 := Nat.min_le_left _ _

/-- The counters of a port have stopped at 65,535 at most. -/
def PortCounters.bounded (c : PortCounters) : Prop :=
  c.received ≤ 65535 ∧ c.crcError ≤ 65535 ∧ c.oversize ≤ 65535 ∧ c.fragment ≤ 65535 ∧ c.drop ≤ 65535

/-- What waits and is sent at a port fits queue and frame, and its counters are bounded. -/
def PortState.fits (x : PortState) : Prop :=
  x.queue.length ≤ queueSize ∧ (∀ q ∈ x.queue, q.frame.payload.length ≤ 96) ∧
    (∀ q, x.sending = some q → q.frame.payload.length ≤ 96) ∧ x.counters.bounded

/-- The counters of the Frame Screen are bounded. -/
def ScreenState.bounded (x : ScreenState) : Prop :=
  x.unknownStation ≤ 65535 ∧ x.ownAddressDrops ≤ 65535 ∧ x.limitClamps ≤ 65535 ∧ x.autoBatteryDrops ≤ 65535

/-- Receipts, requests, links and band entries are within their capacities. -/
def ListsInv (s : State) : Prop :=
  s.rq.receipts.length ≤ receiptSlots ∧ s.mr.requests.length ≤ requestSlots ∧ s.links.length ≤ linkSlots ∧
    ∀ b, (s.bay b).metering.bands.length ≤ bandSlots

/-- The invariants of O54, port by port. -/
def QueuesInv (s : State) : Prop :=
  (∀ p, (s.port p).fits) ∧ OwnFramesInv s ∧ s.fs.bounded ∧ ListsInv s

theorem queuesInv_iff {s : State} : QueuesInv s ↔ CapacityInv s ∧ OwnFramesInv s ∧ CountersInv s ∧ PayloadInv s := by
  constructor
  · rintro ⟨hport, hown, hscreen, hreceipts, hrequests, hlinks, hbands⟩
    exact ⟨⟨fun p => (hport p).1, hreceipts, hrequests, hlinks, hbands⟩, hown, ⟨fun p => (hport p).2.2.2, hscreen⟩,
      fun p => ⟨(hport p).2.1, (hport p).2.2.1⟩, hbands⟩
  · rintro ⟨⟨hqueue, hlists⟩, hown, ⟨hcounters, hscreen⟩, hpayload, -⟩
    exact ⟨fun p => ⟨hqueue p, (hpayload p).1, (hpayload p).2, hcounters p⟩, hown, hscreen, hlists⟩

/-- The parts on which QueuesInv rests. -/
def queueParts : Set Part :=
  {.unknownStation, .ownAddressDrops, .limitClamps, .autoBatteryDrops, .receipts, .requests, .links} ∪ Set.range .queue ∪
    Set.range .sending ∪ Set.range .counters ∪ Set.range .drops ∪ Set.range .metering

theorem queuesInv_restsOn : RestsOn QueuesInv queueParts := by
  intro s t same h
  have hunknown : t.fs.unknownStation = s.fs.unknownStation := same .unknownStation (by simp [queueParts])
  have hown : t.fs.ownAddressDrops = s.fs.ownAddressDrops := same .ownAddressDrops (by simp [queueParts])
  have hclamps : t.fs.limitClamps = s.fs.limitClamps := same .limitClamps (by simp [queueParts])
  have hauto : t.fs.autoBatteryDrops = s.fs.autoBatteryDrops := same .autoBatteryDrops (by simp [queueParts])
  have hrq : t.rq = s.rq := same .receipts (by simp [queueParts])
  have hrequests : t.mr.requests = s.mr.requests := same .requests (by simp [queueParts])
  have hlinks : t.links = s.links := same .links (by simp [queueParts])
  have hqueue (p : Port) : (t.port p).queue = (s.port p).queue := same (.queue p) (by simp [queueParts])
  have hsending (p : Port) : (t.port p).sending = (s.port p).sending := same (.sending p) (by simp [queueParts])
  have hline (p : Port) : (t.port p).counters.line = (s.port p).counters.line := same (.counters p) (by simp [queueParts])
  have hdrop (p : Port) : (t.port p).counters.drop = (s.port p).counters.drop := same (.drops p) (by simp [queueParts])
  have hmetering (b : BayNo) : (t.bay b).metering = (s.bay b).metering := same (.metering b) (by simp [queueParts])
  have hdown : t.li.down.queue = s.li.down.queue := hqueue .down
  obtain ⟨hport, hframes, hscreen, hlists⟩ := h
  refine ⟨fun p => ?_, by rwa [OwnFramesInv, hdown], ?_, ?_⟩
  · obtain ⟨hlength, hpayload, hsent, hcounters⟩ := hport p
    have hreceived := hline p
    simp only [PortCounters.line, Prod.mk.injEq] at hreceived
    obtain ⟨hr, hc, ho, hf⟩ := hreceived
    exact ⟨by rwa [hqueue], by rwa [hqueue], by rwa [hsending], by
      rwa [PortCounters.bounded, hr, hc, ho, hf, hdrop]⟩
  · rwa [ScreenState.bounded, hunknown, hown, hclamps, hauto]
  · simpa only [ListsInv, hrq, hrequests, hlinks, hmetering] using hlists

/-- A frame that changes no part of the invariant keeps it. -/
theorem QueuesInv.kept {s t : State} {a : Set Part} (h : QueuesInv s) (frame : s.changesOnly t a)
    (apart : ∀ part ∈ a, part ∉ queueParts) : QueuesInv t :=
  queuesInv_restsOn.kept frame (fun part hp ha => apart part ha hp) h

/-! ### Ports -/

section
variable {s t : State}

theorem QueuesInv.setPort (h : QueuesInv s) (p : Port) {x : PortState} (hx : x.fits)
    (hown : p = .down → distinctOwn x.queue) : QueuesInv (s.setPort p x) := by
  obtain ⟨hport, hframes, hscreen, hlists⟩ := h
  refine ⟨fun q => ?_, ?_, by simpa using hscreen, by simpa [ListsInv, State.bay] using hlists⟩
  · by_cases hq : q = p
    · rw [hq, State.setPort_port]
      exact hx
    · rw [State.setPort_other _ _ hq]
      exact hport q
  · cases p with
    | down => exact hown rfl
    | up => exact hframes

theorem QueuesInv.setQueue (h : QueuesInv s) (p : Port) {q : List Queued} (hlength : q.length ≤ queueSize)
    (hpayload : ∀ x ∈ q, x.frame.payload.length ≤ 96) (hown : p = .down → distinctOwn q) : QueuesInv (s.setQueue p q) := by
  have ⟨hport, _⟩ := h
  obtain ⟨-, -, hsent, hcounters⟩ := hport p
  exact h.setPort p ⟨hlength, hpayload, hsent, hcounters⟩ hown

theorem QueuesInv.countDrops (h : QueuesInv s) (p : Port) (k : Nat) : QueuesInv (s.countDrops p k) := by
  have ⟨hport, hown, _⟩ := h
  obtain ⟨hlength, hpayload, hsent, hr, hc, ho, hf, -⟩ := hport p
  exact h.setPort p ⟨hlength, hpayload, hsent, hr, hc, ho, hf, bumpBy_le _ _⟩ fun hp => by subst hp; exact hown

theorem QueuesInv.modCounters (h : QueuesInv s) (p : Port) {f : PortCounters → PortCounters}
    (hf : ∀ c : PortCounters, c.bounded → (f c).bounded) : QueuesInv (s.modCounters p f) := by
  have ⟨hport, hown, _⟩ := h
  obtain ⟨hlength, hpayload, hsent, hcounters⟩ := hport p
  exact h.setPort p ⟨hlength, hpayload, hsent, hf _ hcounters⟩ fun hp => by subst hp; exact hown

theorem QueuesInv.offer (h : QueuesInv s) (p : Port) {q : Queued} (hq : q.frame.payload.length ≤ 96) :
    QueuesInv (s.offer p q).1 := by
  have ⟨hport, hown, _⟩ := h
  obtain ⟨hlength, hpayload, -⟩ := hport p
  rcases s.offer_cases p q with ⟨l, henqueue, e⟩ | ⟨-, e⟩ <;> rw [e]
  · refine h.setQueue p (enqueue_length henqueue hlength) (fun x hx => ?_) fun hp => ?_
    · rcases enqueue_mem henqueue hx with hin | rfl
      · exact hpayload x hin
      · exact hq
    · subst hp
      exact enqueue_distinctOwn henqueue hown
  · exact h.countDrops p 1

theorem QueuesInv.offerAll (h : QueuesInv s) {news : List Queued} (hnews : ∀ q ∈ news, q.frame.payload.length ≤ 96) :
    QueuesInv (s.offerAll .up news) := by
  obtain ⟨-, hpayload, -⟩ := h.1 .up
  unfold State.offerAll
  split
  next hroom =>
    exact h.setQueue .up (by simpa using hroom)
      (fun x hx => (List.mem_append.mp hx).elim (hpayload x) (hnews x)) (fun hp => by cases hp)
  next => exact h.countDrops .up _

theorem QueuesInv.withdraw (h : QueuesInv s) (addresses : List Byte) : QueuesInv (s.withdraw addresses) := by
  have ⟨hport, hown, _⟩ := h
  obtain ⟨hlength, hpayload, -⟩ := hport .down
  exact h.setQueue .down (le_trans (List.length_filter_le _ _) hlength) (fun x hx => hpayload x (List.mem_of_mem_filter hx))
    fun _ => List.Pairwise.filter _ hown

theorem QueuesInv.forward (h : QueuesInv s) (p : Port) {f : Frame} (hf : f.payload.length ≤ 96) :
    QueuesInv (s.forward p f) := h.offer p hf

theorem QueuesInv.answer (h : QueuesInv s) (dest : Byte) {payload : List Byte} (hp : payload.length ≤ 96) :
    QueuesInv (s.answer dest payload) := h.offer .up hp

theorem planBytes_length (f : Option PlanFault) : (planBytes f).length = 3 := by cases f <;> rfl

theorem QueuesInv.sendStatus (h : QueuesInv s) : QueuesInv s.sendStatus := by
  refine h.offer .up ?_
  simp [State.ownFrame, State.statusPayload, planBytes_length]

/-! ### Receipts -/

/-- A record of a receipt fits a frame, with at most 8 band entries (R137, 10.3). -/
theorem receiptParts_length {r : Receipt} (h : r.bands.length ≤ bandSlots) {p : List Byte} (hp : p ∈ receiptParts r) :
    p.length ≤ 96 := by
  have hcarried (c : Bool) (l : List Byte) : (carried c l).length ≤ l.length := by cases c <;> simp [carried]
  have htime (t : Option SiteTime) : (siteTimeBytes t).length = 5 := by cases t <;> simp [siteTimeBytes]
  have hparts : p = receiptPart1 r ∨ p = receiptPart2 r := by
    unfold receiptParts at hp
    split at hp
    · simpa using hp
    · exact .inl (List.mem_singleton.mp hp)
  rcases hparts with rfl | rfl
  · have h0 := hcarried (r.mask.getLsbD 0) (tokenBytes (r.token.getD 0))
    have h1 := hcarried (r.mask.getLsbD 1) (field32 (r.chargerWh.getD 0))
    have h2 := hcarried (r.mask.getLsbD 2) (fieldU 2 r.peak)
    have h3 := hcarried (r.mask.getLsbD 3) (fieldU 4 r.wait)
    have h4 := hcarried (r.mask.getLsbD 4) (fieldU 4 r.shed)
    have htoken (t : BitVec 64) : (tokenBytes t).length = 8 := bytesOf_length _ _
    simp only [htoken, field32_length, fieldU_length] at h0 h1 h2 h3 h4
    simp only [receiptPart1, List.length_append, List.length_cons, List.length_nil, field32_length, field16_length,
      fieldU_length, htime]
    omega
  · have hentries : ((r.bands.map fun e => e.band.code :: (fieldU 4 e.wh ++ fieldU 4 e.amount)).flatten).length =
        9 * r.bands.length := by
      rw [List.length_flatten, List.map_map]
      induction r.bands with
      | nil => rfl
      | cons e l ih =>
        simp only [List.map_cons, List.sum_cons, Function.comp_apply, List.length_cons, List.length_append, fieldU_length, ih]
        omega
    simp only [receiptPart2, List.length_append, List.length_cons, List.length_nil, field32_length, fieldU_length, hentries]
    unfold bandSlots at h
    omega

theorem QueuesInv.buildReceipt (h : QueuesInv s) (hroom : s.rq.receipts.length < receiptSlots) (b : BayNo) :
    QueuesInv (s.buildReceipt b) := by
  obtain ⟨hport, hown, hscreen, -, hrequests, hlinks, hbands⟩ := h
  have htail : QueuesInv { s with rq.receipts := s.rq.receipts ++ [s.receiptOf b], rq.next := s.rq.next + 1 } :=
    ⟨hport, hown, hscreen, by simpa using hroom, hrequests, hlinks, hbands⟩
  refine htail.offerAll fun q hq => ?_
  obtain ⟨p, hp, rfl⟩ := List.mem_map.mp hq
  refine receiptParts_length ?_ hp
  simpa [State.receiptOf, formReceipt] using hbands b

theorem QueuesInv.evalHigh (h : QueuesInv s) : QueuesInv s.evalHigh := by
  have hset (high : Bool) : QueuesInv { s with rq.high := high } := h
  exact (hset _).kept (State.raiseIf_frame _ _ _) (by simp [queueParts])

/-- The fields of a GRANT are 10 bytes (10.2). -/
theorem grantFields_length {x y z w : List Byte} (bay outcome : Byte) (hx : x.length = 2) (hy : y.length = 2)
    (hz : z.length = 2) (hw : w.length = 2) : (bay :: (x ++ [outcome] ++ y ++ z ++ w)).length = 10 := by
  simp [hx, hy, hz, hw]

theorem grantPayload_length (b : BayNo) (grant : Nat) (outcome : GrantOutcome) :
    (s.grantPayload b grant outcome).length = 10 :=
  grantFields_length _ _ (fieldI_length _ _) (field16_length _) (fieldU_length _ _) (field16_length _)

theorem limitPayload_length (v : Int) : (limitPayload v).length = 4 := by simp [limitPayload]

theorem QueuesInv.offerGrant (h : QueuesInv s) (dest : Byte) (b : BayNo) (grant : Nat) (outcome : GrantOutcome) :
    QueuesInv (s.offer .down ⟨s.ownFrame dest kindGrant (s.grantPayload b grant outcome), .grant b⟩).1 := by
  refine h.offer .down ?_
  rw [State.ownFrame, grantPayload_length]
  omega

theorem QueuesInv.blockedGrant (h : QueuesInv s) (b : BayNo) : QueuesInv (s.blockedGrant b) := by
  unfold State.blockedGrant
  split
  · exact h.offerGrant _ b _ _
  · exact h

end

end Sys2Proof.Machine
end

section
/-! O54: the queues and lists under the work of each block, and the step. -/

namespace Sys2Proof.Machine

section
variable {s t : State}

/-! ### Battery and control inputs -/

theorem QueuesInv.evaluateWith (h : QueuesInv s) (also : List Byte) : QueuesInv (s.evaluateWith also) := by
  have hbd (x : BatteryState) : QueuesInv { s with bd := x } := h
  have hraised (x : BatteryState) (done changed : Bool) :
      QueuesInv ((({ s with bd := x } : State).raiseIf done .topUpDone).raiseIf changed .batteryMode) :=
    ((hbd x).kept (State.raiseIf_frame _ _ _) (by simp [queueParts])).kept (State.raiseIf_frame _ _ _) (by simp [queueParts])
  simp only [State.evaluateWith]
  split
  · exact (hraised _ _ _).withdraw _
  · exact hraised _ _ _

theorem QueuesInv.setFreeze (h : QueuesInv s) (frozen : Bool) : QueuesInv (s.setFreeze frozen) := by
  have hset : QueuesInv { s with siu.freeze := frozen } := h
  unfold State.setFreeze
  split
  · exact h
  · exact hset.evaluateWith []

theorem QueuesInv.setShed (h : QueuesInv s) (i : Input) : QueuesInv (s.setShed i) :=
  h.kept (s.setShed_frame i) (by simp [queueParts])

theorem QueuesInv.setIsland (h : QueuesInv s) (i : Input) : QueuesInv (s.setIsland i) := by
  have hset : QueuesInv { s with siu.island := i } := h
  unfold State.setIsland
  dsimp only
  split
  · exact (hset.kept (State.raise_frame _ _) (by simp [queueParts])).setFreeze true
  · exact hset

theorem QueuesInv.sensesChanged (h : QueuesInv s) (oldShed oldIsland : Sense) :
    QueuesInv (s.sensesChanged oldShed oldIsland) := by
  unfold State.sensesChanged
  dsimp only
  have hshed : QueuesInv (if oldShed = s.mr.site.shedSense then s
      else s.setShed (Input.formed s.mr.site.shedSense s.siu.shed.high)) := by
    split
    · exact h
    · exact h.setShed _
  split
  · exact hshed
  · exact hshed.setIsland _

theorem QueuesInv.setRecord (h : QueuesInv s) (pos : Position) (r : Option MeasRecord) : QueuesInv (s.setRecord pos r) := h

theorem QueuesInv.tapSample (h : QueuesInv s) (pos : Position) (role : Role) (payload : List Byte) :
    QueuesInv (s.tapSample pos role payload) := by
  unfold State.tapSample
  split
  · dsimp only
    split
    · exact (h.setRecord _ _).evaluateWith []
    · exact h.setRecord _ _
  · exact h

theorem QueuesInv.turnStale (h : QueuesInv s) (pos : Position) : QueuesInv (s.turnStale pos) := by
  have hraise (u : State) (e : Option Event) (hu : QueuesInv u) :
      QueuesInv (match e with | some ev => u.raise ev | none => u) := by
    cases e with
    | none => exact hu
    | some e => exact hu.kept (u.raise_frame e) (by simp [queueParts])
  unfold State.turnStale
  split
  · split
    · dsimp only
      split
      · exact (hraise _ _ (h.setRecord _ _)).evaluateWith []
      · exact hraise _ _ (h.setRecord _ _)
    · exact h
  · exact h

theorem QueuesInv.holdChanged (h : QueuesInv s) : QueuesInv s.holdChanged :=
  foldl_keeps (P := QueuesInv) (fun _ pos hu => hu.turnStale pos) _ (h.kept (s.setRecords_frame _) (by simp [queueParts]))

theorem QueuesInv.offerLimit (h : QueuesInv s) (dest : Byte) (v : Int) :
    QueuesInv (s.offer .down ⟨s.ownFrame dest kindLimit (limitPayload v), .limit⟩).1 := by
  refine h.offer .down ?_
  rw [State.ownFrame, limitPayload_length]
  omega

theorem QueuesInv.batteryPass (h : QueuesInv s) : QueuesInv s.batteryPass := by
  have heval : QueuesInv s.evaluate := h.evaluateWith []
  have hsend (u : State) (hu : QueuesInv u) (p : Int) : QueuesInv (u.sendSetpoint p) := by
    unfold State.sendSetpoint
    split
    · exact hu
    · dsimp only
      split
      · exact hu.offerLimit _ p
      · exact hu.offerLimit _ p
  unfold State.batteryPass
  dsimp only
  split
  · exact heval
  · exact heval
  · exact heval
  · split
    · exact hsend _ heval _
    · exact heval

theorem QueuesInv.topUp (h : QueuesInv s) : QueuesInv s.topUp.1 := by
  have hflag : QueuesInv { s with bd.topUp := true } := h
  unfold State.topUp
  dsimp only
  split
  · exact hflag.evaluateWith []
  · exact h

theorem QueuesInv.resume (h : QueuesInv s) : QueuesInv s.resume.1 := by
  have hcleared (i : Input) : QueuesInv { s with siu.island := i } := h
  unfold State.resume
  dsimp only
  split
  · exact h
  · exact (hcleared _).setFreeze false

theorem QueuesInv.takeBatteryTable (h : QueuesInv s) (x : BatteryTable) : QueuesInv (s.takeBatteryTable x) := by
  have hbd (y : BatteryState) : QueuesInv { s with bd := y } := h
  unfold State.takeBatteryTable
  dsimp only
  refine QueuesInv.evaluateWith ?_ []
  split
  · exact hbd _
  · split
    · exact QueuesInv.withdraw (hbd _) _
    · exact hbd _

/-! ### Sessions -/

theorem QueuesInv.modSession (h : QueuesInv s) (b : BayNo) (f : Session → Session) : QueuesInv (s.modSession b f) :=
  h.kept (s.modSession_frame b f) (by simp [queueParts])

theorem QueuesInv.finalise (h : QueuesInv s) (b : BayNo) (reason : EndReason) (final : Option Register) :
    QueuesInv (s.finalise b reason final) := by
  have hended : QueuesInv (s.endSession b reason final) := h.modSession b _
  by_cases hroom : s.rq.receipts.length < receiptSlots
  · rw [State.finalise_room b reason final hroom]
    exact (hended.buildReceipt hroom b).evalHigh.modSession b _
  · rw [State.finalise_full b reason final (Nat.le_of_not_lt hroom)]
    have hheld : QueuesInv (s.holdBay b reason final) :=
      ((hended.modSession b _).kept (State.setHeld_frame _ _) (by simp [queueParts])).kept (State.raise_frame _ _)
        (by simp [queueParts])
    split
    · exact hheld.blockedGrant b
    · exact hheld

theorem QueuesInv.openSession (h : QueuesInv s) (b : BayNo) (f : Figures) : QueuesInv (s.openSession b f) := by
  have frame := s.openSession_frame b f
  obtain ⟨hport, hown, hscreen, hreceipts, hrequests, hlinks, hbands⟩ := h
  refine ⟨hport, hown, hscreen, hreceipts, hrequests, ?_, fun c => ?_⟩
  · rw [s.openSession_links]
    exact (List.length_filter_le _ _).trans hlinks
  · by_cases hc : c = b
    · subst hc
      have hopened : ((s.openSession c f).bay c).metering.bands = [⟨s.bandRef, 0, 0⟩] :=
        congrArg (fun x : Bay => x.metering.bands) (s.setBay_bay c _)
      rw [hopened]
      simp [bandSlots]
    · rw [frame (.metering c) (by simp [hc])]
      exact hbands c

theorem QueuesInv.demand (h : QueuesInv s) (b : BayNo) (f : Figures) : QueuesInv (s.demand b f) := by
  have htaken : QueuesInv (s.modSession b fun x => { x with figures := some f }) := h.modSession b _
  unfold State.demand
  dsimp only
  split
  · split
    · exact htaken.openSession b f
    · exact htaken
  · exact htaken
  iterate 3
    unfold State.demandRunning
    split
    iterate 3 exact htaken.modSession b _
    iterate 3 exact htaken.finalise b _ _
  · unfold State.demandClosing
    dsimp only
    split
    iterate 3 exact htaken
    iterate 3 exact htaken.finalise b _ _
  · unfold State.demandHeld
    dsimp only
    split
    · exact (htaken.modSession b _).blockedGrant b
    · exact htaken.modSession b _

theorem QueuesInv.dropOldest (h : QueuesInv s) : QueuesInv s.droppedOldest := by
  obtain ⟨hport, hown, hscreen, hreceipts, hlists⟩ := h
  refine ⟨hport, hown, hscreen, ?_, hlists⟩
  have htail : s.droppedOldest.rq.receipts.length = s.rq.receipts.length - 1 := List.length_tail
  omega

theorem QueuesInv.handOver (h : QueuesInv s) (hroom : s.rq.receipts.length < receiptSlots) (b : BayNo) (rest : List BayNo) :
    QueuesInv (s.handOver b rest) := by
  have hset : QueuesInv { s with held := rest } := h
  have hbuilt := hset.buildReceipt hroom b
  rcases s.handOver_cases b rest with ⟨f, -, -, -, e⟩ | ⟨-, e⟩ <;> rw [e]
  · exact hbuilt.openSession b f
  · exact hbuilt.modSession b _

theorem QueuesInv.releaseOldest (h : QueuesInv s) (hne : s.rq.receipts ≠ []) : QueuesInv s.releaseOldest := by
  have hdropped := h.dropOldest
  have hroom : s.droppedOldest.rq.receipts.length < receiptSlots := by
    have htail : s.droppedOldest.rq.receipts.length = s.rq.receipts.length - 1 := List.length_tail
    have hpos := List.length_pos_of_ne_nil hne
    obtain ⟨-, -, -, hreceipts, -⟩ := h
    omega
  cases hheld : s.held with
  | nil =>
    rw [State.releaseOldest_free hheld]
    exact hdropped.evalHigh
  | cons b rest =>
    rw [State.releaseOldest_held hheld]
    exact (hdropped.handOver hroom b rest).evalHigh

theorem QueuesInv.release (h : QueuesInv s) (number : BitVec 32) : QueuesInv (s.release number).1 := by
  unfold State.release
  split
  · exact h
  next hreceipts =>
    split
    · exact h.releaseOldest (by simp [hreceipts])
    · split <;> exact h

theorem QueuesInv.setLinks (h : QueuesInv s) {links : List PendingLink} (hl : links.length ≤ linkSlots) :
    QueuesInv { s with links } := by
  obtain ⟨hport, hown, hscreen, hreceipts, hrequests, -, hbands⟩ := h
  exact ⟨hport, hown, hscreen, hreceipts, hrequests, hl, hbands⟩

theorem QueuesInv.takeLink (h : QueuesInv s) (bay : Nat) (token : BitVec 64) (allowance : Nat) :
    QueuesInv (s.takeLink bay token allowance).1 := by
  have hstore (b : BayNo) : QueuesInv (s.storeLink b token allowance).1 := by
    have ⟨_, _, _, _, _, hlinks, _⟩ := h
    unfold State.storeLink
    dsimp only
    split
    next hroom =>
      refine h.setLinks ?_
      rw [List.length_append, List.length_singleton]
      rw [Bool.or_eq_true, decide_eq_true_eq] at hroom
      rcases hroom with hany | hlt
      · have hfewer : (s.links.filter fun e => e.bay != b).length < s.links.length := by
          rw [List.length_filter_lt_length_iff_exists]
          obtain ⟨e, he, hb⟩ := List.any_eq_true.mp hany
          exact ⟨e, he, by simpa using hb⟩
        omega
      · have hle := List.length_filter_le (fun e : PendingLink => e.bay != b) s.links
        omega
    next => exact h
  unfold State.takeLink
  split
  · dsimp only
    split
    iterate 3
      split
      · exact h
      · exact h.modSession _ _
    iterate 2 exact h
    iterate 2 exact hstore _
  · exact h

theorem QueuesInv.expireLink (h : QueuesInv s) (b : BayNo) : QueuesInv (s.expireLink b) := by
  have ⟨_, _, _, _, _, hlinks, _⟩ := h
  exact (h.setLinks ((List.length_filter_le _ _).trans hlinks)).kept (State.raise_frame _ _) (by simp [queueParts])

/-! ### Passes -/

theorem QueuesInv.publish (h : QueuesInv s) (p : AllocPass) : QueuesInv (s.publish p) := by
  have hsend (u : State) (b : BayNo) (hu : QueuesInv u) : QueuesInv (State.sendGrant p u b) := by
    unfold State.sendGrant
    dsimp only
    split
    · split
      · split
        · exact (hu.offerGrant _ b _ _).kept (State.modAlloc_frame _ b _) (by simp [queueParts])
        · exact hu.offerGrant _ b _ _
      · exact hu
    · exact hu
  have htable : QueuesInv (s.publishTable p) :=
    h.kept (s.publishTable_frame p) (by simp [queueParts, or_imp, forall_and])
  have hdwells : QueuesInv ((s.publishTable p).publishDwells p) :=
    htable.kept (State.setDwells_frame _ _) (by simp [queueParts])
  have hgrants : QueuesInv (((s.publishTable p).publishDwells p).publishGrants p) :=
    foldl_keeps (P := QueuesInv) hsend _ hdwells
  exact hgrants.batteryPass.kept (State.setAllocTimer_frame _ _) (by simp [queueParts])

theorem QueuesInv.publishCanopy (h : QueuesInv s) (p : CanopyPass) : QueuesInv (s.publishCanopy p) := by
  have hcap (u : State) (hu : QueuesInv u) (j : StringNo) (a : Byte) (cap : Nat) : QueuesInv (u.sendCap j a cap) := by
    have hoffer := hu.offerLimit a cap
    unfold State.sendCap
    dsimp only
    split
    · exact hoffer.kept (State.setString_frame _ j _) (by simp [queueParts])
    · exact hoffer
  have hsend (u : State) (j : StringNo) (hu : QueuesInv u) : QueuesInv (u.sendString j) := by
    unfold State.sendString
    dsimp only
    split
    · exact hu
    · split
      · split
        · exact hcap u hu _ _ _
        · split
          · exact hcap u hu _ _ _
          · exact hu
      · split
        · exact hcap u hu _ _ _
        · exact hu
  have hcaps : QueuesInv (s.publishCaps p) := h.kept (s.publishCaps_frame p) (by simp [queueParts, or_imp, forall_and])
  have hraised (c : Bool) : QueuesInv ((s.publishCaps p).raiseIf c .curtailActive) :=
    hcaps.kept (State.raiseIf_frame _ _ _) (by simp [queueParts])
  have hmarked (c ended : Bool) (was : StringNo → Bool) :
      QueuesInv (((s.publishCaps p).raiseIf c .curtailActive).markReleases ended was) :=
    (hraised c).kept (State.markReleases_frame _ _ _) (by simp [queueParts])
  exact (foldl_keeps (P := QueuesInv) hsend _ (hmarked _ _ _)).kept (State.setCanopyTimer_frame _ _) (by simp [queueParts])

/-! ### The second of uptime and restarts -/

theorem meterWith_bands (x : Bay) (ref : BandRef) (band : Band) (share : TickShare) :
    (x.meterWith ref band share).metering.bands = (accumulate x.metering.bands x.metering.merged ref share.energy
      (tickCost band share (freeOf x.session.link share))).1 := rfl

theorem QueuesInv.second (h : QueuesInv s) : QueuesInv s.second := by
  obtain ⟨hport, hown, hscreen, hreceipts, hrequests, hlinks, hbands⟩ := h
  have frame := s.second_frame
  have hrest : QueuesInv s.second ↔ s.second.links.length ≤ linkSlots ∧ ∀ b, (s.second.bay b).metering.bands.length ≤ bandSlots := by
    have hli : s.second.li = s.li := by simp only [State.second, State.tick, State.countTimers, State.mapBays]
    have hfs : s.second.fs = s.fs := by simp only [State.second, State.tick, State.countTimers, State.mapBays]
    have hrq : s.second.rq = s.rq := frame .receipts (by simp [timerParts])
    have hmr : s.second.mr.requests = s.mr.requests := frame .requests (by simp [timerParts])
    have hports (p : Port) : s.second.port p = s.port p := by cases p <;> simp only [State.port, hli]
    generalize s.second = t at *
    refine ⟨fun ⟨_, _, _, _, _, hl, hb⟩ => ⟨hl, hb⟩, fun ⟨hl, hb⟩ => ⟨fun p => by rw [hports]; exact hport p,
      by rwa [OwnFramesInv, hli], by rwa [hfs], by rwa [hrq], by rwa [hmr], hl, hb⟩⟩
  refine hrest.mpr ⟨?_, fun b => ?_⟩
  · have htick : s.advanced.tick.links = s.advanced.links := s.advanced.tick_frame .links (by simp)
    rw [s.second_eq, htick, s.advanced_links, List.length_map]
    exact hlinks
  · have hadvanced : (s.advanced.bay b).metering.bands.length ≤ bandSlots := by
      rw [s.advanced_bay]
      exact hbands b
    rw [s.second_eq, s.advanced.tick_bay b]
    split
    · rw [meterWith_bands]
      exact accumulate_length _ _ _ _ _ hadvanced
    · exact hadvanced

theorem reset_queuesInv : QueuesInv State.reset :=
  queuesInv_iff.mpr ⟨reset_capacityInv, reset_ownFramesInv, reset_countersInv, reset_payloadInv⟩

end

end Sys2Proof.Machine
end

section
/-! Received frames and answers fit a frame, and O54. -/

namespace Sys2Proof.Machine

/-! ### Lengths (8.1, R180) -/

theorem goodFrame_payload {r : Reception} {f : Frame} (h : goodFrame r = some f) : f.payload.length ≤ 96 := by
  have hgood : judge r = .good f := by
    unfold goodFrame at h
    split at h
    next v => rw [v, Option.some.inj h]
    next => cases h
  unfold judge at hgood
  split at hgood
  · split at hgood
    · cases hgood
    · split at hgood
      · cases hgood
      · dsimp only at hgood
        split at hgood
        · cases hgood
          simp only [List.length_take]
          omega
        · cases hgood
  · cases hgood

theorem packRecords_length (room : Nat) (records : List (List Byte)) :
    (packRecords room records).flatten.length ≤ room := by
  induction records generalizing room with
  | nil => exact Nat.zero_le _
  | cons r rest ih =>
    unfold packRecords
    split
    · have hrest := ih (room - (r.length + 1))
      rw [List.flatten_cons, List.length_append, List.length_cons]
      omega
    · exact Nat.zero_le _

theorem answerHead_length (p : List Byte) (status : Status) : (answerHead p status).length = 3 := rfl

theorem answerOf_length (p : List Byte) (status : Status) (plan : Option PlanFault) : (answerOf p status plan).length ≤ 8 := by
  unfold answerOf
  rw [List.length_append, answerHead_length]
  split
  · split
    · rw [List.length_append, planBytes_length]
      simp
    · simp
  · split
    · have htake := List.length_take_le 1 (p.drop 2)
      omega
    · simp

theorem readAnswer_length (s : State) (p : List Byte) : (s.readAnswer p).length ≤ 96 := by
  have hrefused (status : Status) : (readRefusal p status).length ≤ 96 := by
    unfold readRefusal
    rw [List.length_append, answerHead_length]
    split <;> simp
  unfold State.readAnswer
  split
  · exact hrefused _
  · split
    · exact hrefused _
    · split
      · exact hrefused _
      · next records _ =>
        have hpacked := packRecords_length recordRoom (records.take (readU p 8 1))
        dsimp only
        rw [List.length_append, List.length_append, answerHead_length]
        simp only [List.length_cons, List.length_nil]
        unfold recordRoom at hpacked ⊢
        omega

/-- A frame keeps its length when its value is rewritten (R182). -/
theorem withValue_length {f : Frame} (h : valueMissing f = false) (v : Int) :
    (withValue f v).payload.length = f.payload.length := by
  unfold valueMissing at h
  rw [decide_eq_false_iff_not] at h
  unfold withValue
  simp only [List.length_append, List.length_take, List.length_drop, fieldI_length]
  omega

section
variable {s : State}

/-! ### Receptions -/

theorem QueuesInv.setScreen (h : QueuesInv s) {x : ScreenState} (hx : x.bounded) : QueuesInv { s with fs := x } := by
  obtain ⟨hport, hown, -, hlists⟩ := h
  exact ⟨hport, hown, hx, hlists⟩

theorem QueuesInv.countClamp (h : QueuesInv s) : QueuesInv s.countClamp := by
  have ⟨_, _, ⟨hu, ho, _, ha⟩, _⟩ := h
  exact h.setScreen ⟨hu, ho, bump_le _, ha⟩

theorem QueuesInv.countAutoDrop (h : QueuesInv s) : QueuesInv s.countAutoDrop := by
  have ⟨_, _, ⟨hu, ho, hl, _⟩, _⟩ := h
  exact h.setScreen ⟨hu, ho, hl, bump_le _⟩

theorem QueuesInv.countOwnDrop (h : QueuesInv s) : QueuesInv s.countOwnDrop := by
  have ⟨_, _, ⟨hu, _, hl, ha⟩, _⟩ := h
  exact h.setScreen ⟨hu, bump_le _, hl, ha⟩

theorem QueuesInv.receive (h : QueuesInv s) {p : Port} {row : FrameRow} {r : Reception} {work : Frame → State → State}
    (hwork : ∀ f u, f.payload.length ≤ 96 → QueuesInv u → QueuesInv (work f u)) : QueuesInv (s.receive p row r work) := by
  rcases s.receive_cases p row r work with ⟨f, -, hgood, -, e⟩ | ⟨-, e⟩ <;> rw [e]
  · refine hwork f _ (goodFrame_payload hgood) (h.modCounters p fun c hc => ?_)
    obtain ⟨-, hcrc, hover, hfrag, hdrop⟩ := hc
    exact ⟨bump_le _, hcrc, hover, hfrag, hdrop⟩
  · exact h

theorem QueuesInv.dropFrame (h : QueuesInv s) (p : Port) (r : Reception) : QueuesInv (s.dropFrame p r) := by
  have hcount (v : Verdict) : QueuesInv ((s.modCounters p v.count).raise .lineError) := by
    refine (h.modCounters p fun c hc => ?_).kept (State.raise_frame _ _) (by simp [queueParts])
    obtain ⟨hr, hc, ho, hf, hd⟩ := hc
    cases v with
    | oversize => exact ⟨hr, hc, bump_le _, hf, hd⟩
    | fragment => exact ⟨hr, hc, ho, bump_le _, hd⟩
    | crcError => exact ⟨hr, bump_le _, ho, hf, hd⟩
    | good f => exact ⟨hr, hc, ho, hf, hd⟩
  unfold State.dropFrame
  split
  · exact h
  · split
    · exact h
    · exact hcount _

variable {f : Frame}

theorem QueuesInv.forwardSample (h : QueuesInv s) (hf : f.payload.length ≤ 96) (pos : Position) (e : Station) :
    QueuesInv (s.forwardSample pos e f) := by
  have hcount : QueuesInv { s with fs.counts := s.fs.counts.set pos ((s.fs.counts[pos] + 1) % e.divider) } := h
  unfold State.forwardSample
  dsimp only
  split
  · exact hcount.forward .up hf
  · exact hcount

theorem QueuesInv.sampleFrame (h : QueuesInv s) (hf : f.payload.length ≤ 96) : QueuesInv (State.sampleFrame f s) := by
  unfold State.sampleFrame
  split
  · exact (h.tapSample _ _ _).forwardSample hf _ _
  · exact h

theorem QueuesInv.demandFrame (h : QueuesInv s) (hf : f.payload.length ≤ 96) : QueuesInv (State.demandFrame f s) := by
  unfold State.demandFrame
  dsimp only
  split
  · split
    · exact (h.demand _ _).forward .up hf
    · exact h.forward .up hf
  · exact h.forward .up hf

theorem QueuesInv.linkFrame (h : QueuesInv s) : QueuesInv (State.linkFrame f s) := by
  unfold State.linkFrame
  split
  · exact h.countOwnDrop
  · refine (h.takeLink _ _ _).offer .up ?_
    simp [State.ownFrame]

theorem QueuesInv.manageFrame (h : QueuesInv s) : QueuesInv (State.manageFrame f s) := by
  unfold State.manageFrame
  split
  next hroom =>
    obtain ⟨hport, hown, hscreen, hreceipts, -, hlinks, hbands⟩ := h
    exact ⟨hport, hown, hscreen, hreceipts, by simpa using hroom, hlinks, hbands⟩
  next => exact h.answer _ ((answerHead_length _ _).trans_le (by omega))

theorem QueuesInv.forwardUpFrame (h : QueuesInv s) (hf : f.payload.length ≤ 96) : QueuesInv (State.forwardUpFrame f s) := by
  have ⟨_, _, ⟨_, ho, hl, ha⟩, _⟩ := h
  unfold State.forwardUpFrame
  split
  · exact (h.setScreen (x := { s.fs with unknownStation := bump s.fs.unknownStation }) ⟨bump_le _, ho, hl, ha⟩).forward .up hf
  · split
    · exact h.forwardSample hf _ _
    · exact h.forward .up hf

theorem QueuesInv.forwardDownFrame (h : QueuesInv s) (hf : f.payload.length ≤ 96) :
    QueuesInv (State.forwardDownFrame f s) := by
  unfold State.forwardDownFrame
  split
  · exact h.countClamp
  · exact h.forward .down hf

theorem QueuesInv.forwardHeld (h : QueuesInv s) (hf : f.payload.length ≤ 96) (hv : valueMissing f = false) (v : Int) :
    QueuesInv (s.forwardHeld f v).1 := by
  unfold State.forwardHeld
  split
  · exact h.offer .down hf
  · exact h.countClamp.offer .down ((withValue_length hv v).trans_le hf)

theorem QueuesInv.screenLimit (h : QueuesInv s) (hf : f.payload.length ≤ 96) : QueuesInv (State.screenLimit f s) := by
  unfold State.screenLimit
  split
  · exact h
  · split
    · exact h.forward .down hf
    · split
      · exact h.countAutoDrop.countClamp
      · exact h.countAutoDrop
    · split
      · exact h.countClamp
      next hv => exact h.forwardHeld hf (by simpa using hv) _
    · split
      · exact h.countClamp
      next hv =>
        have hheld := h.forwardHeld hf (by simpa using hv) (clampToRatings s.bd.table (limitValue f))
        dsimp only
        split
        · exact hheld.kept (State.takeManual_frame _ _) (by simp [queueParts])
        · exact hheld

/-! ### Transmission -/

theorem QueuesInv.startTransmission (h : QueuesInv s) (p : Port) : QueuesInv (s.startTransmission p) := by
  have ⟨hport, hown, _⟩ := h
  obtain ⟨hlength, hpayload, -, hcounters⟩ := hport p
  unfold State.startTransmission
  split
  next q rest _ hq =>
    rw [hq] at hlength hpayload
    refine h.setPort p ⟨(Nat.le_succ _).trans hlength, fun x hx => hpayload x (List.mem_cons_of_mem _ hx), ?_, hcounters⟩ ?_
    · rintro x ⟨⟩
      exact hpayload q List.mem_cons_self
    · rintro rfl
      have hdown : distinctOwn (q :: rest) := hq ▸ hown
      exact (List.pairwise_cons.mp hdown).2
  next => exact h

theorem QueuesInv.endTransmission (h : QueuesInv s) (p : Port) : QueuesInv (s.endTransmission p) := by
  have ⟨hport, hown, _⟩ := h
  obtain ⟨hlength, hpayload, -, hcounters⟩ := hport p
  have hidle : QueuesInv (s.setPort p { s.port p with sending := none }) :=
    h.setPort p ⟨hlength, hpayload, (fun _ hx => nomatch hx), hcounters⟩ fun hp => by subst hp; exact hown
  unfold State.endTransmission
  split
  · unfold State.answerSent
    split
    · exact hidle.kept (State.setRestart_frame _ _) (by simp [queueParts])
    · exact hidle
  · exact h

/-! ### Requests and writes -/

theorem QueuesInv.setRequests (h : QueuesInv s) {l : List Request} (hl : l.length ≤ requestSlots) :
    QueuesInv { s with mr.requests := l } := by
  obtain ⟨hport, hown, hscreen, hreceipts, -, hlists⟩ := h
  exact ⟨hport, hown, hscreen, hreceipts, hl, hlists⟩

/-- A service keeps the invariant if its work does; the served request leaves the queue. -/
theorem QueuesInv.serve (h : QueuesInv s) {row : Service} {work : Request → State → State}
    (hwork : ∀ r, QueuesInv (work r s)) : QueuesInv (s.serve row work) := by
  have ⟨_, _, _, _, hrequests, _⟩ := h
  rcases State.serve_cases row work s with ⟨r, rest, hhead, -, -, e⟩ | e <;> rw [e]
  · rw [hhead] at hrequests
    exact (hwork r).setRequests ((Nat.le_succ _).trans hrequests)
  · exact h

theorem QueuesInv.answerOf (h : QueuesInv s) (dest : Byte) (p : List Byte) (status : Status) (plan : Option PlanFault) :
    QueuesInv (s.answer dest (answerOf p status plan)) :=
  h.answer dest ((answerOf_length p status plan).trans (by omega))

theorem QueuesInv.checked (h : QueuesInv s) {work : List Byte → State → State × Status}
    (hwork : ∀ p, QueuesInv (work p s).1) (r : Request) : QueuesInv (checked work r s) := by
  rcases checked_cases work r s with ⟨-, e⟩ | ⟨-, e⟩ <;> rw [e]
  · exact (hwork _).answerOf _ _ _ _
  · exact h.answerOf _ _ _ _

theorem QueuesInv.serveChecked (h : QueuesInv s) {row : Service} {work : List Byte → State → State × Status}
    (hwork : ∀ p, QueuesInv (work p s).1) : QueuesInv (s.serve row (Machine.checked work)) :=
  h.serve fun r => h.checked hwork r

theorem QueuesInv.planCheck (h : QueuesInv s) : QueuesInv s.planCheck := h.kept s.planCheck_frame (by simp [queueParts])

theorem QueuesInv.writeWhole (h : QueuesInv s) {fits : List Byte → Bool} {take : List Byte → State → State × Bool}
    (htake : ∀ record, QueuesInv (take record s).1) (p : List Byte) : QueuesInv (writeWhole fits take p s).1 :=
  queuesInv_restsOn.kept_by_write (by simp [queueParts, or_imp, forall_and]) htake h p

theorem QueuesInv.takeSiteRecord (h : QueuesInv s) (record : List Byte) : QueuesInv (State.takeSiteRecord record s).1 := by
  have hsite (site : SiteTable) : QueuesInv { s with mr.site := site } := h
  have hhold (t : State) (c : Prop) [Decidable c] (ht : QueuesInv t) : QueuesInv (if c then t else t.holdChanged) := by
    split
    · exact ht
    · exact ht.holdChanged
  have hhigh (t : State) (c : Prop) [Decidable c] (ht : QueuesInv t) : QueuesInv (if c then t else t.evalHigh) := by
    split
    · exact ht
    · exact ht.evalHigh
  exact hhigh _ _ (hhold _ _ ((hsite _).sensesChanged _ _))

theorem QueuesInv.placed (h : QueuesInv s) (pos : Position) (new : Option Station) : QueuesInv (s.placed pos new) :=
  h.kept (s.placed_frame pos new) (by simp [queueParts, or_imp, forall_and])

theorem QueuesInv.placeStation (h : QueuesInv s) (pos : Position) (new : Option Station) :
    QueuesInv (s.placeStation pos new) := by
  rw [s.placeStation_eq]
  split
  · exact (h.placed _ _).evaluateWith _
  · exact h.placed _ _

theorem QueuesInv.writeStation (h : QueuesInv s) (p : List Byte) : QueuesInv (State.writeStation p s).1 := by
  unfold State.writeStation
  split
  · dsimp only
    split
    · exact h
    · split
      · exact h
      · exact (h.placeStation _ _).planCheck
  · exact h

theorem QueuesInv.zeroCounters (h : QueuesInv s) : QueuesInv s.zeroCounters := by
  have hzero : PortCounters.zero.bounded := ⟨Nat.zero_le _, Nat.zero_le _, Nat.zero_le _, Nat.zero_le _, Nat.zero_le _⟩
  obtain ⟨hport, hown, -, hlists⟩ := h
  refine ⟨fun p => ?_, hown, ⟨Nat.zero_le _, Nat.zero_le _, Nat.zero_le _, Nat.zero_le _⟩, hlists⟩
  obtain ⟨hlength, hpayload, hsent, -⟩ := hport p
  cases p <;> exact ⟨hlength, hpayload, hsent, hzero⟩

theorem QueuesInv.withArguments (h : QueuesInv s) {n : Nat} {work : List Byte → State → State × Status}
    (hwork : ∀ a, QueuesInv (work a s).1) (p : List Byte) : QueuesInv (Machine.withArguments n work p s).1 := by
  unfold Machine.withArguments
  split
  · exact h
  · exact hwork _

theorem QueuesInv.restartWork (h : QueuesInv s) (r : Request) : QueuesInv (restartWork r s) := by
  unfold Machine.restartWork
  split
  · refine QueuesInv.kept (h.offer .up ?_) (State.setRestart_frame _ _) (by simp [queueParts])
    exact (answerOf_length _ _ _).trans (by omega)
  · exact h.answerOf _ _ _ _

theorem QueuesInv.unknownWork (h : QueuesInv s) (r : Request) : QueuesInv (unknownWork r s) := by
  unfold Machine.unknownWork
  split
  · exact h.checked (fun _ => h) r
  · exact h.answerOf _ _ _ _

theorem QueuesInv.badTableWork (h : QueuesInv s) (r : Request) : QueuesInv (badTableWork r s) := by
  unfold Machine.badTableWork
  split
  · exact h.answerOf _ _ _ _
  · exact h.checked (fun _ => h) r

/-! ### Restarts and the step -/

theorem QueuesInv.warmWork (h : QueuesInv s) (cause : RestartCause) (high low : Bool) :
    QueuesInv (State.warmWork cause high low s) := by
  have hcold : PortState.cold.fits :=
    ⟨Nat.zero_le _, (fun _ hx => nomatch hx), (fun _ hx => nomatch hx), Nat.zero_le _, Nat.zero_le _, Nat.zero_le _,
      Nat.zero_le _, Nat.zero_le _⟩
  have hmanage : QueuesInv (s.restartManage cause) := by
    obtain ⟨hport, hown, hscreen, hreceipts, -, hlists⟩ := h
    exact ⟨hport, hown, hscreen, hreceipts, Nat.zero_le _, hlists⟩
  have hline (t : State) (ht : QueuesInv t) : QueuesInv t.restartLine := by
    obtain ⟨-, -, -, hlists⟩ := ht
    exact ⟨fun p => by cases p <;> exact hcold, List.Pairwise.nil,
      ⟨Nat.zero_le _, Nat.zero_le _, Nat.zero_le _, Nat.zero_le _⟩, hlists⟩
  have hreceipts (t : State) (ht : QueuesInv t) : QueuesInv t.restartReceipts := by
    have hcleared : QueuesInv { t with rq.high := false } := ht
    exact hcleared.evalHigh
  refine hreceipts _ ?_
  refine QueuesInv.kept ?_ (State.restartCanopy_frame _) (by simp [queueParts, or_imp, forall_and])
  refine QueuesInv.kept ?_ (State.restartBattery_frame _) (by simp [queueParts])
  refine QueuesInv.kept ?_ (State.restartAlloc_frame _) (by simp [queueParts, passParts, or_imp, forall_and])
  refine QueuesInv.kept ?_ (State.restartSiu_frame _ _ _) (by simp [queueParts, or_imp, forall_and])
  refine QueuesInv.kept ?_ (State.restartSessions_frame _) (by simp [queueParts])
  exact hline _ hmanage

/-- The commands that serve a request of the MR. -/
def servesRequest : Instr → Bool
  | .read | .siteWrite | .stationWrite | .bayWrite | .tariffWrite | .batteryWrite | .canopyWrite | .eventMaskWrite
  | .setClock | .restart | .resume | .shedClear | .topUp | .forceClose | .releaseReceipt | .clearEvents | .clearCounters
  | .unknownCommand | .badTableWrite => true
  | _ => false

theorem QueuesInv.workOf_service (h : QueuesInv s) {c : Instr} {work : State → State} (hc : workOf c = some work)
    (hserves : servesRequest c = true) : QueuesInv (work s) := by
  cases c with
  | read => cases hc; exact h.serve fun r => h.answer _ (readAnswer_length _ _)
  | siteWrite => cases hc; exact h.serveChecked fun p => h.writeWhole (fun record => h.takeSiteRecord record) p
  | stationWrite => cases hc; exact h.serveChecked fun p => h.writeStation p
  | bayWrite =>
    cases hc
    exact h.serveChecked fun p => h.kept (s.writeBay_frame p) (by simp [queueParts, writtenParts, or_imp, forall_and])
  | tariffWrite => cases hc; exact h.serveChecked fun p => h.kept (s.writeTariff_frame p) (by simp [queueParts, writtenParts])
  | batteryWrite => cases hc; exact h.serveChecked fun p => h.writeWhole (fun record => h.takeBatteryTable _) p
  | canopyWrite =>
    cases hc
    exact h.serveChecked fun p => h.kept (s.writeCanopy_frame p) (by simp [queueParts, writtenParts, or_imp, forall_and])
  | eventMaskWrite => cases hc; exact h.serveChecked fun p => h.kept (s.writeEventMask_frame p) (by simp [queueParts])
  | setClock =>
    cases hc
    exact h.serveChecked fun p => h.withArguments (fun a => h.kept (s.setSiteClock_frame _ _) (by simp [queueParts])) p
  | restart => cases hc; exact h.serve fun r => h.restartWork r
  | resume => cases hc; exact h.serveChecked fun _ => h.resume
  | shedClear => cases hc; exact h.serveChecked fun _ => h.kept s.shedClear_frame (by simp [queueParts])
  | topUp => cases hc; exact h.serveChecked fun _ => h.topUp
  | forceClose =>
    cases hc
    exact h.serveChecked fun p => h.withArguments (fun a => h.kept (s.forceClose_frame _) (by simp [queueParts])) p
  | releaseReceipt => cases hc; exact h.serveChecked fun p => h.withArguments (fun a => h.release _) p
  | clearEvents =>
    cases hc
    exact h.serveChecked fun p => h.withArguments (fun a => h.kept (s.clearEvents_frame _) (by simp [queueParts])) p
  | clearCounters => cases hc; exact h.serveChecked fun _ => h.zeroCounters
  | unknownCommand => cases hc; exact h.serve fun r => h.unknownWork r
  | badTableWrite => cases hc; exact h.serve fun r => h.badTableWork r
  | _ => cases hserves

theorem QueuesInv.workOf (h : QueuesInv s) {c : Instr} {work : State → State} (hc : workOf c = some work) :
    QueuesInv (work s) := by
  by_cases hserves : servesRequest c = true
  · exact h.workOf_service hc hserves
  cases c with
  | warmRestart | supplyLoss | coldReset => cases hc
  | frameError p r => cases hc; exact h.dropFrame p r
  | sampleFrame r => cases hc; exact h.receive fun f u hf hu => hu.sampleFrame hf
  | demandFrame r => cases hc; exact h.receive fun f u hf hu => hu.demandFrame hf
  | linkFrame r => cases hc; exact h.receive fun f u _ hu => hu.linkFrame
  | manageFrame r => cases hc; exact h.receive fun f u _ hu => hu.manageFrame
  | upLimitScreen r => cases hc; exact h.receive fun f u hf hu => hu.screenLimit hf
  | forwardUp r => cases hc; exact h.receive fun f u hf hu => hu.forwardUpFrame hf
  | forwardDown r => cases hc; exact h.receive fun f u hf hu => hu.forwardDownFrame hf
  | ownAddressDrop p r => cases hc; exact h.receive fun f u _ hu => hu.countOwnDrop
  | ownSourceDiscard p r => cases hc; exact h.receive fun f u _ hu => hu
  | transmitStart p => cases hc; exact h.startTransmission p
  | shedPinLevel high => cases hc; exact h.setShed _
  | islandPinLevel high => cases hc; exact h.setIsland _
  | meteringTick => cases hc; exact h.second
  | measureAgeTick => cases hc; exact h.kept s.ageRecords_frame (by simp [queueParts])
  | recordStale pos => cases hc; exact h.turnStale pos
  | silenceExpiry b => cases hc; exact h.kept (s.silenceExpiry_frame b) (by simp [queueParts])
  | silentCloseExpiry b =>
    cases hc
    dsimp only
    unfold State.silentCloseExpiry
    split
    · split
      · exact h.finalise b _ _
      · exact h
    all_goals exact h
  | closeHoldExpiry b =>
    cases hc
    dsimp only
    unfold State.closeHoldExpiry
    split
    · split
      · exact h.finalise b _ _
      · exact h
    all_goals exact h
  | pendingLinkExpiry b =>
    cases hc
    dsimp only
    split
    · exact h.expireLink b
    · exact h
  | allocationPassStart =>
    exact h.kept (workOf_frame hc s) (by simp [queueParts, workParts, passParts, or_imp, forall_and])
  | publication =>
    cases hc
    dsimp only
    split
    · exact h.publish _
    · exact h
  | guardExpiry b =>
    cases hc
    dsimp only
    split
    · exact h.kept (s.expireGuard_frame b) (by simp [queueParts])
    · exact h
  | dwellExpiry k =>
    cases hc
    dsimp only
    split
    · exact h.kept (s.expireDwell_frame k) (by simp [queueParts])
    · exact h
  | canopyPassStart => exact h.kept (workOf_frame hc s) (by simp [queueParts, workParts])
  | canopyPublication =>
    cases hc
    dsimp only
    split
    · exact h.publishCanopy _
    · exact h
  | frameTransmitEnd p => cases hc; exact h.endTransmission p
  | receiverIdlePeriod p => exact h.kept (workOf_frame hc s) (by simp [queueParts, workParts])
  | resetPinReturnHigh => exact h.kept (workOf_frame hc s) (by simp [queueParts, workParts])
  | _ => exact absurd rfl hserves

end

/-- Settles O54: every change of a queue is an offer, a withdrawal or a transmission, a list grows only while it has room, and a
counter is counted with its stop. -/
theorem stepKeepsQueues : Obligations.StepKeepsQueues := by
  unfold Obligations.StepKeepsQueues
  intro s t hs h
  rw [← queuesInv_iff] at hs ⊢
  exact step_keeps (P := QueuesInv) queuesInv_restsOn (by simp [queueParts, outerParts, or_imp, forall_and])
    reset_queuesInv (fun s h => h.sendStatus) (fun c work s hc h => h.workOf hc)
    (fun s high low h => (h.setShed _).setIsland _)
    (fun s cause high low h => QueuesInv.warmWork (s := s.clearPending) h cause high low) hs h

end Sys2Proof.Machine
end

section
/-! One event seen from outside, and the statements about the step, transmission and frames on the line (O1, O2, O21, O4, O5). -/

namespace Sys2Proof.Machine

/-! ### What an event leaves besides its work (R174) -/

section
variable (work : State → State) (s : State)

@[simp] theorem State.sendStatus_li_down (s : State) : s.sendStatus.li.down = s.li.down := by
  rcases s.offer_cases .up ⟨s.ownFrame s.mr.site.alertDest kindStatus s.statusPayload, .status⟩ with ⟨q, -, e⟩ | ⟨-, e⟩ <;>
    rw [State.sendStatus, e] <;> rfl

@[simp] theorem inEvent_bay (b : BayNo) : (inEvent work s).bay b = (work s).bay b := by
  rcases inEvent_cases work s with ⟨-, e⟩ | ⟨-, -, e⟩ <;> simp [e, State.bay]

@[simp] theorem inEvent_links : (inEvent work s).links = (work s).links := by
  rcases inEvent_cases work s with ⟨-, e⟩ | ⟨-, -, e⟩ <;> simp [e]

@[simp] theorem inEvent_held : (inEvent work s).held = (work s).held := by
  rcases inEvent_cases work s with ⟨-, e⟩ | ⟨-, -, e⟩ <;> simp [e]

@[simp] theorem inEvent_fs : (inEvent work s).fs = (work s).fs := by
  rcases inEvent_cases work s with ⟨-, e⟩ | ⟨-, -, e⟩ <;> simp [e]

@[simp] theorem inEvent_siu : (inEvent work s).siu = (work s).siu := by
  rcases inEvent_cases work s with ⟨-, e⟩ | ⟨-, -, e⟩ <;> simp [e]

@[simp] theorem inEvent_ae : (inEvent work s).ae = (work s).ae := by
  rcases inEvent_cases work s with ⟨-, e⟩ | ⟨-, -, e⟩ <;> simp [e]

@[simp] theorem inEvent_bd : (inEvent work s).bd = (work s).bd := by
  rcases inEvent_cases work s with ⟨-, e⟩ | ⟨-, -, e⟩ <;> simp [e]

@[simp] theorem inEvent_mu : (inEvent work s).mu = (work s).mu := by
  rcases inEvent_cases work s with ⟨-, e⟩ | ⟨-, -, e⟩ <;> simp [e]

@[simp] theorem inEvent_rq : (inEvent work s).rq = (work s).rq := by
  rcases inEvent_cases work s with ⟨-, e⟩ | ⟨-, -, e⟩ <;> simp [e]

@[simp] theorem inEvent_pending : (inEvent work s).pending = (work s).pending := by
  rcases inEvent_cases work s with ⟨-, e⟩ | ⟨-, -, e⟩ <;> simp [e]

@[simp] theorem inEvent_li_down : (inEvent work s).li.down = (work s).li.down := by
  rcases inEvent_cases work s with ⟨-, e⟩ | ⟨-, -, e⟩ <;> simp [e]

/-- An event changes nothing but the Up queue and its drops beside its work. -/
theorem inEvent_after : (work s).changesOnly (inEvent work s) {.queue .up, .drops .up} := by
  rcases inEvent_cases work s with ⟨-, e⟩ | ⟨-, -, e⟩ <;> rw [e]
  · exact State.changesOnly_refl _ _
  · exact State.sendStatus_frame _

@[simp] theorem inEvent_line (p : Port) :
    ((inEvent work s).port p).counters.line = ((work s).port p).counters.line :=
  inEvent_after work s (.counters p) (by simp)

@[simp] theorem inEvent_sending (p : Port) : ((inEvent work s).port p).sending = ((work s).port p).sending :=
  inEvent_after work s (.sending p) (by simp)

@[simp] theorem inEvent_waiting (p : Port) : ((inEvent work s).port p).waiting = ((work s).port p).waiting :=
  inEvent_after work s (.waiting p) (by simp)

end

section
variable {c : Instr} {work : State → State} {s : State}

/-- A running part does the work of a command as one event. -/
theorem exec_powered (hc : workOf c = some work) (hp : s.powered = true) : exec c s = .next (inEvent work s) := by
  rw [exec_of_workOf hc, takeEvent_powered work hp]

/-- A work that leaves the unmasked pending set is all that its event does. -/
theorem exec_quiet (hc : workOf c = some work) (hp : s.powered = true) (hu : (work s).unmasked = s.unmasked) :
    exec c s = .next (work s) := by
  rw [exec_powered hc hp, inEvent_of_unmasked hu]

end

/-! ### The step (O1, O2) -/

/-- Settles O1: both clauses are the two branches of `step`. -/
theorem stepTakesTheFrontCommand : Obligations.StepTakesTheFrontCommand := by
  unfold Obligations.StepTakesTheFrontCommand
  refine ⟨fun c cs s => rfl, fun s h => ?_⟩
  rw [step, h]

/-- No work touches the command queue. -/
theorem commands_not_mem_workParts {c : Instr} {work : State → State} (hc : workOf c = some work) :
    Part.commands ∉ workParts c := by
  cases c with
  | warmRestart | supplyLoss | coldReset => cases hc
  | _ =>
    simp [workParts, writtenParts, answeredParts, counterParts, passParts, publishedParts, canopyParts, demandParts,
      finalisedParts, siteParts, inputParts, staleParts, timerParts, releasedParts]

/-- Settles O2: every command is an event, a restart or a reset, and no part that one of them changes is the command queue. -/
theorem everyCommandCompletes : Obligations.EveryCommandCompletes := by
  unfold Obligations.EveryCommandCompletes
  intro c s
  cases hw : workOf c with
  | some work =>
    rw [exec_of_workOf hw]
    refine ⟨_, rfl, ?_⟩
    split
    · rw [inEvent_pending]
      exact workOf_frame hw s .commands (commands_not_mem_workParts hw)
    · rfl
  | none =>
    cases c with
    | warmRestart cause high low =>
      refine ⟨_, rfl, ?_⟩
      split
      · rw [inEvent_pending]
        simp [State.warmWork, State.restartReceipts, State.restartCanopy, State.restartBattery, State.restartAlloc,
          State.restartSiu, State.restartSessions, State.restartLine, State.restartManage, State.clearPending]
      · rfl
    | supplyLoss => exact ⟨_, rfl, rfl⟩
    | coldReset strap1 strap2 high low =>
      refine ⟨_, rfl, ?_⟩
      split
      · rfl
      · rw [inEvent_pending]
        exact State.coldPins_frame (s.coldStart strap1 strap2) high low .commands (by simp [inputParts])
    | _ => cases hw

/-! ### Transmission (O21) -/

theorem State.endTransmission_eq {s : State} {p : Port} {q : Queued} (h : (s.port p).sending = some q) :
    s.endTransmission p = (s.setPort p { s.port p with sending := none }).answerSent q := by
  simp only [State.endTransmission, h]

@[simp] theorem State.answerSent_port (s : State) (q : Queued) (p : Port) : (s.answerSent q).port p = s.port p := by
  unfold State.answerSent
  split <;> rfl

theorem State.answerSent_restart (s : State) (q : Queued) : (s.answerSent q).mr.restart =
    if q.origin = .restartAnswer ∧ s.mr.restart = .answering then .due else s.mr.restart := by
  unfold State.answerSent
  split <;> rfl

theorem State.answerSent_unmasked (s : State) (q : Queued) : (s.answerSent q).unmasked = s.unmasked := by
  unfold State.answerSent
  split <;> rfl

/-- Settles O21, on the equations of the three commands. -/
theorem transmission : Obligations.Transmission := by
  unfold Obligations.Transmission
  refine fun s p hp => ⟨fun q rest hidle hqueue => ?start, fun q hsending => ?stop, fun _ => ?ready⟩
  case start =>
    have hwork : s.startTransmission p = s.setPort p { s.port p with sending := some q, queue := rest } := by
      simp only [State.startTransmission, hidle, hqueue]
    refine ⟨s.startTransmission p, exec_quiet (c := .transmitStart p) rfl hp (by simp [hwork, State.unmasked]), ?_, ?_,
      s.startTransmission_frame p⟩ <;> simp [hwork]
  case stop =>
    have hwork := State.endTransmission_eq hsending
    have frame := workOf_frame (c := .frameTransmitEnd p) rfl s
    refine ⟨s.endTransmission p, exec_quiet (c := .frameTransmitEnd p) rfl hp ?_, ?_, ?_, frame⟩
    · rw [hwork, State.answerSent_unmasked]
      simp [State.unmasked]
    · rw [hwork]
      simp
    · rw [hwork, State.answerSent_restart]
      simp
  case ready =>
    exact ⟨s.receiverReady p, exec_quiet (c := .receiverIdlePeriod p) rfl hp (by simp [State.receiverReady, State.unmasked]),
      by simp [State.receiverReady], workOf_frame (c := .receiverIdlePeriod p) rfl s⟩

/-! ### Frames on the line (O4) -/

/-- A low byte passes the eight shifts of the CRC register unchanged, into the high byte (R148). -/
theorem crcShift_low {c : BitVec 16} (h : c.toNat < 256) : crcShift^[8] c = c <<< 8 := by
  have step (k : Nat) (hk : k ≤ 8) : crcShift^[k] c = c <<< k := by
    induction k with
    | zero => simp
    | succ k ih =>
      have hclear : (c <<< k).msb = false := by
        rw [BitVec.msb_eq_decide, decide_eq_false_iff_not, BitVec.toNat_shiftLeft, Nat.shiftLeft_eq]
        have hpow : 2 ^ k ≤ 2 ^ 7 := Nat.pow_le_pow_right (by omega) (by omega)
        have hprod : c.toNat * 2 ^ k ≤ 255 * 2 ^ 7 := Nat.mul_le_mul (by omega) hpow
        have hmod := Nat.mod_le (c.toNat * 2 ^ k) (2 ^ 16)
        omega
      rw [Function.iterate_succ_apply', ih (by omega), crcShift, hclear, ← BitVec.shiftLeft_add]
      simp
  exact step 8 le_rfl

/-- The low byte of the register. -/
def crcLow (c : BitVec 16) : BitVec 16 := (c.setWidth 8).setWidth 16

theorem crcLow_lt (c : BitVec 16) : (crcLow c).toNat < 256 := by
  simp only [crcLow, BitVec.toNat_setWidth]
  omega

/-- The register's own high byte clears its high byte. -/
theorem xor_high (c : BitVec 16) : c ^^^ (((c >>> 8).setWidth 8).setWidth 16 <<< 8) = crcLow c := by
  ext i hi
  simp only [crcLow, BitVec.getElem_xor, BitVec.getElem_shiftLeft, BitVec.getElem_setWidth, BitVec.getLsbD_setWidth,
    BitVec.getLsbD_ushiftRight]
  by_cases h : i < 8
  · simp [h, BitVec.getLsbD_eq_getElem hi]
  · have hin : 8 + (i - 8) = i := by omega
    simp [h, hin, hi, show i - 8 < 8 by omega]

theorem field16_eq (c : BitVec 16) : field16 c = [(c >>> 8).setWidth 8, c.setWidth 8] := by
  have hhigh : BitVec.ofNat 8 (c.toNat / 256) = (c >>> 8).setWidth 8 := by
    apply BitVec.eq_of_toNat_eq
    simp [Nat.shiftRight_eq_div_pow]
  have hlow : BitVec.ofNat 8 c.toNat = c.setWidth 8 := rfl
  simp only [field16, bytesOf]
  simp [← hhigh, hlow]

/-- The register is empty after its own two bytes, the high byte first (R148). -/
theorem crcByte_own (c : BitVec 16) : (field16 c).foldl crcByte c = 0 := by
  have hzero : crcShift^[8] 0#16 = 0 := by
    rw [crcShift_low (by simp)]
    simp
  rw [field16_eq, List.foldl_cons, List.foldl_cons, List.foldl_nil, crcByte, crcByte, xor_high, crcShift_low (crcLow_lt c)]
  simp only [crcLow, BitVec.xor_self]
  exact hzero

/-- What is judged good: four header bytes, as many as the last of them says, and the CRC of all these. -/
theorem judge_good_iff (r : Reception) (f : Frame) :
    judge r = .good f ↔ r = received f ∧ f.payload.length ≤ 96 := by
  constructor
  · obtain ⟨bytes, stopped⟩ := r
    intro h
    unfold judge at h
    split at h
    next dest source kind len rest hbytes =>
      change bytes = _ at hbytes
      split at h
      · cases h
      next hlen =>
        split at h
        · cases h
        next hwhole =>
          dsimp only at h
          split at h
          next hcrc =>
            obtain rfl : (⟨dest, source, kind, rest.take len.toNat⟩ : Frame) = f := by simpa using h
            simp only [not_or, Bool.not_eq_false, not_not] at hwhole
            obtain ⟨hstopped, hcount⟩ := hwhole
            subst hbytes
            have htake : (rest.take len.toNat).length = len.toNat := by
              simp only [List.length_cons] at hcount
              rw [List.length_take]
              omega
            refine ⟨?_, by simpa [htake] using hlen⟩
            have hself : BitVec.ofNat 8 (rest.take len.toNat).length = len := by rw [htake]; simp
            simp only [received, frameBytes, frameBody, hself, Reception.mk.injEq]
            refine ⟨?_, hstopped⟩
            rw [← hcrc]
            simp
          next => cases h
    next => cases h
  · rintro ⟨rfl, h⟩
    have hgood := goodFrame_received h
    unfold goodFrame at hgood
    split at hgood
    next hj => rw [hj, Option.some.inj hgood]
    next => cases hgood

/-- Settles O4: the CRC behind a frame's bytes is the register itself, which its own two bytes empty. -/
theorem goodFramesAreThoseSent : Obligations.GoodFramesAreThoseSent := by
  unfold Obligations.GoodFramesAreThoseSent
  refine ⟨judge_good_iff, fun f => ?_⟩
  rw [frameBytes, crc, List.foldl_append]
  exact crcByte_own (crc (frameBody f))

/-! ### Frames that are not good (O5) -/

theorem dropFrame_eq {s : State} {p : Port} {r : Reception} (hw : (s.port p).waiting = false) (hr : r.bytes ≠ [])
    (hv : ∀ f, judge r ≠ .good f) : s.dropFrame p r = (s.modCounters p (judge r).count).raise .lineError := by
  have hopen : ¬((s.port p).waiting = true ∨ r.bytes = []) := by simp [hw, hr]
  rw [State.dropFrame, if_neg hopen]
  split
  next f hf => exact absurd hf (hv f)
  next => rfl

theorem judge_oversize_iff (r : Reception) : judge r = .oversize ↔ ∃ n, r.bytes[3]? = some n ∧ 96 < n.toNat := by
  unfold judge
  split
  next hbytes =>
    split
    next hlen => simp [hbytes, hlen]
    next hlen =>
      have hnot : ∀ v : Verdict, v ≠ .oversize → (v = .oversize ↔ ∃ n, r.bytes[3]? = some n ∧ 96 < n.toNat) := by
        intro v hv
        simp [hbytes, hv, hlen]
      split
      · exact hnot _ (by simp)
      · dsimp only
        split
        · exact hnot _ (by simp)
        · exact hnot _ (by simp)
  next hshort =>
    have hfew : r.bytes[3]? = none := by
      rw [List.getElem?_eq_none_iff]
      by_contra hmany
      match hb : r.bytes with
      | [] | [_] | [_, _] | [_, _, _] => simp [hb] at hmany
      | a :: b :: c :: d :: l => exact hshort a b c d l hb
    simp [hfew]

theorem judge_fragment_iff (r : Reception) : judge r = .fragment ↔ (∀ n, r.bytes[3]? = some n → n.toNat ≤ 96) ∧
    (r.stopped = false ∨ r.bytes.length < 6 ∨ ∀ n, r.bytes[3]? = some n → r.bytes.length ≠ 6 + n.toNat) := by
  unfold judge
  split
  next dest source kind len rest hbytes =>
    have hat : r.bytes[3]? = some len := by rw [hbytes]; rfl
    simp only [hat, Option.some.injEq, forall_eq']
    split
    next hlen => simp; omega
    next hlen =>
      split
      next hcut =>
        simp only [true_iff]
        exact ⟨by omega, hcut.imp_right .inr⟩
      next hcut =>
        have hwhole : ¬(r.stopped = false ∨ r.bytes.length < 6 ∨ r.bytes.length ≠ 6 + len.toNat) := by
          intro h
          rcases h with h | h | h
          · exact hcut (.inl h)
          · exact hcut (.inr (by omega))
          · exact hcut (.inr h)
        split <;> simp [hwhole]
  next hshort =>
    have hfew : r.bytes.length ≤ 3 := by
      by_contra hmany
      match hb : r.bytes with
      | [] | [_] | [_, _] | [_, _, _] => simp [hb] at hmany
      | a :: b :: c :: d :: l => exact hshort a b c d l hb
    have hnone : r.bytes[3]? = none := List.getElem?_eq_none_iff.mpr hfew
    simp [hnone]

/-- Settles O5: `judge` takes the rows of R147 in order, and a dropped frame is counted by its own row. -/
theorem badFrameIsCounted : Obligations.BadFrameIsCounted := by
  unfold Obligations.BadFrameIsCounted
  rintro s p r v hp hw hr rfl hv
  refine ⟨judge_oversize_iff r, judge_fragment_iff r, _, exec_powered (c := .frameError p r) rfl hp, ?_, ?_, ?_⟩
  · rw [inEvent_line]
    rw [dropFrame_eq hw hr hv]
    have hport : ((s.modCounters p (judge r).count).raise .lineError).port p = (s.modCounters p (judge r).count).port p := by
      cases p <;> rfl
    rw [hport, State.modCounters_counters]
    cases judge r <;> rfl
  · rw [inEvent_isPending]
    rw [dropFrame_eq hw hr hv]
    exact State.isPending_raise _ _
  · exact State.changesOnly_mono (inEvent_frame (s.dropFrame_frame p r)) (by simp [raisedParts, Set.insert_subset_iff])

end Sys2Proof.Machine
end

section
/-! Frames received from the line: forwarding, screening and the own address (O6, O14 to O20, O22). -/

namespace Sys2Proof.Machine

/-! ### The state in which a frame is handled -/

section
variable (s : State) (p : Port)

@[simp] theorem State.countReceived_own : (s.countReceived p).own = s.own := by simp [State.own]

@[simp] theorem State.countReceived_stationOf (a : Byte) : (s.countReceived p).stationOf a = s.stationOf a := by
  simp [State.stationOf, State.findStation]

@[simp] theorem State.countReceived_received :
    ((s.countReceived p).port p).counters.received = bump (s.port p).counters.received := by
  simp [State.countReceived]

@[simp] theorem State.countReceived_queue (r : Port) : ((s.countReceived p).port r).queue = (s.port r).queue := by
  simp [State.countReceived]

@[simp] theorem State.countReceived_drop (r : Port) :
    ((s.countReceived p).port r).counters.drop = (s.port r).counters.drop := by
  cases p <;> cases r <;> rfl

variable {s p}

/-- An append behind the count of the frame is one behind the state before it. -/
theorem State.appends_of_received {t : State} {r : Port} {q : Queued} (h : (s.countReceived p).appends t r q) :
    s.appends t r q := State.appends_of_same (by simp [State.same]) (by simp [State.same]) h

/-- The frame of a handled reception, with the count of the frame. -/
theorem State.changesOnly_received {t : State} {a b : Set Part} (h : (s.countReceived p).changesOnly t a)
    (hp : Part.counters p ∈ b) (ha : a ⊆ b) : s.changesOnly t b :=
  State.changesOnly_seq (s.countReceived_frame p) h (by simpa using hp) ha

end

/-- A forwarded frame is appended, or dropped and counted (R157). -/
theorem State.forward_appends (s : State) (p : Port) (f : Frame) : s.appends (s.forward p f) p ⟨f, .forwarded⟩ :=
  s.offer_appends p fun _ => rfl

/-- An answer is appended, or dropped and counted (R164). -/
theorem State.answer_appends (s : State) (dest : Byte) (payload : List Byte) :
    s.appends (s.answer dest payload) .up ⟨⟨dest, s.own, kindManageAnswer, payload⟩, .manageAnswer⟩ :=
  s.offer_appends .up fun _ => rfl

/-! ### Own frames and the management queue (O20, O14) -/

section
variable {s : State} {p : Port} {f : Frame}

theorem frameRow_ownSource (h : f.source = s.own) : s.frameRow p f = .ownSourceDiscard := by
  cases p <;> simp [State.frameRow, State.downRow, State.upRow, h]

theorem frameRow_ownAddress (hsrc : f.source ≠ s.own) (hdest : f.dest = s.own)
    (h : p = .down ∨ (f.kind ≠ kindManage ∧ f.kind ≠ kindLink)) : s.frameRow p f = .ownAddressDrop := by
  cases p with
  | down => simp [State.frameRow, State.downRow, hsrc, hdest]
  | up =>
    obtain ⟨hmanage, hlink⟩ : f.kind ≠ kindManage ∧ f.kind ≠ kindLink := by simpa using h
    simp [State.frameRow, State.upRow, hsrc, hdest, hmanage, hlink]

theorem frameRow_link (hsrc : f.source ≠ s.own) (hdest : f.dest = s.own) (h : f.kind = kindLink) :
    s.frameRow .up f = .linkFrame := by
  simp [State.frameRow, State.upRow, hsrc, hdest, h, kindLink, kindManage]

theorem frameRow_manage (hsrc : f.source ≠ s.own) (hdest : f.dest = s.own) (h : f.kind = kindManage) :
    s.frameRow .up f = .manageFrame := by
  simp [State.frameRow, State.upRow, hsrc, hdest, h]

end

/-- Settles O20: the three rows count the frame, the last two the drop. -/
theorem ownFramesAreAbsorbed : Obligations.OwnFramesAreAbsorbed := by
  unfold Obligations.OwnFramesAreAbsorbed
  refine fun s p f hears => ⟨fun hsrc => ?source, fun hsrc hdest hkind => ?address, fun hsrc hdest hp hkind hlen => ?link⟩
  case source =>
    exact ⟨_, takeEvent_receive (work := fun _ => id) hears (frameRow_ownSource hsrc) (by simp), by simp,
      State.changesOnly_received (State.changesOnly_refl _ ∅) (by simp) (by simp)⟩
  case address =>
    refine ⟨_, takeEvent_receive (work := fun _ => State.countOwnDrop) hears (frameRow_ownAddress hsrc hdest hkind)
      (by simp [State.countOwnDrop]), by simp [State.countOwnDrop], ?_,
      State.changesOnly_received (State.countOwnDrop_frame _) (by simp) (by simp)⟩
    exact s.countReceived_received p
  case link =>
    subst hp
    have hwork : State.linkFrame f (s.countReceived .up) = (s.countReceived .up).countOwnDrop := if_pos hlen
    refine ⟨_, takeEvent_receive (work := State.linkFrame) hears (frameRow_link hsrc hdest hkind) (by simp), ?_, ?_, ?_⟩ <;>
      rw [hwork]
    · simp [State.countOwnDrop]
    · exact s.countReceived_received .up
    · exact State.changesOnly_received (State.countOwnDrop_frame _) (by simp) (by simp)

/-- Settles O14: the two branches of `manageFrame`. -/
theorem manageIsQueued : Obligations.ManageIsQueued := by
  unfold Obligations.ManageIsQueued
  intro s f hears hsrc hdest hkind
  obtain ⟨hpow, hwait, hlen⟩ := hears
  have hrow := frameRow_manage hsrc hdest hkind
  have hunmasked : (State.manageFrame f (s.countReceived .up)).unmasked = s.unmasked := by
    unfold State.manageFrame
    split <;> simp [State.unmasked]
  have hreceive : s.receive .up .manageFrame (received f) State.manageFrame = State.manageFrame f (s.countReceived .up) := by
    simp [State.receive, hwait, goodFrame_received hlen, hrow]
  refine ⟨State.manageFrame f (s.countReceived .up), ?_, fun hroom => ?_, fun hfull => ?_⟩
  · rw [exec_quiet (c := .manageFrame (received f)) rfl hpow (by rw [hreceive, hunmasked]), hreceive]
  · have hwork : State.manageFrame f (s.countReceived .up) =
        { s.countReceived .up with mr.requests := s.mr.requests ++ [⟨f.source, f.payload⟩] } := by
      simp [State.manageFrame, hroom]
    rw [hwork]
    exact ⟨rfl, State.changesOnly_received (State.setRequests_frame _ _) (by simp) (by simp)⟩
  · have hwork : State.manageFrame f (s.countReceived .up) =
        (s.countReceived .up).answer f.source (answerHead f.payload .busy) := by
      simp [State.manageFrame, Nat.not_lt.mpr hfull]
    rw [hwork]
    refine ⟨State.appends_of_received (p := .up) ?_, State.changesOnly_received (State.answer_frame _ _ _) (by simp) (by simp)⟩
    simpa [answerHead, requestTag, requestOp, Status.code] using
      (s.countReceived .up).answer_appends f.source (answerHead f.payload .busy)

/-! ### Forwarding down (O19) -/

section
variable {s : State} {f : Frame}

theorem screenedKind_iff {kind : Byte} : screenedKind kind = true ↔ kind = kindLimit ∨ kind = kindGrant := by
  simp [screenedKind]

theorem frameRow_forwardDown (hsrc : f.source ≠ s.own) (hdest : f.dest ≠ s.own)
    (h : screenedKind f.kind = false ∨ s.stationOf f.dest = none) : s.frameRow .up f = .forwardDown := by
  rcases h with h | h <;> simp [State.frameRow, State.upRow, hsrc, hdest, h]

theorem frameRow_screened (hsrc : f.source ≠ s.own) (hdest : f.dest ≠ s.own) (hkind : f.kind = kindLimit ∨ f.kind = kindGrant)
    {x : Position × Station} (h : s.stationOf f.dest = some x) : s.frameRow .up f = .upLimitScreen := by
  simp [State.frameRow, State.upRow, hsrc, hdest, h, screenedKind_iff.mpr hkind]

end

/-- Settles O19: the broadcast is matched by no entry, and the other frames of this row are forwarded as they are. -/
theorem unscreenedFrameGoesDown : Obligations.UnscreenedFrameGoesDown := by
  unfold Obligations.UnscreenedFrameGoesDown
  refine fun s f hears hsrc hdest => ⟨fun hall hkind => ?broadcast, fun h => ?down⟩
  case broadcast =>
    have hnone : s.stationOf f.dest = none := by simp [State.stationOf, hall, broadcast]
    have hwork : State.forwardDownFrame f (s.countReceived .up) = (s.countReceived .up).countClamp :=
      if_pos ⟨hall, screenedKind_iff.mpr hkind⟩
    refine ⟨_, takeEvent_receive (work := State.forwardDownFrame) hears (frameRow_forwardDown hsrc hdest (.inr hnone))
      (by rw [hwork]; simp [State.countClamp]), ?_, ?_⟩ <;> rw [hwork]
    · simp [State.countClamp]
    · exact State.changesOnly_received (State.countClamp_frame _) (by simp) (by simp)
  case down =>
    have hpass : ¬(f.dest = broadcast ∧ screenedKind f.kind = true) := by
      rintro ⟨hall, hkind⟩
      rw [screenedKind_iff] at hkind
      rcases h with ⟨hl, hg⟩ | ⟨hne, -⟩
      · exact hkind.elim hl hg
      · exact hne hall
    have hwork : State.forwardDownFrame f (s.countReceived .up) = (s.countReceived .up).forward .down f := if_neg hpass
    have hrow : s.frameRow .up f = .forwardDown := frameRow_forwardDown hsrc hdest (by
      rcases h with ⟨hl, hg⟩ | ⟨-, hnone⟩
      · exact .inl (by simp [screenedKind, hl, hg])
      · exact .inr hnone)
    refine ⟨_, takeEvent_receive (work := State.forwardDownFrame) hears hrow (by rw [hwork]; simp), ?_, ?_⟩ <;> rw [hwork]
    · exact State.appends_of_received (State.forward_appends _ _ _)
    · exact State.changesOnly_received (State.forward_frame _ .down f) (by simp) (by simp)

/-! ### Forwarding up (O18, O6) -/

section
variable {s : State} {f : Frame} {pos : Position} {e : Station}

theorem frameRow_tap (hsrc : f.source ≠ s.own) (hdest : f.dest ≠ s.own) (h : s.stationOf f.source = some (pos, e)) :
    s.frameRow .down f = tapRow e.role f.kind := by
  simp [State.frameRow, State.downRow, hsrc, hdest, h]

theorem frameRow_unknown (hsrc : f.source ≠ s.own) (hdest : f.dest ≠ s.own) (h : s.stationOf f.source = none) :
    s.frameRow .down f = .forwardUp := by
  simp [State.frameRow, State.downRow, hsrc, hdest, h]

theorem tapRow_sample {role : Role} (h : role.measures = true) : tapRow role kindSample = .sampleFrame := by
  cases role <;> simp_all [tapRow, Role.measures]

theorem tapRow_demand {role : Role} (h : role.measures = false) : tapRow role kindDemand = .demandFrame := by
  cases role <;> simp_all [tapRow, Role.measures]

theorem tapRow_untapped {role : Role} {kind : Byte} (hsample : kind = kindSample → role.measures = false)
    (hdemand : kind = kindDemand → role.measures = true) : tapRow role kind = .forwardUp := by
  have hne : kindSample ≠ kindDemand := by decide
  cases role <;> simp_all [tapRow, Role.measures]

theorem State.forwardSample_counts (s : State) (pos : Position) (e : Station) (f : Frame) :
    (s.forwardSample pos e f).fs.counts[pos] = (s.fs.counts[pos] + 1) % e.divider := by
  unfold State.forwardSample
  dsimp only
  split <;> simp

/-- A SAMPLE is forwarded where the forward count is 0 (R154). -/
theorem State.forwardSample_appends (h : s.fs.counts[pos] = 0) : s.appends (s.forwardSample pos e f) .up ⟨f, .forwarded⟩ := by
  have hcount : State.forwardSample s pos e f =
      State.forward { s with fs.counts := s.fs.counts.set pos ((s.fs.counts[pos] + 1) % e.divider) } .up f := if_pos h
  rw [hcount]
  exact State.appends_of_same (u := { s with fs.counts := s.fs.counts.set pos ((s.fs.counts[pos] + 1) % e.divider) })
    rfl rfl (State.forward_appends _ _ _)

theorem State.forwardSample_kept (h : s.fs.counts[pos] ≠ 0) : (s.forwardSample pos e f).li = s.li := by
  have hcount : State.forwardSample s pos e f =
      { s with fs.counts := s.fs.counts.set pos ((s.fs.counts[pos] + 1) % e.divider) } := if_neg h
  rw [hcount]

@[simp] theorem State.forwardSample_mr (s : State) (pos : Position) (e : Station) (f : Frame) :
    (s.forwardSample pos e f).mr = s.mr := by
  unfold State.forwardSample
  dsimp only
  split <;> simp

@[simp] theorem State.forwardSample_siu (s : State) (pos : Position) (e : Station) (f : Frame) :
    (s.forwardSample pos e f).siu = s.siu := by
  unfold State.forwardSample
  dsimp only
  split <;> simp

@[simp] theorem State.forwardSample_li_down (s : State) (pos : Position) (e : Station) (f : Frame) :
    (s.forwardSample pos e f).li.down.counters.line = s.li.down.counters.line :=
  s.forwardSample_frame pos e f (.counters .down) (by simp)

theorem readDemand_none {p : List Byte} {now : Uptime}
    (h : p.length < 16 ∨ ∃ c, p[0]? = some c ∧ 5 < c.toNat) : readDemand p now = none := by
  unfold readDemand demandLength
  rcases h with h | ⟨c, hc, hhigh⟩
  · rw [if_pos h]
  · split
    · rfl
    · cases p with
      | nil => cases hc
      | cons b rest =>
        obtain rfl : b = c := Option.some.inj hc
        have hbyte : readByte (b :: rest) 0 = b := by simp [readByte, readU_head]
        have hstate : chargerStateOf b = none := by
          unfold chargerStateOf
          split <;> first | omega | rfl
        rw [hbyte, hstate]
        rfl

end

/-- Settles O18: what no block takes is forwarded, an unknown station's frame counted, a charger's SAMPLE by its count. -/
theorem untappedFrameGoesUp : Obligations.UntappedFrameGoesUp := by
  unfold Obligations.UntappedFrameGoesUp
  refine fun s f hears hsrc hdest => ⟨fun hnone => ?unknown, fun pos e hstation =>
    ⟨fun hsample hdemand => ?untapped, fun hkind hmeasures => ?sample, fun hkind hmeasures hshort => ?demand⟩⟩
  case unknown =>
    have hcount (t : State) : t.changesOnly { t with fs.unknownStation := bump t.fs.unknownStation } {.unknownStation} := by
      intro part hp
      cases part <;> first | exact absurd rfl hp | exact ⟨rfl, rfl⟩ | exact ⟨rfl, rfl, rfl⟩ | rfl
    have hwork : State.forwardUpFrame f (s.countReceived .down) = State.forward
        { s.countReceived .down with fs.unknownStation := bump (s.countReceived .down).fs.unknownStation } .up f := by
      simp [State.forwardUpFrame, hnone]
    refine ⟨_, takeEvent_receive (work := State.forwardUpFrame) hears (frameRow_unknown hsrc hdest hnone)
      (by rw [hwork]; simp), ?_, ?_, ?_⟩ <;> rw [hwork]
    · refine State.appends_of_received (State.appends_of_same
        (u := { s.countReceived .down with fs.unknownStation := bump (s.countReceived .down).fs.unknownStation })
        rfl rfl (State.forward_appends _ _ _))
    · simp
    · exact State.changesOnly_received (State.changesOnly_trans (hcount _) (State.forward_frame _ .up f)) (by simp)
        (by simp [Set.insert_subset_iff])
  case untapped =>
    have hrow := (frameRow_tap hsrc hdest hstation).trans (tapRow_untapped (fun hk => absurd hk hsample)
      (fun hk => hdemand.resolve_left fun hne => hne hk))
    have hwork : State.forwardUpFrame f (s.countReceived .down) = (s.countReceived .down).forward .up f := by
      simp [State.forwardUpFrame, hstation, hsample]
    refine ⟨_, takeEvent_receive (work := State.forwardUpFrame) hears hrow (by rw [hwork]; simp), ?_, ?_⟩ <;> rw [hwork]
    · exact State.appends_of_received (State.forward_appends _ _ _)
    · exact State.changesOnly_received (State.forward_frame _ .up f) (by simp) (by simp)
  case sample =>
    have hrow := (frameRow_tap hsrc hdest hstation).trans (tapRow_untapped (fun _ => hmeasures)
      (fun hk => absurd (hkind.symm.trans hk) (by decide)))
    have hwork : State.forwardUpFrame f (s.countReceived .down) = (s.countReceived .down).forwardSample pos e f := by
      simp [State.forwardUpFrame, hstation, hkind]
    refine ⟨_, takeEvent_receive (work := State.forwardUpFrame) hears hrow (by rw [hwork]; simp), ?_, fun hzero => ?_,
      fun hcount => ?_, ?_⟩ <;> rw [hwork]
    · simpa using (s.countReceived .down).forwardSample_counts pos e f
    · exact State.appends_of_received (State.forwardSample_appends (by simpa using hzero))
    · rw [State.forwardSample_kept (by simpa using hcount)]
      rfl
    · exact State.changesOnly_received (State.forwardSample_frame _ pos e f) (by simp) (by simp)
  case demand =>
    have hrow : s.frameRow .down f = .demandFrame := by rw [frameRow_tap hsrc hdest hstation, hkind, tapRow_demand hmeasures]
    have hwork : State.demandFrame f (s.countReceived .down) = (s.countReceived .down).forward .up f := by
      have hread := readDemand_none (now := (s.countReceived .down).now) hshort
      cases hrole : e.role <;> simp [State.demandFrame, hstation, hrole, hread]
    refine ⟨_, takeEvent_receive (work := State.demandFrame) hears hrow (by rw [hwork]; simp), ?_, ?_⟩ <;> rw [hwork]
    · exact State.appends_of_received (State.forward_appends _ _ _)
    · exact State.changesOnly_received (State.forward_frame _ .up f) (by simp) (by simp)

section
variable {s : State} {f : Frame} {pos : Position} {e : Station}

/-- What O6 says of the forward count and of the frame, for a tap that changed neither line nor count. -/
theorem sampleForwarded {t : State} (hcount : t.fs = s.fs) (hli : t.li = (s.countReceived .down).li) :
    (t.forwardSample pos e f).fs.counts[pos] = (s.fs.counts[pos] + 1) % e.divider ∧
      (if s.fs.counts[pos] = 0 then s.appends (t.forwardSample pos e f) .up ⟨f, .forwarded⟩
        else (t.forwardSample pos e f).li.up.queue = s.li.up.queue ∧
          (t.forwardSample pos e f).li.up.counters.drop = s.li.up.counters.drop) ∧
      (t.forwardSample pos e f).li.down.counters.received = bump s.li.down.counters.received := by
  have hup : t.li.up = s.li.up := by rw [hli]; rfl
  refine ⟨by rw [State.forwardSample_counts, hcount], ?_, ?_⟩
  · split
    next hzero =>
      refine State.appends_of_same (u := t) ?_ ?_ (State.forwardSample_appends (by rw [hcount]; exact hzero))
      · simp [State.same, State.port, hup]
      · simp [State.same, State.port, hup]
    next hcounting =>
      rw [State.forwardSample_kept (by rw [hcount]; exact hcounting), hup]
      exact ⟨rfl, rfl⟩
  · have hline := t.forwardSample_li_down pos e f
    rw [hli] at hline
    exact congrArg Prod.fst hline

theorem State.tapSample_taken {role : Role} {payload : List Byte} {r : MeasRecord} {v : Values} (hrole : role ≠ .battery)
    (hr : s.siu.records[pos] = some r) (hv : readSample role payload = some v) :
    s.tapSample pos role payload = s.setRecord pos (some { r with values := some v, age := 0, reported := false }) := by
  simp [State.tapSample, hr, hv, hrole]

theorem State.tapSample_short {role : Role} {payload : List Byte} (h : Claims.shortSample role payload) :
    s.tapSample pos role payload = s ∧ role.measures = true := by
  have hnone : readSample role payload = none ∧ role.measures = true := by
    rcases h with ⟨rfl, h⟩ | ⟨rfl, h⟩ | ⟨⟨j, rfl⟩, h⟩ | ⟨rfl, h⟩ <;> exact ⟨if_pos h, rfl⟩
  exact ⟨by simp [State.tapSample, hnone.1], hnone.2⟩

theorem State.sampleFrame_eq (h : s.stationOf f.source = some (pos, e)) :
    State.sampleFrame f s = (s.tapSample pos e.role f.payload).forwardSample pos e f := by
  simp [State.sampleFrame, h]

end

/-- Settles O6: the tap sets one record or nothing, and the frame then goes by its forward count. -/
theorem sampleIsTapped : Obligations.SampleIsTapped := by
  unfold Obligations.SampleIsTapped
  refine ⟨fun s f pos e r v hears hsrc hdest hkind hstation hmeasures hbattery hr hv => ?_,
    fun s f pos e hears hsrc hdest hkind hstation hshort => ?_⟩
  · have hrow : s.frameRow .down f = .sampleFrame := by rw [frameRow_tap hsrc hdest hstation, hkind, tapRow_sample hmeasures]
    have htap := State.tapSample_taken (s := s.countReceived .down) (pos := pos) hbattery (by simpa using hr) hv
    have hwork := State.sampleFrame_eq (s := s.countReceived .down) (f := f) (by simpa using hstation)
    rw [htap] at hwork
    obtain ⟨hcounts, happends, hreceived⟩ := sampleForwarded (s := s) (f := f) (pos := pos) (e := e)
      (t := (s.countReceived .down).setRecord pos (some { r with values := some v, age := 0, reported := false }))
      (by simp) rfl
    refine ⟨_, takeEvent_receive (work := State.sampleFrame) hears hrow (by rw [hwork]; simp), ?_⟩
    rw [hwork]
    refine ⟨?_, hcounts, happends, hreceived, ?_⟩
    · rw [State.forwardSample_siu]
      exact State.setRecord_record _ pos _
    exact State.changesOnly_received (State.changesOnly_trans (State.setRecord_frame _ pos _)
      (State.forwardSample_frame _ pos e f)) (by simp) (by simp [Set.insert_subset_iff])
  · obtain ⟨htap, hmeasures⟩ := State.tapSample_short (s := s.countReceived .down) (pos := pos) hshort
    have hrow : s.frameRow .down f = .sampleFrame := by rw [frameRow_tap hsrc hdest hstation, hkind, tapRow_sample hmeasures]
    have hwork := State.sampleFrame_eq (s := s.countReceived .down) (f := f) (by simpa using hstation)
    rw [htap] at hwork
    obtain ⟨hcounts, happends, hreceived⟩ := sampleForwarded (s := s) (f := f) (pos := pos) (e := e)
      (t := s.countReceived .down) (by simp) rfl
    refine ⟨_, takeEvent_receive (work := State.sampleFrame) hears hrow (by rw [hwork]; simp), ?_⟩
    rw [hwork]
    refine ⟨hcounts, happends, hreceived, ?_⟩
    exact State.changesOnly_received (State.forwardSample_frame _ pos e f) (by simp) (by simp)

end Sys2Proof.Machine
end

section
/-! Signed fields, the offer rule, and the screening of LIMIT and GRANT from the site computer (O22, O15, O16, O17). -/

namespace Sys2Proof.Machine

/-! ### Signed fields (R179) -/

/-- A signed figure that its field can carry. -/
def fitsI (w : Nat) (z : Int) : Prop := -(128 * 256 ^ (w - 1)) ≤ z ∧ z < 128 * 256 ^ (w - 1)

/-- A figure within half a modulus comes back from its remainder (R179). -/
theorem signed_emod {z : Int} {half : Nat} (hlow : -(half : Int) ≤ z) (hhigh : z < half) :
    (z % (2 * half : Nat)).toNat < 2 * half ∧
      (if (z % (2 * half : Nat)).toNat < half then ((z % (2 * half : Nat)).toNat : Int)
        else ((z % (2 * half : Nat)).toNat : Int) - (2 * half : Nat)) = z := by
  rcases le_or_gt 0 z with hz | hz
  · have hmod : z % (2 * half : Nat) = z := Int.emod_eq_of_lt hz (by omega)
    rw [hmod]
    exact ⟨by omega, by rw [if_pos (by omega)]; omega⟩
  · have hmod : z % (2 * half : Nat) = z + (2 * half : Nat) := by
      rw [← Int.add_emod_right, Int.emod_eq_of_lt (by omega) (by omega)]
    rw [hmod]
    exact ⟨by omega, by rw [if_neg (by omega)]; omega⟩

theorem readI_fieldI (front back : List Byte) {w : Nat} {z : Int} (hw : 0 < w) (h : fitsI w z) :
    readI (front ++ (fieldI w z ++ back)) front.length w = z := by
  obtain ⟨k, rfl⟩ := Nat.exists_eq_succ_of_ne_zero hw.ne'
  obtain ⟨hlow, hhigh⟩ := h
  have hfield : fieldI (k + 1) z = bytesOf (k + 1) (z % 256 ^ (k + 1)).toNat := if_pos ⟨hlow, hhigh⟩
  have hnat : (256 : Nat) ^ (k + 1) = 2 * (128 * 256 ^ k) := by ring
  have hint : (256 : Int) ^ (k + 1) = (2 * (128 * 256 ^ k) : Nat) := by push_cast; ring
  have hcast : (128 * 256 ^ k : Int) = (128 * 256 ^ k : Nat) := by push_cast; ring
  simp only [Nat.succ_eq_add_one, Nat.add_sub_cancel, hcast] at hlow hhigh
  obtain ⟨hlt, hback⟩ := signed_emod hlow hhigh
  rw [← hint] at hlt hback
  have hread := readU_bytesOf front back (hnat ▸ hlt)
  rw [hfield, readI, hread]
  exact hback

/-- What a signed field reads is a figure that it can carry. -/
theorem readI_fits (p : List Byte) (off : Nat) {w : Nat} (hw : 0 < w) : fitsI w (readI p off w) := by
  obtain ⟨k, rfl⟩ := Nat.exists_eq_succ_of_ne_zero hw.ne'
  have hlt := readU_lt p off (k + 1)
  have hnat : (256 : Nat) ^ (k + 1) = 2 * (128 * 256 ^ k) := by ring
  have hpow : (256 : Int) ^ (k + 1) = 2 * (128 * 256 ^ k) := by ring
  have hcast : ((128 * 256 ^ k : Nat) : Int) = 128 * 256 ^ k := by push_cast; ring
  simp only [fitsI, readI, Nat.succ_eq_add_one, Nat.add_sub_cancel]
  rw [hpow, ← hcast]
  generalize 128 * 256 ^ k = half at *
  split <;> omega

/-! ### The offer rule (O22) -/

section
variable {s : State} {p : Port} {q : Queued}

theorem State.offer_room (h : ∀ x ∈ (s.port p).queue, replaces q x = false) (hroom : (s.port p).queue.length < queueSize) :
    s.offer p q = (s.setQueue p ((s.port p).queue ++ [q]), true) := by
  unfold State.offer
  rcases enqueue_cases (s.port p).queue q with ⟨_, old, _, hq, -, ho, -⟩ | ⟨-, ⟨-, he⟩ | ⟨hl, -⟩⟩
  · rw [h old (by rw [hq]; simp)] at ho
    cases ho
  · rw [he]
  · exact absurd hroom (Nat.not_lt.mpr hl)

theorem State.offer_full (h : ∀ x ∈ (s.port p).queue, replaces q x = false) (hfull : queueSize ≤ (s.port p).queue.length) :
    s.offer p q = (s.countDrops p 1, false) := by
  unfold State.offer
  rcases enqueue_cases (s.port p).queue q with ⟨_, old, _, hq, -, ho, -⟩ | ⟨-, ⟨hl, -⟩ | ⟨-, he⟩⟩
  · rw [h old (by rw [hq]; simp)] at ho
    cases ho
  · exact absurd hl (Nat.not_lt.mpr hfull)
  · rw [he]

theorem enqueue_replaced {front back : List Queued} {old : Queued} (hfront : ∀ x ∈ front, replaces q x = false)
    (hold : replaces q old = true) : enqueue (front ++ old :: back) q = some (front ++ q :: back) := by
  have hreplaced : replaceIn q (front ++ old :: back) = some (front ++ q :: back) := by
    induction front with
    | nil => simp [replaceIn, hold]
    | cons x front ih =>
      have hx : replaces q x = false := hfront x (by simp)
      simp [replaceIn, hx, ih fun y hy => hfront y (List.mem_cons_of_mem _ hy)]
  simp [enqueue, hreplaced]

end

/-- Settles O22: an offer is its `enqueue`, and all or none of a receipt's frames are appended. -/
theorem offerRule : Obligations.OfferRule := by
  unfold Obligations.OfferRule
  refine ⟨fun s p q => ⟨s.offer_frame p q, fun queue h => ?taken, fun h => ?dropped, fun front old back hq hfront hold => ?place,
    fun hnone => ?tail, fun x => replaces_iff q x⟩, fun s p parts => ⟨s.offerAll_frame p parts, fun hroom => ?all, fun hfull => ?none⟩⟩
  case taken => simp [State.offer, h]
  case dropped => simp [State.offer, h]
  case place =>
    have henqueue := enqueue_replaced (back := back) hfront hold
    rw [← hq] at henqueue
    simp [State.offer, henqueue]
  case tail =>
    unfold State.appends
    by_cases hroom : (s.port p).queue.length < queueSize
    · rw [State.offer_room hnone hroom]
      simp [hroom]
    · rw [State.offer_full hnone (Nat.not_lt.mp hroom)]
      simp [hroom, bump, bumpBy]
  case all => simp [State.offerAll, hroom]
  case none =>
    have hno : ¬(s.port p).queue.length + parts.length ≤ queueSize := Nat.not_le.mpr hfull
    simp [State.offerAll, hno, bumpBy]

/-! ### Held values (R155, R156, R182) -/

/-- The frame that goes down for a screened one whose value is held to `v`. -/
def heldFrame (f : Frame) (v : Int) : Frame := if v = limitValue f then f else withValue f v

theorem State.forwardHeld_eq (s : State) (f : Frame) (v : Int) : s.forwardHeld f v =
    (if v = limitValue f then s else s.countClamp).offer .down ⟨heldFrame f v, .forwarded⟩ := by
  unfold State.forwardHeld heldFrame
  split <;> rfl

/-- A held frame is the frame received but for its value. -/
theorem heldFrame_rewritten {f : Frame} {v : Int} {off w : Nat} (hfield : valueField f.kind = (off, w)) (hw : 0 < w)
    (hlen : off + w ≤ f.payload.length) (hv : fitsI w v) : Claims.rewritten f (heldFrame f v) off w v := by
  have hread : limitValue f = readI f.payload off w := by rw [limitValue, hfield]
  unfold heldFrame
  split
  next h => exact ⟨rfl, rfl, rfl, rfl, by rw [← hread, h], rfl, rfl⟩
  next h =>
    have htake : (f.payload.take off).length = off := by rw [List.length_take]; omega
    have hpayload : (withValue f v).payload = f.payload.take off ++ (fieldI w v ++ f.payload.drop (off + w)) := by
      simp only [withValue, hfield, List.append_assoc]
    have hvalue := readI_fieldI (f.payload.take off) (f.payload.drop (off + w)) hw hv
    rw [htake] at hvalue
    refine ⟨by simp [withValue], by simp [withValue], by simp [withValue], ?_, ?_, ?_, ?_⟩ <;> rw [hpayload]
    · simp only [List.length_append, htake, fieldI_length, List.length_drop]
      omega
    · exact hvalue
    · rw [List.take_append_of_le_length (by rw [htake]), List.take_of_length_le (by rw [htake])]
    · have hfront : (f.payload.take off ++ fieldI w v).length = off + w := by simp [htake]
      rw [← List.append_assoc, ← hfront, List.drop_left]

section
variable (s : State) (f : Frame) (v : Int)

theorem State.forwardHeld_appends : s.appends (s.forwardHeld f v).1 .down ⟨heldFrame f v, .forwarded⟩ := by
  rw [s.forwardHeld_eq]
  split
  · exact s.offer_appends .down fun _ => rfl
  · exact State.appends_of_same (u := s.countClamp) rfl rfl (State.offer_appends _ .down fun _ => rfl)

theorem State.forwardHeld_limitClamps : (s.forwardHeld f v).1.fs.limitClamps =
    if v = limitValue f then s.fs.limitClamps else bump s.fs.limitClamps := by
  rw [s.forwardHeld_eq]
  split <;> simp [State.countClamp]

@[simp] theorem State.forwardHeld_mr : (s.forwardHeld f v).1.mr = s.mr := by
  rw [s.forwardHeld_eq]
  split <;> simp [State.countClamp]

@[simp] theorem State.forwardHeld_bd : (s.forwardHeld f v).1.bd = s.bd := by
  rw [s.forwardHeld_eq]
  split <;> simp [State.countClamp]

variable {s f v}

theorem State.screenLimit_hold {bound : Int → Int} {pos : Position} {e : Station} (h : s.stationOf f.dest = some (pos, e))
    (hscreen : s.screening f.kind e.role = .hold bound) (hlen : valueMissing f = false) :
    State.screenLimit f s = (s.forwardHeld f (bound (limitValue f))).1 := by
  simp [State.screenLimit, h, hscreen, hlen]

/-- A frame that is held is forwarded so, and counted as a clamp where the value changes (R155). -/
theorem exec_held (hears : s.hears .up f) (hrow : s.frameRow .up f = .upLimitScreen) {off w : Nat} (hw : 0 < w)
    (hfield : valueField f.kind = (off, w)) (hlen : off + w ≤ f.payload.length) (hv : fitsI w v)
    (hwork : State.screenLimit f (s.countReceived .up) = ((s.countReceived .up).forwardHeld f v).1) :
    ∃ t g, exec (.upLimitScreen (received f)) s = .next t ∧ Claims.rewritten f g off w v ∧
      s.appends t .down ⟨g, .forwarded⟩ ∧
      t.fs.limitClamps = (if v = readI f.payload off w then s.fs.limitClamps else bump s.fs.limitClamps) ∧
      s.changesOnly t {.counters .up, .queue .down, .drops .down, .limitClamps} := by
  have hread : limitValue f = readI f.payload off w := by rw [limitValue, hfield]
  refine ⟨_, heldFrame f v, takeEvent_receive (work := State.screenLimit) hears hrow (by rw [hwork]; simp),
    heldFrame_rewritten hfield hw hlen hv, ?_, ?_, ?_⟩ <;> rw [hwork]
  · exact State.appends_of_received (State.forwardHeld_appends _ f v)
  · rw [State.forwardHeld_limitClamps, hread]
    simp
  · exact State.changesOnly_received (State.forwardHeld_frame _ f v) (by simp) (by simp [Set.insert_subset_iff])

theorem valueMissing_of_field {off w : Nat} (hfield : valueField f.kind = (off, w)) (hlen : off + w ≤ f.payload.length) :
    valueMissing f = false := by
  simp [valueMissing, hfield, hlen]

theorem valueField_limit : valueField kindLimit = (0, 4) := by decide

theorem valueField_grant : valueField kindGrant = (1, 2) := by decide

end

/-- Settles O15: both bounds give a value that its field can carry, and change it only outside the bound. -/
theorem limitIsHeld : Obligations.LimitIsHeld := by
  unfold Obligations.LimitIsHeld
  refine fun s f pos e hears hsrc hdest hstation => ⟨fun b off w hrole hkind hlen hgrant => ?charger,
    fun j v hrole hkind hlen hcap hv => ?string⟩
  case charger =>
    obtain ⟨hk, hfield, hw⟩ : (f.kind = kindLimit ∨ f.kind = kindGrant) ∧ valueField f.kind = (off, w) ∧ (w = 4 ∨ w = 2) := by
      rcases hkind with ⟨hk, rfl, rfl⟩ | ⟨hk, rfl, rfl⟩
      · exact ⟨.inl hk, by rw [hk]; exact valueField_limit, .inl rfl⟩
      · exact ⟨.inr hk, by rw [hk]; exact valueField_grant, .inr rfl⟩
    have hread : limitValue f = readI f.payload off w := by rw [limitValue, hfield]
    have hscreen : (s.countReceived .up).screening f.kind e.role = .hold (clampToGrant (s.bay b).alloc.grant) := by
      simp [State.screening, hrole]
    have hwork := State.screenLimit_hold (s := s.countReceived .up) (by simpa using hstation) hscreen
      (valueMissing_of_field hfield hlen)
    rw [hread, clampToGrant] at hwork
    have hv : fitsI w (max 0 (min (readI f.payload off w) (s.bay b).alloc.grant)) := by
      rcases hw with rfl | rfl <;> simp only [fitsI] <;> omega
    obtain ⟨t, g, hexec, hg, happends, hclamps, hframe⟩ := exec_held hears (frameRow_screened hsrc hdest hk hstation)
      (by omega) hfield hlen hv hwork
    refine ⟨t, g, hexec, hg, happends, ?_, hframe⟩
    rw [hclamps]
    exact if_congr (by omega) rfl rfl
  case string =>
    have hfield : valueField f.kind = (0, 4) := by rw [hkind]; exact valueField_limit
    have hread : limitValue f = readI f.payload 0 4 := by rw [limitValue, hfield]
    have hscreen : (s.countReceived .up).screening f.kind e.role =
        .hold (clampToCap s.cc.amount (s.cc.table.on j) s.cc.strings[j].cap) := by
      simp [State.screening, hrole, hkind]
    have hwork := State.screenLimit_hold (s := s.countReceived .up) (by simpa using hstation) hscreen
      (valueMissing_of_field hfield (by omega))
    have hclamp : clampToCap s.cc.amount (s.cc.table.on j) s.cc.strings[j].cap (limitValue f) = v := by
      rw [hread]
      rcases hv with ⟨hamount, hon, c, hc, rfl⟩ | ⟨hoff, rfl⟩
      · rw [hc]
        exact if_pos ⟨hamount, hon⟩
      · cases hc : s.cc.strings[j].cap with
        | none => rfl
        | some c =>
          have hidle : ¬(0 < s.cc.amount ∧ s.cc.table.on j = true) := by
            rintro ⟨hamount, hon⟩
            rcases hoff with h | h | h
            · omega
            · rw [CanopyTable.on, h] at hon
              cases hon
            · rw [h] at hc
              cases hc
          simp only [clampToCap, if_neg hidle]
    rw [hclamp] at hwork
    have hfits : fitsI 4 v := by
      have hbound := readI_fits f.payload 0 (w := 4) (by omega)
      rcases hv with ⟨-, -, c, hc, rfl⟩ | ⟨-, rfl⟩
      · have hlt := hcap c hc
        simp only [fitsI] at hbound ⊢
        omega
      · exact hbound
    exact exec_held hears (frameRow_screened hsrc hdest (.inl hkind) hstation) (by omega) hfield (by omega) hfits hwork

/-- Settles O16: the two controls of the battery, and under MANUAL the two outcomes of the offer. -/
theorem batteryLimit : Obligations.BatteryLimit := by
  unfold Obligations.BatteryLimit
  refine fun s f pos e hears hsrc hdest hkind hstation hrole hlen hrange => ⟨fun hauto => ?auto, fun hmanual => ?manual⟩
  all_goals
    have hfield : valueField f.kind = (0, 4) := by rw [hkind]; exact valueField_limit
    have hmissing := valueMissing_of_field hfield (by omega)
    have hrow := frameRow_screened hsrc hdest (.inl hkind) hstation
    have hstation' : (s.countReceived .up).stationOf f.dest = some (pos, e) := by simpa using hstation
  case auto =>
    have hscreen : (s.countReceived .up).screening f.kind e.role = .auto := by simp [State.screening, hrole, hkind, hauto]
    have hwork : State.screenLimit f (s.countReceived .up) = (s.countReceived .up).countAutoDrop := by
      simp [State.screenLimit, hstation, hscreen, hmissing]
    refine ⟨_, takeEvent_receive (work := State.screenLimit) hears hrow (by rw [hwork]; simp [State.countAutoDrop]), ?_, ?_⟩ <;>
      rw [hwork]
    · simp [State.countAutoDrop]
    · exact State.changesOnly_received (State.countAutoDrop_frame _) (by simp) (by simp)
  case manual =>
    intro v
    have hread : limitValue f = readI f.payload 0 4 := by rw [limitValue, hfield]
    have hscreen : (s.countReceived .up).screening f.kind e.role = .manual := by simp [State.screening, hrole, hkind, hmanual]
    have hv : clampToRatings (s.countReceived .up).bd.table (limitValue f) = v := by
      rw [hread, State.countReceived_bd]
      simp only [clampToRatings, v]
      split
      · omega
      · split <;> omega
    have hfits : fitsI 4 v := by
      obtain ⟨hcharge, hdischarge, -⟩ := hrange
      simp only [fitsI, v]
      omega
    have hwork : State.screenLimit f (s.countReceived .up) =
        if ((s.countReceived .up).forwardHeld f v).2 then ((s.countReceived .up).forwardHeld f v).1.takeManual v
        else ((s.countReceived .up).forwardHeld f v).1 := by
      rw [← hv]
      simp only [State.screenLimit, hstation', hscreen, hmissing]
      rfl
    have hoffer := (s.countReceived .up).forwardHeld_eq f v
    have hclampFrame : (s.countReceived .up).changesOnly
        (if v = limitValue f then s.countReceived .up else (s.countReceived .up).countClamp) {.limitClamps} := by
      split
      · exact State.changesOnly_refl _ _
      · exact State.countClamp_frame _
    have hqueue : ((if v = limitValue f then s.countReceived .up else (s.countReceived .up).countClamp).port .down).queue =
        s.li.down.queue := by split <;> rfl
    have happends := (s.countReceived .up).forwardHeld_appends f v
    have hclamps := (s.countReceived .up).forwardHeld_limitClamps f v
    have hbd := (s.countReceived .up).forwardHeld_bd f v
    rw [hread] at hclamps
    by_cases hroom : s.li.down.queue.length < queueSize
    · rw [State.offer_room (fun x _ => rfl) (by rw [hqueue]; exact hroom)] at hoffer
      have htaken : State.screenLimit f (s.countReceived .up) = ((s.countReceived .up).forwardHeld f v).1.takeManual v := by
        rw [hwork, hoffer]
        rfl
      refine ⟨_, heldFrame f v, takeEvent_receive (work := State.screenLimit) hears hrow ?_,
        heldFrame_rewritten hfield (by omega) (by omega) hfits, ?_, ?_, fun _ => ⟨?_, ?_⟩, fun hfull => by omega⟩ <;> rw [htaken]
      · simp [State.takeManual]
      · exact State.appends_of_received happends
      · exact hclamps
      · simp [State.takeManual]
      · rw [hoffer]
        exact State.changesOnly_received (State.changesOnly_trans (State.changesOnly_trans hclampFrame
          (State.setQueue_frame _ .down _)) (State.takeManual_frame _ v)) (by simp) (by simp [Set.insert_subset_iff])
    · rw [State.offer_full (fun x _ => rfl) (by rw [hqueue]; exact Nat.not_lt.mp hroom)] at hoffer
      have hdropped : State.screenLimit f (s.countReceived .up) = ((s.countReceived .up).forwardHeld f v).1 := by
        rw [hwork, hoffer]
        rfl
      refine ⟨_, heldFrame f v, takeEvent_receive (work := State.screenLimit) hears hrow ?_,
        heldFrame_rewritten hfield (by omega) (by omega) hfits, ?_, ?_, fun h => absurd h hroom, fun _ => ?_⟩ <;> rw [hdropped]
      · simp
      · exact State.appends_of_received happends
      · exact hclamps
      · rw [hoffer]
        exact State.changesOnly_received (State.changesOnly_trans hclampFrame (State.countDrops_frame _ .down 1)) (by simp)
          (by simp)

/-- Settles O17: what `screening` passes, and the short frames of the other three treatments. -/
theorem shortOrUnscreenedLimit : Obligations.ShortOrUnscreenedLimit := by
  unfold Obligations.ShortOrUnscreenedLimit
  intro s f pos e hears hsrc hdest hkind hstation screened
  have hrow := frameRow_screened hsrc hdest hkind hstation
  have hstation' : (s.countReceived .up).stationOf f.dest = some (pos, e) := by simpa using hstation
  have hmissing (h : f.payload.length < (if f.kind = kindGrant then 3 else 4)) : valueMissing f = true := by
    rcases hkind with hk | hk <;> rw [hk] at h <;> simp [valueMissing, hk, valueField_limit, valueField_grant]
    · exact h
    · exact h
  have hne : kindGrant ≠ kindLimit := by decide
  refine ⟨fun hpass => ?pass, fun hscreened hshort => ?short, fun hlimit hrole hauto hshort => ?auto⟩
  case pass =>
    have hscreen : (s.countReceived .up).screening f.kind e.role = .pass := by
      rcases hpass with h | h | ⟨hk, h | ⟨j, h⟩⟩ <;> simp [State.screening, h]
      · simp [hk, hne]
      · simp [hk, hne]
    have hwork : State.screenLimit f (s.countReceived .up) = (s.countReceived .up).forward .down f := by
      simp only [State.screenLimit, hstation', hscreen]
    refine ⟨_, takeEvent_receive (work := State.screenLimit) hears hrow (by rw [hwork]; simp), ?_, ?_⟩ <;> rw [hwork]
    · exact State.appends_of_received (State.forward_appends _ _ _)
    · exact State.changesOnly_received (State.forward_frame _ .down f) (by simp) (by simp)
  case short =>
    have hwork : State.screenLimit f (s.countReceived .up) = (s.countReceived .up).countClamp := by
      rcases hscreened with ⟨b, h⟩ | ⟨hk, ⟨j, h⟩ | ⟨h, hmanual⟩⟩
      · simp [State.screenLimit, hstation, State.screening, h, hmissing hshort]
      · simp [State.screenLimit, hstation, State.screening, h, hk, hmissing hshort]
      · simp [State.screenLimit, hstation, State.screening, h, hk, hmanual, hmissing hshort]
    refine ⟨_, takeEvent_receive (work := State.screenLimit) hears hrow (by rw [hwork]; simp [State.countClamp]), ?_, ?_⟩ <;>
      rw [hwork]
    · simp [State.countClamp]
    · exact State.changesOnly_received (State.countClamp_frame _) (by simp) (by simp)
  case auto =>
    have hshort' := hmissing (by rw [hlimit, if_neg hne.symm]; exact hshort)
    have hwork : State.screenLimit f (s.countReceived .up) = (s.countReceived .up).countAutoDrop.countClamp := by
      simp [State.screenLimit, hstation, State.screening, hrole, hlimit, hauto, hshort']
    refine ⟨_, takeEvent_receive (work := State.screenLimit) hears hrow
      (by rw [hwork]; simp [State.countClamp, State.countAutoDrop]), ?_, ?_, ?_⟩ <;> rw [hwork]
    · simp [State.countClamp, State.countAutoDrop]
    · simp [State.countClamp, State.countAutoDrop]
    · exact State.changesOnly_received (State.changesOnly_trans (State.countAutoDrop_frame _) (State.countClamp_frame _))
        (by simp) (by simp)

end Sys2Proof.Machine
end

section
/-! One evaluation of Battery Dispatch, in the terms of the statements (R75 to R80, R82). -/

namespace Sys2Proof.Machine

/-! ### Pending events (R173) -/

theorem Event.flag_getLsbD (e e' : Event) : e.flag.getLsbD e'.code = decide (e = e') := by
  cases e <;> cases e' <;> rfl

theorem State.isPending_eq (s : State) (e : Event) : s.isPending e = s.mr.events.getLsbD e.code := by
  have hcode : e.code < 16 := by cases e <;> decide
  have hbit (i : Nat) : e.flag.getLsbD i = decide (i = e.code) := by
    simp only [Event.flag, BitVec.getLsbD_shiftLeft, BitVec.getLsbD_one]
    by_cases hi : i = e.code
    · simp [hi, hcode]
    · by_cases hlt : i < e.code <;> simp [hi, hlt]
      omega
  rw [State.isPending, Bool.eq_iff_iff, bne_iff_ne, Ne, ← not_iff_not, not_not]
  constructor
  · intro h hbitSet
    have hcleared := congrArg (fun v : BitVec 16 => v.getLsbD e.code) h
    simp [hbitSet, hbit] at hcleared
  · intro h
    ext i hi
    rw [← BitVec.getLsbD_eq_getElem, ← BitVec.getLsbD_eq_getElem, BitVec.getLsbD_and, hbit]
    by_cases hic : i = e.code
    · subst hic
      simpa using h
    · simp [hic]

@[simp] theorem State.raise_isPending (s : State) (e e' : Event) :
    (s.raise e).isPending e' = (s.isPending e' || decide (e = e')) := by
  rw [State.isPending_eq, State.isPending_eq, State.raise_events, BitVec.getLsbD_or, Event.flag_getLsbD]

@[simp] theorem State.raiseIf_isPending (s : State) (c : Bool) (e e' : Event) :
    (s.raiseIf c e).isPending e' = (s.isPending e' || (c && decide (e = e'))) := by
  cases c <;> simp

theorem State.isPending_of_events {s t : State} (h : t.mr.events = s.mr.events) (e : Event) : t.isPending e = s.isPending e := by
  simp [State.isPending, h]

/-! ### What an evaluation leaves -/

section
variable (s : State) (also : List Byte)

/-- Whether an evaluation of `s` ends a top-up at its target (R82). -/
def State.topUpEnds : Bool := (topUpAfter s.bd.table s.siu.freeze s.batteryFigures s.bd.topUp).2

theorem State.evaluateWith_isPending (e : Event) :
    (s.evaluateWith also).isPending e = (s.isPending e || (s.topUpEnds && decide (e = .topUpDone)) ||
      (decide ((s.evaluateWith also).bd.mode ≠ s.bd.mode) && decide (e = .batteryMode))) := by
  have hmode : ((s.evaluateWith also).bd.mode != s.bd.mode) = decide ((s.evaluateWith also).bd.mode ≠ s.bd.mode) := by
    rw [Bool.eq_iff_iff]
    simp
  obtain ⟨-, -, -, hvalue, -⟩ := s.evaluateWith_bd also
  rw [← hmode, hvalue]
  have hbase (x : BatteryState) : ({ s with bd := x } : State).isPending e = s.isPending e := rfl
  have hwithdrawn (t : State) (l : List Byte) : (t.withdraw l).isPending e = t.isPending e :=
    State.isPending_of_events (by simp) e
  simp only [State.evaluateWith]
  split <;> simp only [hwithdrawn, State.raiseIf_isPending, hbase, State.topUpEnds, @eq_comm Event e]

theorem State.evaluateWith_lastSoc : (s.evaluateWith also).bd.lastSoc =
    match s.batteryFigures with | some f => some f.soc | none => s.bd.lastSoc := by
  simp only [State.evaluateWith]
  split <;> simp <;> rfl

theorem State.evaluateWith_queue : (s.evaluateWith also).li.down.queue =
    if (s.evaluateWith also).bd.mode ≠ s.bd.mode ∧ (s.evaluateWith also).bd.mode.withdraws = true then
      s.li.down.queue.filter fun q => !(q.frame.kind == kindLimit && (s.batteryAddress.toList ++ also).contains q.frame.dest)
    else s.li.down.queue := by
  obtain ⟨-, -, -, hvalue, -⟩ := s.evaluateWith_bd also
  have hbattery (t : State) (h : t.fs = s.fs) : t.batteryAddress = s.batteryAddress := by
    simp only [State.batteryAddress, State.stationFor, State.findStation, h]
  have hli (x : BatteryState) (done changed : Bool) :
      ((({ s with bd := x } : State).raiseIf done .topUpDone).raiseIf changed .batteryMode).li = s.li := by simp
  have hfs (x : BatteryState) (done changed : Bool) :
      ((({ s with bd := x } : State).raiseIf done .topUpDone).raiseIf changed .batteryMode).fs = s.fs := by simp
  rw [hvalue]
  simp only [State.evaluateWith]
  split
  next h =>
    rw [Bool.and_eq_true, bne_iff_ne] at h
    rw [if_pos h, hbattery _ (hfs _ _ _)]
    simp only [State.withdraw, hli]
    rfl
  next h =>
    rw [Bool.and_eq_true, bne_iff_ne] at h
    rw [if_neg h, hli]

end

/-! ### In the terms of the statements -/

theorem nextMemory_row (t : BatteryTable) (soc : Nat) (old : Option Memory) :
    Claims.memoryRow t soc old (some (nextMemory t soc old)) := by
  unfold nextMemory Claims.memoryRow
  split
  · exact .inl ⟨by omega, rfl⟩
  next h1 =>
    split
    · exact .inr (.inl ⟨by omega, by omega, rfl⟩)
    next h2 =>
      split
      next h3 => exact .inr (.inr (.inl ⟨by omega, by omega, h3.1, h3.2, rfl⟩))
      next h3 =>
        split
        next h4 => exact .inr (.inr (.inr (.inl ⟨by omega, by omega, h4.1, h4.2, rfl⟩)))
        next h4 => exact .inr (.inr (.inr (.inr ⟨by omega, by omega, h3, h4, rfl⟩)))

section
variable (s : State) (also : List Byte)

theorem evaluateWith_evaluatedOn {x : BatteryFigures} (hx : s.batteryFigures = some x) :
    Claims.evaluatedOn s (s.evaluateWith also) x := by
  obtain ⟨-, hmemory, hflag, hmode, hoffer, -⟩ := s.evaluateWith_bd also
  have hsent := s.evaluateWith_sent also
  have hlast := s.evaluateWith_lastSoc also
  have hdone := s.evaluateWith_isPending also .topUpDone
  have hchanged := s.evaluateWith_isPending also .batteryMode
  simp only [State.topUpEnds] at hdone hchanged
  generalize s.evaluateWith also = t at *
  simp only [hx, Option.map_some] at hmemory hflag hmode hoffer hlast hdone hchanged
  refine ⟨nextMemory s.bd.table x.soc s.bd.memory, hlast, hmemory, nextMemory_row _ _ _, fun hc => ?manual,
    fun hc hf => ?island, fun hc hf htop hsoc => ?topUp, fun hc => ?flag, fun hc hf htop => ?bands, ?changed⟩
  case manual =>
    have hm : t.bd.mode = .manual := by simp [hmode, modeOf, hc]
    rw [hm, offerOf] at hoffer
    simp only [Prod.mk.injEq] at hoffer
    exact ⟨hm, hoffer⟩
  case island =>
    have hm : t.bd.mode = .island := by simp [hmode, modeOf, hc, hf]
    rw [hm, offerOf] at hoffer
    simp only [Prod.mk.injEq] at hoffer
    exact ⟨hm, by simp [hflag, topUpAfter, hc, hf], hoffer.1, hoffer.2, by simp [hsent, hm]⟩
  case topUp =>
    have hstays : (topUpAfter s.bd.table false (some x) s.bd.topUp).1 = true := by
      simp [topUpAfter, htop, Nat.not_le.mpr hsoc]
    have hm : t.bd.mode = .topUp := by simp [hmode, modeOf, hc, hf, hstays]
    rw [hm, offerOf] at hoffer
    simp only [Prod.mk.injEq] at hoffer
    exact ⟨hm, hoffer⟩
  case flag =>
    rw [hflag, hdone]
    by_cases hsoc : s.bd.table.topUpTarget ≤ x.soc <;> cases hf : s.siu.freeze <;> cases htop : s.bd.topUp <;>
      simp [topUpAfter, hc, hsoc, Nat.not_lt.mpr, Nat.not_le.mp]
  case bands =>
    have hends : (topUpAfter s.bd.table false (some x) s.bd.topUp).1 = false := by
      rcases htop with h | h
      · simp [topUpAfter, h]
      · cases htop : s.bd.topUp <;> simp [topUpAfter, h]
    have hm : t.bd.mode = (nextMemory s.bd.table x.soc s.bd.memory).mode := by simp [hmode, modeOf, hc, hf, hends]
    rw [hm] at hoffer ⊢
    refine ⟨fun h => ?_, fun h => ?_, fun h => ?_⟩ <;> rw [h] at hoffer ⊢ <;>
      simp only [Memory.mode, offerOf, Prod.mk.injEq] at hoffer <;> exact ⟨rfl, hoffer⟩
  case changed => simpa using hchanged

theorem evaluateWith_evaluatedStale (hnone : s.batteryFigures = none) : Claims.evaluatedStale s (s.evaluateWith also) := by
  obtain ⟨-, hmemory, hflag, hmode, hoffer, -⟩ := s.evaluateWith_bd also
  have hsent := s.evaluateWith_sent also
  have hlast := s.evaluateWith_lastSoc also
  have hdone := s.evaluateWith_isPending also .topUpDone
  have hchanged := s.evaluateWith_isPending also .batteryMode
  have hcleared : topUpAfter s.bd.table s.siu.freeze none s.bd.topUp = (false, false) := by
    unfold topUpAfter
    split <;> rfl
  simp only [State.topUpEnds] at hdone hchanged
  generalize s.evaluateWith also = t at *
  simp only [hnone, Option.map_none, hcleared] at hmemory hflag hmode hoffer hlast hdone hchanged
  refine ⟨hmemory, hflag, hlast, fun hc => ?manual, fun hc => ?auto, by simpa using hdone, by simpa using hchanged⟩
  case manual =>
    have hm : t.bd.mode = .manual := by simp [hmode, modeOf, hc]
    rw [hm, offerOf] at hoffer
    simp only [Prod.mk.injEq] at hoffer
    exact ⟨hm, hoffer⟩
  case auto =>
    have hm : t.bd.mode = if s.siu.freeze then .island else .off := by simp [hmode, modeOf, hc]
    cases hf : s.siu.freeze <;> simp only [hf, if_true, Bool.false_eq_true, if_false] at hm <;> rw [hm] at hoffer hsent ⊢ <;>
      simp only [offerOf, Prod.mk.injEq] at hoffer <;> exact ⟨by simp, hoffer.1, hoffer.2, by simpa using hsent⟩

theorem evaluateWith_setpointsKept :
    Claims.setpointsKept s (s.evaluateWith also) (s.batteryAddress.toList ++ also) := by
  obtain ⟨-, -, -, -, -, hmanual⟩ := s.evaluateWith_bd also
  refine ⟨hmanual, s.evaluateWith_sent also, ?_⟩
  rw [s.evaluateWith_queue also]
  have hwithdraws (m : Mode) : m.withdraws = true ↔ m = .reserve ∨ m = .topUp ∨ m = .island ∨ m = .off := by
    cases m <;> simp [Mode.withdraws]
  simp only [hwithdraws]
  refine if_congr Iff.rfl (List.filter_congr fun q _ => ?_) rfl
  simp [Bool.decide_and, BEq.beq]

/-- An evaluation is one in the terms of the statements. -/
theorem evaluateWith_evaluates : Claims.evaluates s (s.evaluateWith also) also :=
  ⟨fun _ h => evaluateWith_evaluatedOn s also h, fun h => evaluateWith_evaluatedStale s also h,
    evaluateWith_setpointsKept s also⟩

end

/-! ### From which states an evaluation can be seen -/

/-- What an evaluation reads of a state besides figures and address. -/
structure SameForBattery (s t : State) : Prop where
  bd : t.bd = s.bd
  freeze : t.siu.freeze = s.siu.freeze
  done : t.isPending .topUpDone = s.isPending .topUpDone
  mode : t.isPending .batteryMode = s.isPending .batteryMode
  queue : t.li.down.queue = s.li.down.queue

section
variable {s s' t t' : State} {also : List Byte} {x : BatteryFigures}

theorem Claims.evaluatedOn.of_same (h : Claims.evaluatedOn s t x) (hs : SameForBattery s s') (ht : SameForBattery t t') :
    Claims.evaluatedOn s' t' x := by
  obtain ⟨hbd, hfreeze, hdone, hmode, -⟩ := hs
  obtain ⟨hbd', -, hdone', hmode', -⟩ := ht
  simpa only [Claims.evaluatedOn, hbd, hfreeze, hdone, hmode, hbd', hdone', hmode'] using h

theorem Claims.evaluatedStale.of_same (h : Claims.evaluatedStale s t) (hs : SameForBattery s s') (ht : SameForBattery t t') :
    Claims.evaluatedStale s' t' := by
  obtain ⟨hbd, hfreeze, hdone, hmode, -⟩ := hs
  obtain ⟨hbd', -, hdone', hmode', -⟩ := ht
  simpa only [Claims.evaluatedStale, hbd, hfreeze, hdone, hmode, hbd', hdone', hmode'] using h

theorem Claims.setpointsKept.of_same {l : List Byte} (h : Claims.setpointsKept s t l) (hs : SameForBattery s s')
    (ht : SameForBattery t t') : Claims.setpointsKept s' t' l := by
  obtain ⟨hbd, -, -, -, hqueue⟩ := hs
  obtain ⟨hbd', -, -, -, hqueue'⟩ := ht
  simpa only [Claims.setpointsKept, hbd, hqueue, hbd', hqueue'] using h

/-- An evaluation seen from another state that holds the same for it, and in another one that it left the same. -/
theorem Claims.evaluates.of_same (h : Claims.evaluates s t also) (hs : SameForBattery s s') (ht : SameForBattery t t')
    (hfigures : s'.batteryFigures = s.batteryFigures) (haddress : s'.batteryAddress = s.batteryAddress) :
    Claims.evaluates s' t' also := by
  obtain ⟨hon, hstale, hkept⟩ := h
  exact ⟨fun x hx => Claims.evaluatedOn.of_same (hon x (hfigures ▸ hx)) hs ht,
    fun hn => Claims.evaluatedStale.of_same (hstale (hfigures ▸ hn)) hs ht,
    haddress ▸ Claims.setpointsKept.of_same hkept hs ht⟩

theorem SameForBattery.refl (s : State) : SameForBattery s s := ⟨rfl, rfl, rfl, rfl, rfl⟩

end

end Sys2Proof.Machine
end

section
/-! Served requests: what the head of the request queue is answered, and the statements about requests that change nothing and about
the simple commands (O25, O32, O35, O36, O38, O41). -/

namespace Sys2Proof.Machine

/-! ### The state after an answer (R164) -/

/-- The answer to a request stands in the Up queue, or is dropped, and the request is gone. -/
def State.answered (u : State) (source : Byte) (payload : List Byte) (rest : List Request) : State :=
  { u.answer source payload with mr.requests := rest }

section
variable (u : State) (source : Byte) (payload : List Byte) (rest : List Request)

@[simp] theorem State.answered_fs : (u.answered source payload rest).fs = u.fs := by simp [State.answered]
@[simp] theorem State.answered_siu : (u.answered source payload rest).siu = u.siu := by simp [State.answered]
@[simp] theorem State.answered_bays : (u.answered source payload rest).bays = u.bays := by simp [State.answered]
@[simp] theorem State.answered_bay (b : BayNo) : (u.answered source payload rest).bay b = u.bay b := by simp [State.bay]
@[simp] theorem State.answered_links : (u.answered source payload rest).links = u.links := by simp [State.answered]
@[simp] theorem State.answered_held : (u.answered source payload rest).held = u.held := by simp [State.answered]
@[simp] theorem State.answered_ae : (u.answered source payload rest).ae = u.ae := by simp [State.answered]
@[simp] theorem State.answered_bd : (u.answered source payload rest).bd = u.bd := by simp [State.answered]
@[simp] theorem State.answered_cc : (u.answered source payload rest).cc = u.cc := by simp [State.answered]
@[simp] theorem State.answered_mu : (u.answered source payload rest).mu = u.mu := by simp [State.answered]
@[simp] theorem State.answered_rq : (u.answered source payload rest).rq = u.rq := by simp [State.answered]
@[simp] theorem State.answered_mr : (u.answered source payload rest).mr = { u.mr with requests := rest } := by
  simp [State.answered]

@[simp] theorem State.answered_unmasked : (u.answered source payload rest).unmasked = u.unmasked := by simp [State.unmasked]

@[simp] theorem State.answered_isPending (e : Event) : (u.answered source payload rest).isPending e = u.isPending e := by
  simp [State.isPending]

theorem State.answered_appends :
    u.appends (u.answered source payload rest) .up (u.answerTo ⟨source, []⟩ payload) := u.answer_appends source payload

theorem State.answered_frame : u.changesOnly (u.answered source payload rest) answeredParts :=
  State.changesOnly_seq (u.answer_frame source payload) ((u.answer source payload).setRequests_frame rest)
    (by simp [answeredParts]) (by simp [answeredParts])

@[simp] theorem State.answered_down : (u.answered source payload rest).li.down.queue = u.li.down.queue :=
  u.answered_frame source payload rest (.queue .down) (by simp [answeredParts])

end

/-! ### The answer before a STATUS frame (R164, R174) -/

/-- What a queue takes in an event stands before the STATUS frame of that event. -/
theorem inEvent_gains {s t : State} {q : Queued} (h : s.appends t .up q) : s.gains (inEvent (fun _ => t) s) .up q := by
  have hstatus := t.offer_appends .up (q := ⟨t.ownFrame t.mr.site.alertDest kindStatus t.statusPayload, .status⟩) fun _ => rfl
  unfold State.appends at h hstatus
  unfold State.gains
  rcases inEvent_cases (fun _ => t) s with ⟨-, e⟩ | ⟨-, -, e⟩ <;> rw [e]
  · split <;> simp_all
    unfold bump
    omega
  · rw [State.sendStatus]
    by_cases hroom : (s.port .up).queue.length < queueSize
    · rw [if_pos hroom] at h ⊢
      split at hstatus <;> rw [hstatus.1, h.1]
      · exact ⟨[_], by simp; rfl, by simp⟩
      · exact ⟨[], by simp, by simp⟩
    · rw [if_neg hroom] at h ⊢
      rw [h.1, if_neg hroom, h.2] at hstatus
      refine ⟨hstatus.1, ?_⟩
      rw [hstatus.2]
      unfold bump
      omega

/-! ### The request at the head (R164, R165, R171) -/

section
variable {c : Instr} {row : Service} {work : Request → State → State} {s u : State} {r : Request} {rest : List Request}
  {payload : List Byte}

theorem State.serve_head (h : s.heads r rest) (hrow : serviceOf r.payload = row) :
    State.serve row work s = { work r s with mr.requests := rest } := by
  obtain ⟨-, hidle, hreqs⟩ := h
  simp [State.serve, hreqs, hidle, hrow]

theorem State.serve_other (h : s.heads r rest) (hrow : serviceOf r.payload ≠ row) : State.serve row work s = s := by
  obtain ⟨-, -, hreqs⟩ := h
  simp [State.serve, hreqs, hrow]

theorem State.serve_restarting (h : s.mr.restart ≠ .idle) : State.serve row work s = s := by
  unfold State.serve
  split
  · simp [h]
  · rfl

theorem State.answerTo_of_site (h : s.same u .site) (r : Request) : u.answerTo r = s.answerTo r := by
  funext p
  rw [State.answerTo, State.answerTo, show u.mr.site = s.mr.site from h]

/-- The command of the service at the head leaves `u` and its answer, as one event. -/
theorem exec_answered (hc : workOf c = some (State.serve row work)) (h : s.heads r rest) (hrow : serviceOf r.payload = row)
    (hw : work r s = u.answer r.source payload) :
    exec c s = .next (inEvent (fun _ => u.answered r.source payload rest) s) := by
  have hserve : State.serve row work s = u.answered r.source payload rest := by
    rw [State.serve_head h hrow, hw, State.answered]
  rw [exec_powered hc h.1, inEvent, hserve, inEvent]

theorem exec_answered_quiet (hc : workOf c = some (State.serve row work)) (h : s.heads r rest)
    (hrow : serviceOf r.payload = row) (hw : work r s = u.answer r.source payload) (hu : u.unmasked = s.unmasked) :
    exec c s = .next (u.answered r.source payload rest) := by
  rw [exec_answered hc h hrow hw, inEvent_of_unmasked (by simpa using hu)]

/-- A request without an effect: the answer, and nothing else. -/
theorem exec_unaffected (hc : workOf c = some (State.serve row work)) (h : s.heads r rest) (hrow : serviceOf r.payload = row)
    (hw : work r s = s.answer r.source payload) :
    ∃ t, exec c s = .next t ∧ t.mr.requests = rest ∧ s.appends t .up (s.answerTo ⟨r.source, []⟩ payload) ∧
      s.changesOnly t answeredParts :=
  ⟨_, exec_answered_quiet hc h hrow hw rfl, by simp, s.answered_appends _ _ _, s.answered_frame _ _ _⟩

theorem checked_allowed {work : List Byte → State → State × Status} {status : Status}
    (h : s.passesManagers r.source = true) (hw : work r.payload s = (u, status)) :
    checked work r s = u.answer r.source (answerOf r.payload status u.mr.plan) := by
  simp [checked, h, hw]

theorem checked_refused {work : List Byte → State → State × Status} (h : s.passesManagers r.source = false) :
    checked work r s = s.answer r.source (answerOf r.payload .notManager s.mr.plan) := by
  simp [checked, h]

/-- A WRITE or COMMAND that its service refuses. -/
theorem exec_checked_unaffected {work : List Byte → State → State × Status} {status : Status}
    (hc : workOf c = some (State.serve row (checked work))) (h : Claims.allowed s r rest) (hrow : serviceOf r.payload = row)
    (hw : work r.payload s = (s, status)) (hp : answerOf r.payload status s.mr.plan = payload) :
    ∃ t, exec c s = .next t ∧ t.mr.requests = rest ∧ s.appends t .up (s.answerTo ⟨r.source, []⟩ payload) ∧
      s.changesOnly t answeredParts :=
  exec_unaffected hc h.1 hrow (by rw [checked_allowed h.2 hw, hp])

/-- What a served WRITE or COMMAND leaves, where its effect may raise events. -/
theorem exec_checked {work : List Byte → State → State × Status} {status : Status} {parts : Set Part}
    (hc : workOf c = some (State.serve row (checked work))) (h : Claims.allowed s r rest) (hrow : serviceOf r.payload = row)
    (hw : work r.payload s = (u, status)) (hp : answerOf r.payload status u.mr.plan = payload)
    (hframe : s.changesOnly u parts)
    (hq : Part.queue .up ∉ parts) (hd : Part.drops .up ∉ parts) (hs : Part.site ∉ parts) :
    exec c s = .next (inEvent (fun _ => u.answered r.source payload rest) s) ∧
      s.gains (inEvent (fun _ => u.answered r.source payload rest) s) .up (s.answerTo ⟨r.source, []⟩ payload) ∧
      s.changesOnly (inEvent (fun _ => u.answered r.source payload rest) s) (parts ∪ answeredParts) := by
  refine ⟨exec_answered hc h.1 hrow (by rw [checked_allowed h.2 hw, hp]), inEvent_gains ?_, ?_⟩
  · rw [← State.answerTo_of_site (hframe _ hs)]
    exact State.appends_of_same (hframe _ hq) (hframe _ hd) (u.answered_appends _ _ _)
  · exact State.changesOnly_seq (State.changesOnly_seq hframe (u.answered_frame _ _ _) Set.subset_union_left
      Set.subset_union_right) (inEvent_after _ s) Set.Subset.rfl (by simp [answeredParts, Set.subset_def])

/-- What a served WRITE or COMMAND leaves, where its effect raises no event. -/
theorem exec_checked_quiet {work : List Byte → State → State × Status} {status : Status} {parts : Set Part}
    (hc : workOf c = some (State.serve row (checked work))) (h : Claims.allowed s r rest) (hrow : serviceOf r.payload = row)
    (hw : work r.payload s = (u, status)) (hp : answerOf r.payload status u.mr.plan = payload)
    (hframe : s.changesOnly u parts)
    (hq : Part.queue .up ∉ parts) (hd : Part.drops .up ∉ parts) (hs : Part.site ∉ parts) (hu : u.unmasked = s.unmasked) :
    exec c s = .next (u.answered r.source payload rest) ∧
      s.appends (u.answered r.source payload rest) .up (s.answerTo ⟨r.source, []⟩ payload) ∧
      s.changesOnly (u.answered r.source payload rest) (parts ∪ answeredParts) := by
  refine ⟨exec_answered_quiet hc h.1 hrow (by rw [checked_allowed h.2 hw, hp]) hu, ?_, ?_⟩
  · rw [← State.answerTo_of_site (hframe _ hs)]
    exact State.appends_of_same (hframe _ hq) (hframe _ hd) (u.answered_appends _ _ _)
  · exact State.changesOnly_seq hframe (u.answered_frame _ _ _) Set.subset_union_left Set.subset_union_right

end

/-! ### Which service, which answer (R164, R180) -/

theorem serviceOf_write (tag table index : Byte) (record : List Byte) :
    serviceOf (tag :: 2 :: table :: index :: record) = writeService table := rfl

theorem serviceOf_command (tag code : Byte) (arguments : List Byte) :
    serviceOf (tag :: 3 :: code :: arguments) = commandService code := rfl

theorem answerOf_write (tag table index : Byte) (record : List Byte) (status : Status) (plan : Option PlanFault) :
    answerOf (tag :: 2 :: table :: index :: record) status plan = [tag, 2, status.code, table, index] ++ planBytes plan := rfl

theorem answerOf_command (tag code : Byte) (arguments : List Byte) (status : Status) (plan : Option PlanFault) :
    answerOf (tag :: 3 :: code :: arguments) status plan = [tag, 3, status.code, code] := rfl

end Sys2Proof.Machine
end

section
/-! The commands without a rule of their own on the bays, and the requests that change nothing (O25, O32, O35, O36, O38, O41). -/

namespace Sys2Proof.Machine

/-! ### Requests that no service knows (O41) -/

theorem commandService_unknown {code : Byte} (h : code.toNat = 0 ∨ 9 < code.toNat) : commandService code = .unknownCommand := by
  unfold commandService
  split <;> first | rfl | omega

theorem serviceOf_unknown {tag op : Byte} {fields : List Byte} (h1 : op ≠ 1) (h2 : op ≠ 2) (h3 : op ≠ 3) :
    serviceOf (tag :: op :: fields) = .unknownCommand := by
  unfold serviceOf
  dsimp only
  rw [if_neg (show ¬op = opRead from h1), if_neg (show ¬op = opWrite from h2),
    if_neg (show ¬op = opCommand from h3)]

theorem answerOf_unknown {tag op : Byte} {fields : List Byte} (h2 : op ≠ 2) (h3 : op ≠ 3) (status : Status)
    (plan : Option PlanFault) : answerOf (tag :: op :: fields) status plan = [tag, op, status.code] := by
  have hop : requestOp (tag :: op :: fields) = op := rfl
  rw [answerOf, hop, if_neg (show ¬op = opWrite from h2), if_neg (show ¬op = opCommand from h3)]
  rfl

theorem tableOf_isNone {code : Byte} : tableOf code = none ↔ code.toNat = 0 ∨ 18 < code.toNat := by
  unfold tableOf
  split <;> simp_all
  omega

theorem writeService_unwritten {table : Byte} (h : table.toNat = 0 ∨ 8 < table.toNat) : writeService table = .badTableWrite := by
  unfold writeService tableOf
  split <;> first | rfl | (split at * <;> simp_all)

theorem serviceOf_short {p : List Byte} (h : p.length < 2) : serviceOf p = .badTableWrite := by
  match p, h with
  | [], _ => rfl
  | [_], _ => rfl

/-- A command with `n` bytes of arguments to take, given fewer. -/
theorem withArguments_short {n : Nat} {work : List Byte → State → State × Status} {tag code : Byte} {arguments : List Byte}
    (s : State) (h : arguments.length < n) : withArguments n work (tag :: 3 :: code :: arguments) s = (s, .badLength) :=
  if_pos h

/-- A command with arguments enough. -/
theorem withArguments_enough {n : Nat} {work : List Byte → State → State × Status} {tag code : Byte} {arguments : List Byte}
    (s : State) (h : n ≤ arguments.length) :
    withArguments n work (tag :: 3 :: code :: arguments) s = work arguments s := if_neg (Nat.not_lt.mpr h)

theorem badTableStatus_write (tag table index : Byte) (record : List Byte) :
    badTableStatus (tag :: 2 :: table :: index :: record) = if (tableOf table).isSome then .readOnly else .badTable := rfl

/-- Settles O41: each request goes to the row that its bytes give, and that row leaves the state alone. -/
theorem unservedRequests : Obligations.UnservedRequests := by
  unfold Obligations.UnservedRequests
  refine ⟨fun s source p rest h => ⟨?unknownOperation, ?short⟩, fun s source p rest h =>
    ⟨?unknownCode, ?unwritten, ?fieldless, ?indexless, ?arguments⟩⟩
  case unknownOperation =>
    rintro tag op fields rfl h1 h2 h3
    refine exec_unaffected (work := unknownWork) rfl h (serviceOf_unknown h1 h2 h3) ?_
    have hop : requestOp (tag :: op :: fields) = op := rfl
    rw [unknownWork, hop, if_neg (show ¬op = opCommand from h3), answerOf_unknown h2 h3]
    rfl
  case short =>
    intro hshort
    refine exec_unaffected (work := badTableWork) rfl h (serviceOf_short hshort) ?_
    rw [badTableWork, if_pos hshort]
    congr 1
    match p, hshort with
    | [], _ => rfl
    | [_], _ => rfl
  case unknownCode =>
    rintro tag code arguments rfl hcode
    refine exec_unaffected (work := unknownWork) rfl h.1
      ((serviceOf_command tag code arguments).trans (commandService_unknown hcode)) ?_
    exact checked_allowed (work := fun _ t => (t, .unknownCommand)) h.2 rfl
  case unwritten =>
    rintro tag table index record rfl htable
    refine exec_unaffected (work := badTableWork) rfl h.1
      ((serviceOf_write tag table index record).trans (writeService_unwritten htable)) ?_
    have hchecked := checked_allowed (work := fun p t => (t, badTableStatus p)) h.2 rfl
    refine hchecked.trans ?_
    rw [answerOf_write, badTableStatus_write]
    by_cases hnone : tableOf table = none
    · simp [hnone, tableOf_isNone.mp hnone, Status.code]
    · simp [Option.isSome_iff_ne_none.mpr hnone, mt tableOf_isNone.mpr hnone, Status.code]
  case fieldless =>
    rintro tag op rfl (rfl | rfl) <;>
      exact exec_unaffected (work := badTableWork) rfl h.1 rfl (checked_allowed (work := fun p t => (t, badTableStatus p)) h.2 rfl)
  case indexless =>
    rintro tag table rfl
    obtain ⟨t, ht⟩ := exec_unaffected (c := .badTableWrite) (work := badTableWork) rfl h.1 rfl
      (checked_allowed (work := fun p t => (t, badTableStatus p)) h.2 rfl)
    exact ⟨t, _, ht⟩
  case arguments =>
    rintro c code needed hmem tag arguments rfl hshort
    simp only [Claims.arguments, List.mem_cons, Prod.mk.injEq, List.not_mem_nil, or_false] at hmem
    rcases hmem with ⟨rfl, rfl, rfl⟩ | ⟨rfl, rfl, rfl⟩ | ⟨rfl, rfl, rfl⟩ | ⟨rfl, rfl, rfl⟩
    · exact exec_checked_unaffected (work := commandSetClock) rfl h rfl (withArguments_short s hshort) rfl
    · exact exec_checked_unaffected (work := commandForceClose) rfl h rfl (withArguments_short s hshort) rfl
    · exact exec_checked_unaffected (work := commandRelease) rfl h rfl (withArguments_short s hshort) rfl
    · exact exec_checked_unaffected (work := commandClearEvents) rfl h rfl (withArguments_short s hshort) rfl

/-! ### Refused writes (O32) -/

section
variable {tag code index : Byte} {record : List Byte} (s : State)

@[simp] theorem writeIndex_write (op : Byte) : writeIndex (tag :: op :: code :: index :: record) = index.toNat := by
  simp [writeIndex, readU, slice, natOfBytes]

/-- The status of a WRITE that is refused for its index or its record. -/
def refusal (last : Nat) (index : Byte) : Status := if last < index.toNat then .badIndex else .badLength

theorem writeWhole_refused {fits : List Byte → Bool} {take : List Byte → State → State × Bool}
    (h : 0 < index.toNat ∨ fits record = false) :
    writeWhole fits take (tag :: 2 :: code :: index :: record) s = (s, refusal 0 index) := by
  rw [writeWhole, writeIndex_write, refusal]
  by_cases h0 : 0 < index.toNat
  · rw [if_pos h0, if_pos (Nat.pos_iff_ne_zero.mp h0)]
  · have hfits : (!fits (writeRecord (tag :: 2 :: code :: index :: record))) = true := by
      rw [Bool.not_eq_true']
      exact h.resolve_left h0
    rw [if_neg h0, if_neg (not_not.mpr (Nat.eq_zero_of_not_pos h0)), if_pos hfits]

theorem writeStation_refused (h : 63 < index.toNat ∨ record.length ≠ 4) :
    s.writeStation (tag :: 2 :: code :: index :: record) = (s, refusal 63 index) := by
  unfold State.writeStation refusal
  rw [writeIndex_write]
  by_cases h0 : 63 < index.toNat
  · rw [if_pos h0, dif_neg (by omega)]
  · rw [if_neg h0, dif_pos (by omega)]
    exact if_pos (h.resolve_left h0)

theorem writeBay_refused (h : 31 < index.toNat ∨ record.length ≠ 4) :
    s.writeBay (tag :: 2 :: code :: index :: record) = (s, refusal 31 index) := by
  unfold State.writeBay refusal
  rw [writeIndex_write]
  by_cases h0 : 31 < index.toNat
  · rw [if_pos h0, dif_neg (by omega)]
  · rw [if_neg h0, dif_pos (by omega)]
    exact if_pos (h.resolve_left h0)

theorem writeEventMask_refused (h : 0 < index.toNat ∨ record.length ≠ 2) :
    s.writeEventMask (tag :: 2 :: code :: index :: record) = (s, refusal 0 index) := by
  unfold State.writeEventMask refusal
  rw [writeIndex_write]
  by_cases h0 : 0 < index.toNat
  · rw [if_pos h0, if_pos (Nat.pos_iff_ne_zero.mp h0)]
  · rw [if_neg h0, if_neg (not_not.mpr (Nat.eq_zero_of_not_pos h0))]
    exact if_pos (h.resolve_left h0)

/-- The answer to a refused WRITE. -/
theorem exec_write_refused {c : Instr} {work : List Byte → State → State × Status} {source : Byte} {rest : List Request}
    {last : Nat} (hc : workOf c = some (State.serve (writeService code) (checked work)))
    (h : Claims.allowed s ⟨source, [tag, 2, code, index] ++ record⟩ rest)
    (hw : work (tag :: 2 :: code :: index :: record) s = (s, refusal last index)) :
    ∃ t, exec c s = .next t ∧ t.mr.requests = rest ∧
      s.appends t .up (s.answerTo ⟨source, []⟩
        ([tag, 2, if last < index.toNat then 4 else 5, code, index] ++ planBytes s.mr.plan)) ∧
      s.changesOnly t answeredParts := by
  refine exec_checked_unaffected hc h rfl hw ?_
  refine (answerOf_write tag code index record _ _).trans ?_
  rw [refusal]
  split <;> rfl

end

/-- Settles O32: every written table refuses its index first, then its length, before it takes anything. -/
theorem refusedWritesChangeNothing : Obligations.RefusedWritesChangeNothing := by
  unfold Obligations.RefusedWritesChangeNothing
  intro s source tag code index record rest c last fits hmem h hbad
  simp only [Claims.writes, List.mem_cons, Prod.mk.injEq, List.not_mem_nil, or_false] at hmem
  rcases hmem with ⟨rfl, rfl, rfl, rfl⟩ | ⟨rfl, rfl, rfl, rfl⟩ | ⟨rfl, rfl, rfl, rfl⟩ | ⟨rfl, rfl, rfl, rfl⟩ |
    ⟨rfl, rfl, rfl, rfl⟩ | ⟨rfl, rfl, rfl, rfl⟩ | ⟨rfl, rfl, rfl, rfl⟩ | ⟨rfl, rfl, rfl, rfl⟩
  · exact exec_write_refused s (work := State.writeSite) rfl h (writeWhole_refused s hbad)
  · exact exec_write_refused s (work := State.writeStation) rfl h (writeStation_refused s (by simpa using hbad))
  · exact exec_write_refused s (work := State.writeBay) rfl h (writeBay_refused s (by simpa using hbad))
  · exact exec_write_refused s (work := State.writeTariff) rfl h (writeWhole_refused s hbad)
  · exact exec_write_refused s (work := State.writeTariff) rfl h (writeWhole_refused s hbad)
  · exact exec_write_refused s (work := State.writeBattery) rfl h (writeWhole_refused s hbad)
  · exact exec_write_refused s (work := State.writeCanopy) rfl h (writeWhole_refused s hbad)
  · exact exec_write_refused s (work := State.writeEventMask) rfl h (writeEventMask_refused s (by simpa using hbad))

/-! ### The manager check (O25) -/

/-- The work of the command that serves a service, without the request. -/
def rowWork : Service → Request → State → State
  | .read => fun r t => t.answer r.source (t.readAnswer r.payload)
  | .siteWrite => checked State.writeSite
  | .stationWrite => checked State.writeStation
  | .bayWrite => checked State.writeBay
  | .tariffWrite => checked State.writeTariff
  | .batteryWrite => checked State.writeBattery
  | .canopyWrite => checked State.writeCanopy
  | .eventMaskWrite => checked State.writeEventMask
  | .setClock => checked commandSetClock
  | .restart => restartWork
  | .resume => checked fun _ => State.resume
  | .shedClear => checked fun _ => State.shedClear
  | .topUp => checked fun _ => State.topUp
  | .forceClose => checked commandForceClose
  | .releaseReceipt => checked commandRelease
  | .clearEvents => checked commandClearEvents
  | .clearCounters => checked commandClearCounters
  | .unknownCommand => unknownWork
  | .badTableWrite => badTableWork

theorem workOf_commandOf (row : Service) : workOf (Claims.commandOf row) = some (State.serve row (rowWork row)) := by
  cases row <;> rfl

/-- The serving commands, by the services they serve. -/
theorem mem_checkedServices {c : Instr} : c ∈ Claims.checkedServices ↔ ∃ row, row ≠ .read ∧ c = Claims.commandOf row := by
  constructor
  · intro h
    simp only [Claims.checkedServices, List.mem_cons, List.not_mem_nil, or_false] at h
    rcases h with rfl | rfl | rfl | rfl | rfl | rfl | rfl | rfl | rfl | rfl | rfl | rfl | rfl | rfl | rfl | rfl | rfl | rfl
    exacts [⟨.siteWrite, nofun, rfl⟩, ⟨.stationWrite, nofun, rfl⟩, ⟨.bayWrite, nofun, rfl⟩, ⟨.tariffWrite, nofun, rfl⟩,
      ⟨.batteryWrite, nofun, rfl⟩, ⟨.canopyWrite, nofun, rfl⟩, ⟨.eventMaskWrite, nofun, rfl⟩, ⟨.setClock, nofun, rfl⟩,
      ⟨.restart, nofun, rfl⟩, ⟨.resume, nofun, rfl⟩, ⟨.shedClear, nofun, rfl⟩, ⟨.topUp, nofun, rfl⟩,
      ⟨.forceClose, nofun, rfl⟩, ⟨.releaseReceipt, nofun, rfl⟩, ⟨.clearEvents, nofun, rfl⟩, ⟨.clearCounters, nofun, rfl⟩,
      ⟨.unknownCommand, nofun, rfl⟩, ⟨.badTableWrite, nofun, rfl⟩]
  · rintro ⟨row, hrow, rfl⟩
    cases row with
    | read => exact absurd rfl hrow
    | _ => simp [Claims.checkedServices, Claims.commandOf]

theorem serviceOf_ne_read {tag op : Byte} {fields : List Byte} (h : op = 2 ∨ op = 3) :
    serviceOf (tag :: op :: fields) ≠ .read := by
  rcases h with rfl | rfl
  · match fields with
    | [] | [_] => exact nofun
    | table :: index :: record =>
      rw [serviceOf_write]
      unfold writeService
      split <;> exact nofun
  · match fields with
    | [] => exact nofun
    | code :: arguments =>
      rw [serviceOf_command]
      unfold commandService
      split <;> exact nofun

/-- Every service of a WRITE or COMMAND answers one that is not allowed NOT_MANAGER, and does nothing else. -/
theorem rowWork_refused {row : Service} {r : Request} {s : State} {tag op : Byte} {fields : List Byte} (hrow : row ≠ .read)
    (hp : r.payload = tag :: op :: fields) (hop : op = 2 ∨ op = 3) (hserves : serviceOf r.payload = row)
    (h : s.passesManagers r.source = false) :
    rowWork row r s = s.answer r.source (answerOf r.payload .notManager s.mr.plan) := by
  cases row with
  | read => exact absurd rfl hrow
  | restart => simp [rowWork, restartWork, h]
  | unknownCommand =>
    have hcommand : requestOp r.payload = opCommand := by
      rw [hp] at hserves ⊢
      rcases hop with rfl | rfl
      · match fields with
        | [] | [_] => exact nomatch hserves
        | table :: index :: record =>
          rw [serviceOf_write] at hserves
          unfold writeService at hserves
          split at hserves <;> exact nomatch hserves
      · rfl
    rw [rowWork, unknownWork, if_pos hcommand, checked_refused h]
  | badTableWrite => rw [rowWork, badTableWork, if_neg (by simp [hp]), checked_refused h]
  | _ => rw [rowWork, checked_refused h]

theorem passesManagers_eq_false {s : State} {source : Byte} {m : Fin 4} (hm : s.mr.site.managers[m] ≠ 0xFF)
    (h : ∀ i : Fin 4, s.mr.site.managers[i] ≠ source ∨ source = 0xFF) : s.passesManagers source = false := by
  have hmem : s.mr.site.managers[m] ∈ s.mr.site.managers.toList.filter (· != broadcast) := by
    rw [List.mem_filter]
    exact ⟨by simp, by simpa [broadcast] using hm⟩
  simp only [State.passesManagers, Bool.or_eq_false_iff, List.isEmpty_eq_false_iff, List.contains_eq_mem,
    decide_eq_false_iff_not]
  refine ⟨List.ne_nil_of_mem hmem, fun hin => ?_⟩
  obtain ⟨hin, hne⟩ := List.mem_filter.mp hin
  obtain ⟨i, hi, e⟩ := List.mem_iff_getElem.mp hin
  rcases h ⟨i, by simpa using hi⟩ with hother | hbroadcast
  · exact hother (by simpa using e)
  · simp [hbroadcast, broadcast] at hne

/-- Settles O25: the row of the request refuses it, and every other row leaves it. -/
theorem onlyManagersWrite : Obligations.OnlyManagersWrite := by
  unfold Obligations.OnlyManagersWrite
  intro s source tag op fields rest m h hop hm hothers
  have hread := serviceOf_ne_read (tag := tag) (fields := fields) hop
  refine ⟨mem_checkedServices.mpr ⟨_, hread, rfl⟩, ?_, fun c hc hne => ?_⟩
  · have hwork := rowWork_refused (r := ⟨source, tag :: op :: fields⟩) (s := s) hread rfl hop rfl
      (passesManagers_eq_false hm hothers)
    obtain ⟨t, hexec, hrest, happends, hframe⟩ := exec_unaffected (workOf_commandOf _) h rfl hwork
    have hhead : ∃ more, answerOf (tag :: op :: fields) .notManager s.mr.plan = [tag, op, 8] ++ more := ⟨_, rfl⟩
    obtain ⟨more, hmore⟩ := hhead
    refine ⟨t, more, hexec, hrest, hmore ▸ happends, ?_, ?_, hframe⟩
    · rintro rfl
      exact (List.append_cancel_left (as := [tag, 3, 8]) hmore).symm
    · rintro table index record rfl rfl
      exact (List.append_cancel_left (as := [tag, 2, 8]) hmore).symm
  · obtain ⟨row, -, rfl⟩ := mem_checkedServices.mp hc
    have hidle : State.serve row (rowWork row) s = s :=
      State.serve_other h fun hrow => hne (congrArg Claims.commandOf hrow.symm)
    rw [exec_quiet (workOf_commandOf row) h.1 (by rw [hidle]), hidle]

/-! ### RESTART (O36) -/

/-- Settles O36: an offer of the answer decides the phase, and in both of them every service waits. -/
theorem restartIsScheduled : Obligations.RestartIsScheduled := by
  unfold Obligations.RestartIsScheduled
  refine ⟨fun s source tag rest h => ?_, fun s c hp hphase hc => ?_⟩
  · have hoffer (x : Queued) : replaces (s.answerFrame source [tag, 3, 0, 2] .restartAnswer) x = false := rfl
    have hwork : State.serve .restart restartWork s =
        { ({ (s.offer .up (s.answerFrame source [tag, 3, 0, 2] .restartAnswer)).1 with
              mr.restart := if s.li.up.queue.length < queueSize then .answering else .due } : State) with
          mr.requests := rest } := by
      rw [State.serve_head (row := .restart) h.1 rfl, restartWork, if_pos h.2]
      by_cases hroom : (s.port .up).queue.length < queueSize
      · have hoffered := s.offer_room (fun x _ => hoffer x) hroom
        rw [if_pos (show s.li.up.queue.length < queueSize from hroom)]
        simp only [answerOf_command, Status.code, hoffered, if_true]
      · have hoffered := s.offer_full (fun x _ => hoffer x) (Nat.not_lt.mp hroom)
        rw [if_neg (show ¬s.li.up.queue.length < queueSize from hroom)]
        simp only [answerOf_command, Status.code, hoffered, Bool.false_eq_true, if_false]
    have hframe := workOf_frame (c := .restart) rfl s
    have happends := s.offer_appends .up hoffer
    rw [exec_quiet (c := .restart) rfl h.1.1 (by rw [hwork]; simp [State.unmasked])]
    refine ⟨_, rfl, by rw [hwork], by rw [hwork]; exact happends, by rw [hwork], ?_⟩
    exact State.changesOnly_mono hframe (by simp [workParts, answeredParts, Set.subset_def])
  · have hrow : ∃ row, c = Claims.commandOf row := by
      rcases hc with rfl | hc
      · exact ⟨.read, rfl⟩
      · obtain ⟨row, -, e⟩ := mem_checkedServices.mp hc
        exact ⟨row, e⟩
    obtain ⟨row, rfl⟩ := hrow
    have hidle : State.serve row (rowWork row) s = s := State.serve_restarting hphase
    rw [exec_quiet (workOf_commandOf row) hp (by rw [hidle]), hidle]

end Sys2Proof.Machine
end

section
/-! The COMMANDs on clock, flags, counters, inputs, battery and bays (O35, O37, O38, O39). -/

namespace Sys2Proof.Machine

/-! ### Arguments (10.4) -/

theorem readU_field16 (v : BitVec 16) (back : List Byte) : readU (field16 v ++ back) 0 2 = v.toNat :=
  readU_bytesOf [] back (w := 2) v.isLt

theorem readU_behind_field16 (v : BitVec 16) {w n : Nat} (h : n < 256 ^ w) : readU (field16 v ++ bytesOf w n) 2 w = n := by
  simpa using readU_bytesOf (field16 v) [] h

theorem takeNat_zero (hi n : Nat) : takeNat 0 hi n = (min hi n, decide (hi < n)) := by
  simp only [takeNat, Nat.zero_max, Prod.mk.injEq, true_and, decide_eq_decide]
  omega

/-! ### SET_CLOCK, CLEAR_EVENTS, CLEAR_COUNTERS (O35) -/

theorem commandSetClock_eq (s : State) (tag : Byte) (day : BitVec 16) {second : Nat} (h : second < 16777216) :
    commandSetClock ([tag, 3, 1] ++ field16 day ++ bytesOf 3 second) s =
      ({ s with mu.clock := some ⟨day, min 86399 second⟩ }, if 86399 < second then .clamped else .ok) := by
  refine (withArguments_enough (arguments := field16 day ++ bytesOf 3 second) s (by simp [field16])).trans ?_
  rw [readU_field16, readU_behind_field16 day h, State.setSiteClock, takeNat_zero]
  simp

theorem State.clearEvents_isPending (s : State) (named : BitVec 16) (e : Event) :
    (s.clearEvents named).isPending e = (s.isPending e && !named.getLsbD e.code) := by
  have hcode : e.code < 16 := by cases e <;> decide
  simp [State.isPending_eq, State.clearEvents, hcode]

theorem commandClearEvents_eq (s : State) (tag : Byte) (named : BitVec 16) :
    commandClearEvents ([tag, 3, 8] ++ field16 named) s = (s.clearEvents named, .ok) := by
  refine (withArguments_enough (arguments := field16 named) s (by simp [field16])).trans ?_
  rw [← List.append_nil (field16 named), readU_field16]
  simp

/-- An event whose pending set only shrinks sends no STATUS frame. -/
theorem State.clearEvents_quiet (s : State) (named : BitVec 16) (h : s.unmasked = 0) : (s.clearEvents named).unmasked = 0 := by
  have hand : (s.clearEvents named).unmasked = s.unmasked &&& ~~~ named := by
    simp only [State.unmasked, State.clearEvents]
    ext i hi
    simp [Bool.and_right_comm]
  simp [hand, h]

/-- Settles O35. -/
theorem clockAndClears : Obligations.ClockAndClears := by
  unfold Obligations.ClockAndClears
  refine ⟨fun s source tag day second rest h hsecond => ?clock, fun s source tag named rest h => ?events,
    fun s source tag rest h => ?counters⟩
  case clock =>
    have hset : s.changesOnly { s with mu.clock := some ⟨day, min 86399 second⟩ } {.clock} := by
      simpa [State.setSiteClock, takeNat_zero] using s.setSiteClock_frame day second
    have hpayload : answerOf ([tag, 3, 1] ++ field16 day ++ bytesOf 3 second) (if 86399 < second then .clamped else .ok)
        s.mr.plan = [tag, 3, if 86399 < second then 1 else 0, 1] :=
      (answerOf_command tag 1 (field16 day ++ bytesOf 3 second) _ _).trans (by split <;> rfl)
    obtain ⟨hexec, happends, hframe⟩ := exec_checked_quiet (c := .setClock) (work := commandSetClock) rfl h rfl
      (commandSetClock_eq s tag day hsecond) hpayload hset (by simp) (by simp) (by simp) rfl
    exact ⟨_, hexec, by simp, by simp, happends, hframe⟩
  case events =>
    obtain ⟨hexec, hgains, hframe⟩ := exec_checked (c := .clearEvents) (work := commandClearEvents) rfl h rfl
      (commandClearEvents_eq s tag named) rfl (s.clearEvents_frame named) (by simp) (by simp) (by simp)
    have hquiet : inEvent (fun _ => (s.clearEvents named).answered source [tag, 3, 0, 8] rest) s =
        (s.clearEvents named).answered source [tag, 3, 0, 8] rest := by
      rcases inEvent_cases (fun _ => (s.clearEvents named).answered source [tag, 3, 0, 8] rest) s with ⟨-, e⟩ | ⟨h0, h1, -⟩
      · exact e
      · exact absurd (by simpa using s.clearEvents_quiet named h0) h1
    refine ⟨_, hexec, ?_, fun e => ?_, ?_, hframe⟩
    · simp
    · rw [inEvent_isPending, State.answered_isPending, State.clearEvents_isPending]
    · refine Eq.mpr (congrArg (fun t => s.appends t .up _) hquiet) ?_
      exact State.appends_of_same (u := s.clearEvents named) rfl rfl (State.answered_appends _ _ _ _)
  case counters =>
    have hw : commandClearCounters [tag, 3, 9] s = (s.zeroCounters, .ok) := rfl
    have hexec := exec_answered_quiet (c := .clearCounters) (u := s.zeroCounters) rfl h.1 rfl
      (checked_allowed h.2 hw) rfl
    have happends := s.zeroCounters.answered_appends source [tag, 3, 0, 9] rest
    have hframe := s.zeroCounters.answered_frame source [tag, 3, 0, 9] rest
    refine ⟨_, hexec, by simp, fun p => ?_, ?_, ?_, ?_, by simp; rfl, by simp; rfl, by simp; rfl, by simp; rfl, ?_⟩
    · exact (hframe (.counters p) (by simp [answeredParts])).trans (by cases p <;> rfl)
    · exact hframe (.drops .down) (by simp [answeredParts])
    · unfold State.appends at happends
      split at happends
      next hroom => exact (happends.1).trans (if_pos hroom).symm
      next hroom => exact (happends.1).trans (if_neg hroom).symm
    · unfold State.appends at happends
      split at happends
      next hroom => exact (happends.2).trans (if_pos hroom).symm
      next hroom => exact (happends.2).trans (if_neg hroom).symm
    · refine State.changesOnly_seq s.zeroCounters_frame hframe ?_ Set.subset_union_right
      rintro part ((hpart | ⟨p, rfl⟩) | ⟨p, rfl⟩)
      · simp only [Set.mem_insert_iff, Set.mem_singleton_iff] at hpart
        rcases hpart with rfl | rfl | rfl | rfl <;> simp
      · cases p <;> simp
      · cases p <;> simp [answeredParts]

/-! ### Served evaluations -/

/-- An answer and a STATUS frame leave what an evaluation has left. -/
theorem sameForBattery_served (s u : State) (source : Byte) (payload : List Byte) (rest : List Request) :
    SameForBattery u (inEvent (fun _ => u.answered source payload rest) s) :=
  ⟨by simp, by simp, by simp, by simp, by simp⟩

/-! ### SHED_CLEAR (O38) -/

theorem shedClear_level {s : State} (h : s.mr.site.shedSense = .levelHigh ∨ s.mr.site.shedSense = .levelLow) :
    s.shedClear = (s, .refusedState) := by
  rcases h with h | h <;> simp [State.shedClear, h, Sense.isLevel]

theorem shedClear_edge {s : State} (h : s.mr.site.shedSense = .rising ∨ s.mr.site.shedSense = .falling)
    (hfits : s.siu.shed.active = s.siu.shed.latch) :
    s.shedClear = (({ s with siu.shed := ⟨s.siu.shed.high, false, false⟩ } : State).raiseIf s.siu.shed.latch .shedChange, .ok) := by
  rcases h with h | h <;> simp [State.shedClear, h, Sense.isLevel, Input.cleared, State.setShed, hfits]

/-- Settles O38. -/
theorem shedClearBySense : Obligations.ShedClearBySense := by
  unfold Obligations.ShedClearBySense
  refine fun s source tag rest h => ⟨fun hlevel => ?level, fun hedge hfits => ?edge⟩
  case level =>
    exact exec_checked_unaffected (c := .shedClear) (work := fun _ => State.shedClear) rfl h rfl (shedClear_level hlevel) rfl
  case edge =>
    have hframe : s.changesOnly (({ s with siu.shed := ⟨s.siu.shed.high, false, false⟩ } : State).raiseIf s.siu.shed.latch
        .shedChange) {.shed, .events} := by
      simpa [shedClear_edge hedge hfits] using s.shedClear_frame
    obtain ⟨hexec, hgains, hframe⟩ := exec_checked (c := .shedClear) (work := fun _ => State.shedClear) rfl h rfl
      (shedClear_edge hedge hfits) (payload := [tag, 3, 0, 4]) rfl hframe (by simp) (by simp) (by simp)
    refine ⟨_, hexec, by simp, by simp, hgains, fun hlatch => ⟨by simp [hlatch], hframe⟩, fun hlatch => ?_⟩
    · have hsame : s.changesOnly ({ s with siu.shed := ⟨s.siu.shed.high, false, false⟩ } : State) ∅ := by
        have hshed : (⟨s.siu.shed.high, false, false⟩ : Input) = s.siu.shed := by
          cases hi : s.siu.shed with
          | mk high active latch => simp_all
        rw [hshed]
        exact s.changesOnly_refl ∅
      rw [hlatch] at hexec ⊢
      exact State.changesOnly_seq (State.changesOnly_seq hsame (State.answered_frame _ _ _ _) (Set.empty_subset _) Set.Subset.rfl)
        (inEvent_after _ s) Set.Subset.rfl (by simp [answeredParts])

/-! ### RESUME (O37) -/

theorem levelActive_iff {sense : Sense} {high : Bool} :
    sense.levelActive high = true ↔ (sense = .levelHigh ∧ high = true) ∨ (sense = .levelLow ∧ high = false) := by
  cases sense <;> simp [Sense.levelActive]

theorem modeOf_frozen {t : BatteryTable} (h : t.control = .auto) (memory : Option Memory) (flag : Bool) :
    modeOf t true memory flag = .island := by
  unfold modeOf
  rw [if_neg (by simp [h]), if_pos rfl]

theorem modeOf_stale {t : BatteryTable} (h : t.control = .auto) (flag : Bool) : modeOf t false none flag = .off := by
  unfold modeOf
  rw [if_neg (by simp [h]), if_neg (by simp)]

theorem modeOf_unfrozen {t : BatteryTable} (h : t.control = .auto) (memory : Option Memory) (flag : Bool) :
    modeOf t false memory flag ≠ .island := by
  unfold modeOf
  rw [if_neg (by simp [h]), if_neg (by simp)]
  rcases memory with _ | m
  · simp
  · cases flag <;> cases m <;> simp [Memory.mode]

/-- Settles O37: RESUME is refused, or clears latch and freeze; a freeze that was set is cleared by an evaluation. -/
theorem resumeEndsTheFreeze : Obligations.ResumeEndsTheFreeze := by
  unfold Obligations.ResumeEndsTheFreeze
  refine fun s source tag rest h => ⟨fun hstanding => ?refused, fun hstanding => ?taken⟩
  case refused =>
    exact exec_checked_unaffected (c := .resume) (work := fun _ => State.resume) rfl h rfl
      (if_pos (levelActive_iff.mpr hstanding)) rfl
  case taken =>
    have hresume : s.resume =
        (({ s with siu.island := s.siu.island.cleared s.mr.site.islandSense } : State).setFreeze false, .ok) :=
      if_neg (mt levelActive_iff.mp hstanding)
    have hframe := s.resume_frame
    rw [hresume] at hframe
    obtain ⟨hexec, hgains, hframe⟩ := exec_checked (c := .resume) (work := fun _ => State.resume) rfl h rfl hresume
      (payload := [tag, 3, 0, 3]) rfl hframe (by simp) (by simp) (by simp)
    have hevaluates (hfrozen : s.siu.freeze = true) :
        ({ s with siu.island := s.siu.island.cleared s.mr.site.islandSense } : State).setFreeze false =
          ({ s with siu.island := s.siu.island.cleared s.mr.site.islandSense, siu.freeze := false } : State).evaluate := by
      rw [State.setFreeze, if_neg (by simp [hfrozen])]
    refine ⟨_, hexec, by simp, by simp, by simp [Input.cleared], by simp [Input.cleared], ?edge, ?mode, ?evaluates,
      hgains, ?unfrozen, ?frame⟩
    case edge =>
      rintro (hs | hs) <;> simp [Input.cleared, hs, Sense.isLevel]
    case mode =>
      intro hfrozen hauto
      obtain ⟨-, -, -, hmode, -⟩ := State.evaluateWith_bd
        ({ s with siu.island := s.siu.island.cleared s.mr.site.islandSense, siu.freeze := false } : State) []
      rw [inEvent_bd, State.answered_bd, hevaluates hfrozen, State.evaluate, hmode]
      exact modeOf_unfrozen hauto _ _
    case evaluates =>
      intro hfrozen
      refine Claims.evaluates.of_same (evaluateWith_evaluates
        ({ s with siu.island := s.siu.island.cleared s.mr.site.islandSense, siu.freeze := false } : State) [])
        ⟨rfl, rfl, rfl, rfl, rfl⟩ ?_ rfl rfl
      rw [hevaluates hfrozen]
      exact sameForBattery_served s _ _ _ _
    case unfrozen =>
      intro hfreeze
      have hset : ({ s with siu.island := s.siu.island.cleared s.mr.site.islandSense } : State).setFreeze false =
          { s with siu.island := s.siu.island.cleared s.mr.site.islandSense } := if_pos hfreeze
      rw [hset]
      have hisland : s.changesOnly { s with siu.island := s.siu.island.cleared s.mr.site.islandSense } {.island} := by
        intro part hp
        cases part <;> first | exact absurd rfl hp | exact ⟨rfl, rfl⟩ | exact ⟨rfl, rfl, rfl⟩ | rfl
      exact State.changesOnly_seq (State.changesOnly_seq hisland (State.answered_frame _ _ _ _) Set.subset_union_left
        Set.subset_union_right) (inEvent_after _ s) Set.Subset.rfl (by simp [answeredParts, Set.subset_def])
    case frame => exact State.changesOnly_mono hframe (by simp [evaluatedParts, raisedParts, answeredParts, Set.subset_def])

/-! ### TOPUP and FORCE_CLOSE (O39) -/

theorem topUp_refused {s : State}
    (h : ¬(s.bd.table.control = .auto ∧ (s.bd.mode = .reserve ∨ s.bd.mode = .shave ∨ s.bd.mode = .full))) :
    s.topUp = (s, .refusedState) := if_neg h

theorem topUp_taken {s : State}
    (h : s.bd.table.control = .auto ∧ (s.bd.mode = .reserve ∨ s.bd.mode = .shave ∨ s.bd.mode = .full)) :
    s.topUp = (({ s with bd.topUp := true } : State).evaluate, .ok) := if_pos h

/-- What the taking of a TOPUP leaves on fresh figures (R81, R82). -/
theorem evaluatedOn_topUp {s t : State} {x : BatteryFigures} (h : Claims.evaluatedOn { s with bd.topUp := true } t x)
    (hauto : s.bd.table.control = .auto) (hmode : s.bd.mode = .reserve ∨ s.bd.mode = .shave ∨ s.bd.mode = .full)
    (hfreeze : s.siu.freeze = false) :
    (x.soc < s.bd.table.topUpTarget →
      t.bd.topUp = true ∧ t.bd.mode = .topUp ∧ t.bd.offerBd = 0 ∧
        t.bd.offerBc = min s.bd.table.chargeRating x.charge ∧ t.isPending .batteryMode = true) ∧
    (s.bd.table.topUpTarget ≤ x.soc → t.bd.topUp = false ∧ t.isPending .topUpDone = true) := by
  obtain ⟨m, -, -, -, -, -, hbelow, hflag, -, hchanged⟩ := h
  obtain ⟨hflag, hdone⟩ := hflag hauto
  refine ⟨fun hsoc => ?_, fun hsoc => ?_⟩
  · obtain ⟨hm, hbd, hbc⟩ := hbelow hauto hfreeze rfl hsoc
    refine ⟨by simp [hflag, hfreeze, hsoc], hm, hbd, hbc, ?_⟩
    rcases hmode with h | h | h <;> simp [hchanged, hm, h]
  · simp [hflag, hdone, hfreeze, hsoc, Nat.not_lt.mpr hsoc]

theorem commandForceClose_eq (s : State) (tag bay : Byte) : commandForceClose [tag, 3, 6, bay] s = s.forceClose bay.toNat := by
  refine (withArguments_enough (arguments := [bay]) s (by simp)).trans ?_
  rw [readU_head]

theorem forceClose_badIndex {s : State} {bay : Nat} (h : 32 ≤ bay) : s.forceClose bay = (s, .badIndex) :=
  dif_neg (Nat.not_lt.mpr h)

theorem forceClose_running {s : State} {b : BayNo}
    (h : (s.bay b).session.state = .connected ∨ (s.bay b).session.state = .active ∨ (s.bay b).session.state = .silent) :
    s.forceClose b.val = (s.close b .forced, .ok) := by
  rw [State.forceClose, dif_pos b.isLt]
  rcases h with h | h | h <;> simp [h]

theorem forceClose_refused {s : State} {b : BayNo}
    (h : ¬((s.bay b).session.state = .connected ∨ (s.bay b).session.state = .active ∨ (s.bay b).session.state = .silent)) :
    s.forceClose b.val = (s, .refusedState) := by
  rw [State.forceClose, dif_pos b.isLt]
  cases hs : (s.bay b).session.state <;> simp_all

/-- Settles O39: a taken TOPUP is an evaluation with the flag set, and FORCE_CLOSE goes by the state of the bay. -/
theorem topUpAndForceClose : Obligations.TopUpAndForceClose := by
  unfold Obligations.TopUpAndForceClose
  refine ⟨fun s source tag rest h => ⟨fun hnot => ?refused, fun htaken => ?taken⟩, fun s source tag bay rest h =>
    ⟨fun hbay => ?badBay, fun b hb => ⟨fun hrunning => ?closed, fun hnot => ?standing⟩⟩⟩
  case refused =>
    exact exec_checked_unaffected (c := .topUp) (work := fun _ => State.topUp) rfl h rfl (topUp_refused hnot) rfl
  case taken =>
    have hframe : s.changesOnly ({ s with bd.topUp := true } : State).evaluate {.battery, .events, .queue .down} := by
      refine State.changesOnly_seq (a := {.battery}) ?_ (State.evaluate_frame _) (by simp) subset_rfl
      intro part hp
      cases part <;> first | exact absurd rfl hp | exact ⟨rfl, rfl⟩ | exact ⟨rfl, rfl, rfl⟩ | rfl
    obtain ⟨hexec, hgains, hframe⟩ := exec_checked (c := .topUp) (work := fun _ => State.topUp) rfl h rfl
      (topUp_taken htaken) (payload := [tag, 3, 0, 5]) rfl hframe (by simp) (by simp) (by simp)
    have hevaluates := Claims.evaluates.of_same (evaluateWith_evaluates ({ s with bd.topUp := true } : State) [])
      (SameForBattery.refl _) (sameForBattery_served s _ source [tag, 3, 0, 5] rest) rfl rfl
    have ⟨hon, _, _⟩ := hevaluates
    exact ⟨_, hexec, by simp, hgains, hevaluates, fun x hfreeze hx => evaluatedOn_topUp (hon x hx) htaken.1 htaken.2 hfreeze,
      State.changesOnly_mono hframe (by simp [evaluatedParts, raisedParts, answeredParts, Set.subset_def])⟩
  case badBay =>
    exact exec_checked_unaffected (c := .forceClose) (work := commandForceClose) rfl h rfl
      ((commandForceClose_eq s tag bay).trans (forceClose_badIndex hbay)) rfl
  case closed =>
    have hw : commandForceClose [tag, 3, 6, bay] s = (s.close b .forced, .ok) := by
      rw [commandForceClose_eq, ← hb, forceClose_running hrunning]
    obtain ⟨hexec, happends, hframe⟩ := exec_checked_quiet (c := .forceClose) (work := commandForceClose) rfl h rfl hw
      (payload := [tag, 3, 0, 6]) rfl (s.close_frame b .forced) (by simp) (by simp) (by simp) rfl
    exact ⟨_, hexec, by simp, by simp [State.close, State.newTimer, State.now], happends, hframe⟩
  case standing =>
    refine exec_checked_unaffected (c := .forceClose) (work := commandForceClose) (status := .refusedState) rfl h rfl ?_ rfl
    exact (commandForceClose_eq s tag bay).trans (hb ▸ forceClose_refused hnot)

end Sys2Proof.Machine
end

section
/-! Served WRITEs: the plan check and the answer behind the record taken, and the tables of bays, tariffs, mask, battery and canopy
(O27, O29, O30, O31). -/

namespace Sys2Proof.Machine

/-! ### What a plan check looks at (R172) -/

/-- Two states with the same tables, entries and bays fail the same checks. -/
theorem State.planFault_of_same {s t : State} (hfs : t.fs = s.fs) (hbays : t.bays = s.bays) (hbd : t.bd.table = s.bd.table)
    (hcc : t.cc.table = s.cc.table) (hmu : t.mu = s.mu) : t.planFault = s.planFault := by
  have hfinds : t.checkFinds = s.checkFinds := by
    funext check
    cases check <;>
      simp only [State.checkFinds, State.secondOf, State.bay, State.chargerOf, State.stringEntry, State.stationFor,
        State.findStation, State.tariffOrder, hfs, hbays, hbd, hcc, hmu]
  simp only [State.planFault, hfinds]

/-! ### The state after a WRITE -/

/-- A WRITE whose record `u` has taken: the plan check, the answer and the STATUS frame of the event. -/
def State.written (s u : State) (source tag code index : Byte) (clamped : Bool) (rest : List Request) : State :=
  inEvent (fun _ => u.planCheck.answered source
    ([tag, 2, if clamped then 1 else 0, code, index] ++ planBytes u.planFault) rest) s

section
variable (s u : State) (source tag code index : Byte) (clamped : Bool) (rest : List Request)

@[simp] theorem inEvent_bays (work : State → State) : (inEvent work s).bays = (work s).bays := by
  rcases inEvent_cases work s with ⟨-, e⟩ | ⟨-, -, e⟩ <;> simp [e]

@[simp] theorem State.written_fs : (s.written u source tag code index clamped rest).fs = u.fs := by
  simp [State.written, State.planCheck]
@[simp] theorem State.written_siu : (s.written u source tag code index clamped rest).siu = u.siu := by
  simp [State.written, State.planCheck]
@[simp] theorem State.written_bays : (s.written u source tag code index clamped rest).bays = u.bays := by
  simp [State.written, State.planCheck]
@[simp] theorem State.written_bay (b : BayNo) : (s.written u source tag code index clamped rest).bay b = u.bay b := by
  simp [State.bay]
@[simp] theorem State.written_links : (s.written u source tag code index clamped rest).links = u.links := by
  simp [State.written, State.planCheck]
@[simp] theorem State.written_held : (s.written u source tag code index clamped rest).held = u.held := by
  simp [State.written, State.planCheck]
@[simp] theorem State.written_bd : (s.written u source tag code index clamped rest).bd = u.bd := by
  simp [State.written, State.planCheck]
@[simp] theorem State.written_cc : (s.written u source tag code index clamped rest).cc = u.cc := by
  simp [State.written, State.planCheck]
@[simp] theorem State.written_mu : (s.written u source tag code index clamped rest).mu = u.mu := by
  simp [State.written, State.planCheck]
@[simp] theorem State.written_rq : (s.written u source tag code index clamped rest).rq = u.rq := by
  simp [State.written, State.planCheck]
@[simp] theorem State.written_mr : (s.written u source tag code index clamped rest).mr =
    { u.planCheck.mr with requests := rest } := by simp [State.written]
@[simp] theorem State.written_down : (s.written u source tag code index clamped rest).li.down.queue = u.li.down.queue := by
  simp [State.written, State.planCheck]

@[simp] theorem State.planCheck_plan : u.planCheck.mr.plan = u.planFault := by simp [State.planCheck]
@[simp] theorem State.planCheck_site : u.planCheck.mr.site = u.mr.site := by simp [State.planCheck]
@[simp] theorem State.planCheck_isPending (e : Event) :
    u.planCheck.isPending e = (u.isPending e || (u.planFault.isSome && decide (.planFault = e))) := by
  rw [State.planCheck, State.raiseIf_isPending]
  rfl

@[simp] theorem State.written_isPending (e : Event) : (s.written u source tag code index clamped rest).isPending e =
    (u.isPending e || (u.planFault.isSome && decide (.planFault = e))) := by
  simp [State.written]

theorem State.written_planChecked : Claims.planChecked (s.written u source tag code index clamped rest) := by
  refine ⟨?_, fun h => ?_⟩
  · rw [State.planCheck_plan, State.planFault_of_same (s := u) (by simp) (by simp) (by simp) (by simp) (by simp)]
    simp
  · rw [State.written_mr, State.planCheck_plan] at h
    simp [Option.isSome_iff_ne_none.mpr h]

theorem sameForBattery_written : SameForBattery u (s.written u source tag code index clamped rest) :=
  ⟨by simp, by simp, by simp, by simp, by simp⟩

end

section
variable {s u : State} {source tag code index : Byte} {clamped : Bool} {rest : List Request} {record : List Byte} {c : Instr}
  {work : List Byte → State → State × Status} {parts : Set Part}

theorem takenStatus_code : (takenStatus clamped).code = if clamped then 1 else 0 := by
  cases clamped <;> rfl

/-- A WRITE whose record is taken, behind the manager check. -/
theorem exec_written (hc : workOf c = some (State.serve (writeService code) (checked work)))
    (h : Claims.allowed s ⟨source, [tag, 2, code, index] ++ record⟩ rest)
    (hw : work (tag :: 2 :: code :: index :: record) s = (u.planCheck, takenStatus clamped)) :
    exec c s = .next (s.written u source tag code index clamped rest) := by
  have hanswer : answerOf ([tag, 2, code, index] ++ record) (takenStatus clamped) u.planCheck.mr.plan =
      [tag, 2, if clamped then 1 else 0, code, index] ++ planBytes u.planFault :=
    (answerOf_write tag code index record _ _).trans (by rw [takenStatus_code, State.planCheck_plan])
  have hchecked := checked_allowed h.2 hw
  rw [hanswer] at hchecked
  unfold State.written
  have hrow : serviceOf (⟨source, [tag, 2, code, index] ++ record⟩ : Request).payload = writeService code :=
    serviceOf_write tag code index record
  have hexec := exec_answered hc h.1 hrow hchecked
  exact hexec

/-- The answer of a WRITE, where its record leaves the Up queue to the answer. -/
theorem State.written_gains (hframe : s.changesOnly u parts) (hq : Part.queue .up ∉ parts) (hd : Part.drops .up ∉ parts) :
    s.gains (s.written u source tag code index clamped rest) .up (u.answerTo ⟨source, []⟩
      ([tag, 2, if clamped then 1 else 0, code, index] ++
        planBytes (s.written u source tag code index clamped rest).mr.plan)) := by
  have hplan : (s.written u source tag code index clamped rest).mr.plan = u.planFault := by simp
  have howner : u.planCheck.answerTo ⟨source, []⟩ = u.answerTo ⟨source, []⟩ :=
    State.answerTo_of_site (u.planCheck_frame .site (by simp)) _
  rw [hplan, ← howner]
  have hchecked := State.changesOnly_trans hframe u.planCheck_frame
  exact inEvent_gains (State.appends_of_same (hchecked (.queue .up) (by simp [hq])) (hchecked (.drops .up) (by simp [hd]))
    (State.answered_appends _ _ _ _))

theorem State.written_frame (hframe : s.changesOnly u parts) :
    s.changesOnly (s.written u source tag code index clamped rest) (parts ∪ {.plan, .events} ∪ answeredParts) := by
  have hanswered := State.changesOnly_trans (State.changesOnly_trans hframe u.planCheck_frame)
    (u.planCheck.answered_frame source ([tag, 2, if clamped then 1 else 0, code, index] ++ planBytes u.planFault) rest)
  exact State.changesOnly_seq hanswered (inEvent_after _ s) subset_rfl (by simp [answeredParts, Set.subset_def])

/-- All that a taken WRITE leaves beside its own effect, where the site table stands. -/
theorem exec_write_taken (hc : workOf c = some (State.serve (writeService code) (checked work)))
    (h : Claims.allowed s ⟨source, [tag, 2, code, index] ++ record⟩ rest)
    (hw : work (tag :: 2 :: code :: index :: record) s = (u.planCheck, takenStatus clamped)) (hframe : s.changesOnly u parts)
    (hq : Part.queue .up ∉ parts) (hd : Part.drops .up ∉ parts) (hs : Part.site ∉ parts) :
    exec c s = .next (s.written u source tag code index clamped rest) ∧
      Claims.planChecked (s.written u source tag code index clamped rest) ∧
      s.gains (s.written u source tag code index clamped rest) .up (s.answerTo ⟨source, []⟩
        ([tag, 2, if clamped then 1 else 0, code, index] ++
          planBytes (s.written u source tag code index clamped rest).mr.plan)) ∧
      s.changesOnly (s.written u source tag code index clamped rest) (parts ∪ {.plan, .events} ∪ answeredParts) := by
  refine ⟨exec_written hc h hw, State.written_planChecked .., ?_, State.written_frame hframe⟩
  rw [← State.answerTo_of_site (hframe _ hs)]
  exact State.written_gains hframe hq hd

/-- A table of one record takes one that fits. -/
theorem writeWhole_taken {fits : List Byte → Bool} {take : List Byte → State → State × Bool} (h : fits record = true) :
    writeWhole fits take (tag :: 2 :: code :: 0 :: record) s =
      ((take record s).1.planCheck, takenStatus (take record s).2) := by
  have hfits : ¬(!fits (writeRecord (tag :: 2 :: code :: 0 :: record))) = true := by
    rw [Bool.not_eq_true', Bool.not_eq_false]
    exact h
  rw [writeWhole, if_neg (by simp), if_neg hfits]
  rfl

end

/-! ### TARIFF_WRITE and EVENT_MASK_WRITE (O29) -/

theorem takeProfile_count (record : List Byte) : (takeProfile record).1.bands.length = max 1 (min 8 (readU record 0 1)) := by
  simp [takeProfile, Profile.bands, takeCount, takeNat]

theorem tariffFits_iff (record : List Byte) : tariffFits record = true ↔
    1 + 7 * max 1 (min 8 (readU record 0 1)) ≤ record.length ∧ record.length ≤ 57 := by
  simp [tariffFits, takeCount, takeNat]

/-- Settles O29. -/
theorem tariffAndMaskAreWritten : Obligations.TariffAndMaskAreWritten := by
  unfold Obligations.TariffAndMaskAreWritten
  refine ⟨fun s source tag name record rest => ?tariff, fun s source tag mask rest h => ?mask⟩
  case tariff =>
    intro code h hlow hhigh
    have hfits := (tariffFits_iff record).mpr ⟨hlow, hhigh⟩
    have hframe := s.setProfile_frame name (takeProfile record).1
    have hname : writtenProfile (tag :: 2 :: code :: 0 :: record) = name := by cases name <;> rfl
    have hw := writeWhole_taken (tag := tag) (code := code) (s := s) (take := fun record t =>
      (t.setProfile (writtenProfile (tag :: 2 :: code :: 0 :: record)) (takeProfile record).1, (takeProfile record).2)) hfits
    rw [hname] at hw
    have hc : workOf .tariffWrite = some (State.serve (writeService code) (checked State.writeTariff)) := by
      cases name <;> rfl
    obtain ⟨hexec, hplan, hgains, hframe⟩ := exec_write_taken hc h hw hframe (by simp) (by simp) (by simp)
    refine ⟨_, hexec, by simp, ?_, ?_, takeProfile_count record, hplan, hgains, ?_⟩
    · cases name <;> simp [State.setProfile]
    · cases name <;> simp [State.setProfile]
    · exact State.changesOnly_mono hframe (by simp [answeredParts, Set.subset_def])
  case mask =>
    have hw : State.writeEventMask (tag :: 2 :: 8 :: 0 :: field16 mask) s = ({ s with mr.mask := mask }, .ok) := by
      have hmask : readU (writeRecord (tag :: 2 :: 8 :: 0 :: field16 mask)) 0 2 = mask.toNat := by
        have h := readU_field16 mask []
        rwa [List.append_nil] at h
      rw [State.writeEventMask, if_neg (by simp), if_neg (by simp [writeRecord, field16]), hmask, BitVec.ofNat_toNat,
        BitVec.setWidth_eq]
    have hframe : s.changesOnly { s with mr.mask := mask } {.mask} := by
      intro part hp
      cases part <;> first | exact absurd rfl hp | exact ⟨rfl, rfl⟩ | exact ⟨rfl, rfl, rfl⟩ | rfl
    obtain ⟨hexec, hgains, hframe⟩ := exec_checked (c := .eventMaskWrite) (work := State.writeEventMask) rfl h rfl hw
      (payload := [tag, 2, 0, 8, 0] ++ planBytes s.mr.plan) rfl hframe (by simp) (by simp) (by simp)
    exact ⟨_, hexec, by simp, by simp, hgains, hframe⟩

/-! ### BAY_WRITE (O27) -/

/-- A BAY record as a manager sends it (10.6). -/
theorem takeBay_record (old : BayConfig) (enabled : Bool) (cls : Byte) {cap : Nat} (h : cap < 65536) :
    takeBay old ([if enabled then 1 else 0, cls] ++ bytesOf 2 cap) =
      (⟨enabled, ⟨min 7 cls.toNat, by omega⟩, min 800 cap⟩, decide (7 < cls.toNat ∨ 800 < cap)) := by
  have henabled : takeCode (yesNoOf (readByte ([if enabled then 1 else 0, cls] ++ bytesOf 2 cap) 0)) old.enabled =
      (enabled, false) := by
    cases enabled <;> rfl
  have hcls : readU ([if enabled then 1 else 0, cls] ++ bytesOf 2 cap) 1 1 = cls.toNat := by
    simp [readU, slice, natOfBytes]
  have hcap : readU ([if enabled then 1 else 0, cls] ++ bytesOf 2 cap) 2 2 = cap := by
    have hread := readU_bytesOf [if enabled then 1 else 0, cls] [] (w := 2) h
    rwa [List.append_nil] at hread
  simp only [takeBay, henabled, hcls, hcap, takeNat_zero, Bool.false_or, Prod.mk.injEq, Bool.decide_or, BayConfig.mk.injEq,
    true_and, and_true]
  exact Fin.ext (Nat.mod_eq_of_lt (by omega))

theorem writeBay_taken (s : State) (tag : Byte) (b : BayNo) {record : List Byte} (h : record.length = 4) :
    s.writeBay (tag :: 2 :: 3 :: BitVec.ofNat 8 b.val :: record) =
      ((s.takeBayConfig b (takeBay (s.bay b).config record).1).planCheck,
        takenStatus (takeBay (s.bay b).config record).2) := by
  have hindex : (BitVec.ofNat 8 b.val).toNat = b.val := by
    rw [BitVec.toNat_ofNat]
    exact Nat.mod_eq_of_lt (by omega)
  unfold State.writeBay
  simp only [writeIndex_write, hindex]
  rw [dif_pos b.isLt]
  exact if_neg (not_not.mpr h)

/-- The session of a bay after a change of the enabled field by R16's table. -/
theorem changeEnabled_session (s : State) (b : BayNo) (enabled : Bool) :
    ((s.changeEnabled b enabled).bay b).session =
      match (s.bay b).session.state, enabled with
      | .vacant, false => { (s.bay b).session with state := .disabled }
      | .connected, false | .active, false | .silent, false =>
        { (s.bay b).session with state := .closing, endReason := some .bayDisabled, timer := some s.newTimer }
      | .disabled, true => { (s.bay b).session with state := .vacant }
      | _, _ => (s.bay b).session := by
  unfold State.changeEnabled
  split <;> simp_all [State.close]

theorem takeBayConfig_session (s : State) (b : BayNo) (c : BayConfig) :
    ((s.takeBayConfig b c).bay b).session =
      if (s.bay b).config.enabled = c.enabled then (s.bay b).session
      else
        match (s.bay b).session.state, c.enabled with
        | .vacant, false => { (s.bay b).session with state := .disabled }
        | .connected, false | .active, false | .silent, false =>
          { (s.bay b).session with state := .closing, endReason := some .bayDisabled, timer := some s.newTimer }
        | .disabled, true => { (s.bay b).session with state := .vacant }
        | _, _ => (s.bay b).session := by
  unfold State.takeBayConfig
  dsimp only
  split
  · simp
  · rw [changeEnabled_session]
    simp [State.newTimer, State.now]

/-- Settles O27. -/
theorem bayIsWritten : Obligations.BayIsWritten := by
  unfold Obligations.BayIsWritten
  intro s source tag cls b enabled cap rest h hcap x running was
  have hrecord := takeBay_record (s.bay b).config enabled cls hcap
  have hw := writeBay_taken s tag b (record := [if enabled then 1 else 0, cls] ++ bytesOf 2 cap) rfl
  rw [hrecord] at hw
  obtain ⟨hexec, hplan, hgains, hframe⟩ := exec_write_taken (c := .bayWrite) (code := 3) rfl h hw (s.takeBayConfig_frame b _)
    (by simp) (by simp) (by simp)
  have hsession := takeBayConfig_session s b ⟨enabled, ⟨min 7 cls.toNat, by omega⟩, min 800 cap⟩
  refine ⟨_, hexec, by simp, ?_, ?_, ?_, ?_, ?_, ?_, hplan, ?_, ?_⟩
  · rw [State.written_bay, s.takeBayConfig_config]
  · intro hsame
    rw [State.written_bay, hsession, if_pos hsame]
  · intro hstate
    rw [State.written_bay, hsession]
    rcases hstate with hstate | hstate <;> simp [x] at hstate ⊢ <;> simp [hstate]
  · intro hwas henabled hstate
    rw [State.written_bay, hsession]
    simp [was, x] at hwas hstate ⊢
    simp [hwas, henabled, hstate]
  · intro hwas henabled hstate
    rw [State.written_bay, hsession]
    simp [was, running, x] at hwas hstate ⊢
    rcases hstate with hstate | hstate | hstate <;> simp [hwas, henabled, hstate, State.newTimer, State.now]
  · intro hwas henabled hstate
    rw [State.written_bay, hsession]
    simp [was, x] at hwas hstate ⊢
    simp [hwas, henabled, hstate]
  · simpa using hgains
  · exact State.changesOnly_mono hframe (by simp [answeredParts, Set.subset_def])

/-! ### BATTERY_WRITE (O30) -/

/-- The battery state on which BD evaluates a new table: a change of control has forgotten what R87 names. -/
def BatteryState.takes (x : BatteryState) (table : BatteryTable) : BatteryState :=
  { x with
    table
    manual := if table.control ≠ x.table.control then 0 else x.manual
    topUp := if table.control ≠ x.table.control then false else x.topUp
    sent := if table.control ≠ x.table.control then none else x.sent }

/-- The Down queue on which BD evaluates a new table: a change to AUTO has withdrawn the battery's LIMITs. -/
def State.limitsWithdrawn (s : State) (table : BatteryTable) : List Queued :=
  if table.control ≠ s.bd.table.control ∧ table.control = .auto then
    s.li.down.queue.filter fun q => !decide (q.frame.kind = kindLimit ∧ s.batteryAddress = some q.frame.dest)
  else s.li.down.queue

/-- The state on which BD evaluates a new table. -/
def State.tableTaken (s : State) (table : BatteryTable) : State :=
  { s with bd := s.bd.takes table, li.down.queue := s.limitsWithdrawn table }

/-- A new battery table is taken by one evaluation. -/
theorem takeBatteryTable_evaluates (s : State) (table : BatteryTable) :
    s.takeBatteryTable table = (s.tableTaken table).evaluate := by
  unfold State.takeBatteryTable State.tableTaken
  dsimp only
  congr 1
  by_cases hcontrol : s.bd.table.control = table.control
  · rw [if_pos hcontrol, State.limitsWithdrawn, if_neg (by simp [hcontrol])]
    simp [BatteryState.takes, hcontrol]
  · rw [if_neg hcontrol]
    by_cases hauto : table.control = .auto
    · have hfilter : (fun q : Queued => !(q.frame.kind == kindLimit && s.batteryAddress.toList.contains q.frame.dest)) =
          fun q => !decide (q.frame.kind = kindLimit ∧ s.batteryAddress = some q.frame.dest) := by
        funext q
        cases haddress : s.batteryAddress <;> simp [Bool.decide_and, BEq.beq, eq_comm]
      rw [if_pos hauto, State.limitsWithdrawn, if_pos ⟨Ne.symm hcontrol, hauto⟩, ← hfilter]
      simp [BatteryState.takes, State.withdraw, State.setQueue, State.setPort, State.port, Ne.symm hcontrol]
      rfl
    · rw [if_neg hauto, State.limitsWithdrawn, if_neg (fun h => hauto h.2)]
      simp [BatteryState.takes, Ne.symm hcontrol]

theorem topUpAfter_clear (t : BatteryTable) (frozen : Bool) (figures : Option BatteryFigures) :
    (topUpAfter t frozen figures false).1 = false := by
  unfold topUpAfter
  split
  · rfl
  · cases figures <;> rfl

/-- Settles O30: a new table is one evaluation behind what R87 forgets. -/
theorem batteryIsWritten : Obligations.BatteryIsWritten := by
  unfold Obligations.BatteryIsWritten
  intro s source tag record rest h hlen table status
  have hw := writeWhole_taken (tag := tag) (code := 6) (s := s) (record := record) (fits := fun r => r.length == 22)
    (take := fun record t => (t.takeBatteryTable (takeBattery t.bd.table record).1, (takeBattery t.bd.table record).2))
    (by simp [hlen])
  obtain ⟨hexec, hplan, hgains, hframe⟩ := exec_write_taken (c := .batteryWrite) (code := 6) (work := State.writeBattery) rfl h hw
    (s.takeBatteryTable_frame table) (by simp) (by simp) (by simp)
  have hu : s.takeBatteryTable table = (s.tableTaken table).evaluate := takeBatteryTable_evaluates s table
  obtain ⟨htable, hmemory, hflag, hmode, hoffer, hmanual⟩ := (s.tableTaken table).evaluateWith_bd []
  have hsent := (s.tableTaken table).evaluateWith_sent []
  have hqueue := (s.tableTaken table).evaluateWith_queue []
  have hchanged := (s.tableTaken table).evaluateWith_isPending [] .batteryMode
  have hevaluates : Claims.evaluates (s.tableTaken table)
      (s.written (s.takeBatteryTable table) source tag 6 0 (takeBattery s.bd.table record).2 rest) [] := by
    refine Claims.evaluates.of_same (evaluateWith_evaluates (s.tableTaken table) []) (SameForBattery.refl _) ?_ rfl rfl
    rw [← State.evaluate, ← hu]
    exact sameForBattery_written ..
  refine ⟨_, hexec, by simp, ?table, hplan, hgains, hevaluates, ?manual, ?island, ?off, ?forgotten, ?offer, ?withdrawn, ?event,
    State.changesOnly_mono hframe (by simp [evaluatedParts, raisedParts, answeredParts, Set.subset_def])⟩
  all_goals simp only [State.written_bd, State.written_down, State.written_isPending]
  all_goals rw [show s.takeBatteryTable _ = _ from hu]
  case table => exact htable
  case manual =>
    intro hcontrol
    exact hmode.trans (if_pos hcontrol)
  case island =>
    intro hcontrol hfrozen
    rw [State.evaluate, hmode, show (s.tableTaken table).siu.freeze = true from hfrozen]
    exact modeOf_frozen hcontrol _ _
  case off =>
    intro hcontrol hfrozen hstale
    rw [State.evaluate, hmode, show (s.tableTaken table).siu.freeze = false from hfrozen,
      show (s.tableTaken table).batteryFigures = none from hstale]
    exact modeOf_stale hcontrol _
  case forgotten =>
    intro hcontrol
    refine ⟨hmanual.trans (if_pos hcontrol), hflag.trans ?_, hsent.trans ?_⟩
    · rw [show (s.tableTaken table).bd.topUp = false from if_pos hcontrol, topUpAfter_clear]
    · rw [show (s.tableTaken table).bd.sent = none from if_pos hcontrol, ite_self]
  case offer =>
    intro hcontrol hwas
    have hzero : (s.tableTaken table).bd.manual = 0 := if_pos (by simp [hcontrol, hwas])
    rw [hmode, show modeOf (s.tableTaken table).bd.table _ _ _ = .manual from if_pos hcontrol, hzero] at hoffer
    simpa [offerOf, State.evaluate] using hoffer
  case withdrawn =>
    intro hcontrol hwas q hq
    have hwaits : q ∈ s.limitsWithdrawn table := by
      have hq' : q ∈ ((s.tableTaken table).evaluateWith []).li.down.queue := hq
      rw [hqueue] at hq'
      split at hq'
      · exact (List.mem_filter.mp hq').1
      · exact hq'
    rw [State.limitsWithdrawn, if_pos (by simp [hcontrol, hwas])] at hwaits
    exact of_decide_eq_false (Bool.not_eq_true' _ ▸ (List.mem_filter.mp hwaits).2)
  case event =>
    intro hmoved
    have hmoved' : ((s.tableTaken table).evaluateWith []).bd.mode ≠ (s.tableTaken table).bd.mode := hmoved
    rw [State.evaluate, hchanged]
    simp [hmoved']

/-! ### CANOPY_WRITE (O31) -/

theorem StringState.offRating_iff (x : StringState) (rating : Nat) :
    x.offRating rating = true ↔ ∃ last, x.sent = some last ∧ last.cap ≠ rating := by
  unfold StringState.offRating
  cases x.sent <;> simp

theorem StringState.unreleased_iff (x : StringState) (rating : Nat) :
    x.unreleased rating = true ↔ x.sent.map (·.cap) ≠ some rating := by
  unfold StringState.unreleased
  cases x.sent <;> simp

/-- The strings marked for release, by R92 and R102. -/
theorem markReleases_release (s : State) (ended : Bool) (was : StringNo → Bool) (j : StringNo) :
    (s.markReleases ended was).cc.strings[j].release = true ↔
      s.cc.strings[j].release = true ∨
        (ended = true ∧ s.stringEntry j ≠ none ∧ s.cc.strings[j].sent.map (·.cap) ≠ some s.cc.table.strings[j].rating) ∨
        (was j = true ∧ s.cc.table.strings[j].enabled = false ∧
          ∃ last, s.cc.strings[j].sent = some last ∧ last.cap ≠ s.cc.table.strings[j].rating) := by
  simp only [State.markReleases, Fin.getElem_fin, Vector.getElem_ofFn, Bool.or_eq_true, Bool.and_eq_true, Bool.not_eq_true',
    StringState.offRating_iff, StringState.unreleased_iff, Option.isSome_iff_ne_none, CanopyTable.on]
  tauto

@[simp] theorem markReleases_sent (s : State) (ended : Bool) (was : StringNo → Bool) (j : StringNo) :
    (s.markReleases ended was).cc.strings[j].sent = s.cc.strings[j].sent := by
  simp [State.markReleases]

@[simp] theorem markReleases_cap (s : State) (ended : Bool) (was : StringNo → Bool) (j : StringNo) :
    (s.markReleases ended was).cc.strings[j].cap = s.cc.strings[j].cap := by
  simp [State.markReleases]

/-- The amount K on which a new canopy table is taken (R92). -/
def CanopyTable.bounded (table : CanopyTable) (amount : Nat) : Nat :=
  if table.enabled then min amount (ratingSum table table.on) else 0

section
variable (s : State) (table : CanopyTable) (j : StringNo)

theorem takeCanopyTable_amount : (s.takeCanopyTable table).cc.amount = table.bounded s.cc.amount := rfl

theorem takeCanopyTable_cap : (s.takeCanopyTable table).cc.strings[j].cap =
    if table.bounded s.cc.amount = 0 ∨ table.strings[j].enabled = false then none else s.cc.strings[j].cap := by
  simp [State.takeCanopyTable, State.markReleases, CanopyTable.bounded, CanopyTable.on]

theorem takeCanopyTable_sent : (s.takeCanopyTable table).cc.strings[j].sent = s.cc.strings[j].sent := by
  simp [State.takeCanopyTable, State.markReleases]

theorem takeCanopyTable_release : (s.takeCanopyTable table).cc.strings[j].release = true ↔
    s.cc.strings[j].release = true ∨
      (0 < s.cc.amount ∧ table.bounded s.cc.amount = 0 ∧ s.stringEntry j ≠ none ∧
        s.cc.strings[j].sent.map (·.cap) ≠ some table.strings[j].rating) ∨
      (s.cc.table.strings[j].enabled = true ∧ table.strings[j].enabled = false ∧
        ∃ last, s.cc.strings[j].sent = some last ∧ last.cap ≠ table.strings[j].rating) := by
  have hmarked : (s.takeCanopyTable table).cc.strings[j].release =
      ((({ s with cc.table := table, cc.amount := table.bounded s.cc.amount } : State).markReleases
        (s.cc.amount != 0 && table.bounded s.cc.amount == 0) s.cc.table.on).cc.strings[j]).release := by
    simp only [State.takeCanopyTable, CanopyTable.bounded, Fin.getElem_fin, Vector.getElem_ofFn]
  rw [hmarked, markReleases_release]
  simp only [Bool.and_eq_true, bne_iff_ne, beq_iff_eq, Nat.pos_iff_ne_zero, and_assoc]
  rfl

end

/-- Settles O31. -/
theorem canopyIsWritten : Obligations.CanopyIsWritten := by
  unfold Obligations.CanopyIsWritten
  intro s source tag record rest h hlen table status enabledRatings
  have hw := writeWhole_taken (tag := tag) (code := 7) (s := s) (record := record) (fits := fun r => r.length == 82)
    (take := fun record t => (t.takeCanopyTable (takeCanopy t.cc.table record).1, (takeCanopy t.cc.table record).2))
    (by simp [hlen])
  obtain ⟨hexec, hplan, hgains, hframe⟩ := exec_write_taken (c := .canopyWrite) (code := 7) (work := State.writeCanopy) rfl h hw
    (s.takeCanopyTable_frame table) (by simp) (by simp) (by simp)
  have hamount : (s.takeCanopyTable table).cc.amount = table.bounded s.cc.amount := takeCanopyTable_amount s table
  refine ⟨_, hexec, by simp, ?_, hplan, hgains, ?_, fun j => ?_, fun j => ?_, fun j => ?_, ?_⟩
  · rw [State.written_cc]
    rfl
  · rw [State.written_cc]
    exact hamount
  · rw [State.written_cc]
    exact (takeCanopyTable_cap s table j).trans (by rw [← hamount])
  · rw [State.written_cc]
    exact takeCanopyTable_sent s table j
  · rw [State.written_cc]
    exact (takeCanopyTable_release s table j).trans (by rw [← hamount])
  · refine State.changesOnly_mono hframe fun part hpart => ?_
    simp only [Set.mem_union, Set.mem_insert_iff, Set.mem_singleton_iff] at hpart ⊢
    tauto

end Sys2Proof.Machine
end

section
/-! Control pins and measurement records (O44, O46, O7). -/

namespace Sys2Proof.Machine

/-- An event leaves what BD holds as its work has left it. -/
theorem sameForBattery_event (work : State → State) (s : State) : SameForBattery (work s) (inEvent work s) :=
  ⟨by simp, by simp, by simp, by simp, by simp⟩

/-! ### Pin levels (O44) -/

theorem Input.take_eq (i : Input) (sense : Sense) (high : Bool) : i.take sense high = Claims.inputAfter i high sense := by
  cases sense <;> simp [Input.take, Input.formed, Claims.inputAfter, Sense.isLevel, Sense.levelActive, Sense.edge]

theorem setShed_events (s : State) (i : Input) : (s.setShed i).mr.events =
    if i.active = s.siu.shed.active then s.mr.events else s.mr.events ||| 1#16 := by
  rw [State.setShed]
  by_cases h : i.active = s.siu.shed.active
  · simp [h]
  · rw [if_neg h, show (i.active != s.siu.shed.active) = true by simpa using h]
    rfl

/-- ISLAND that does not become active changes nothing else. -/
theorem setIsland_quiet {s : State} {i : Input} (h : i.active = false ∨ s.siu.island.active = true) :
    s.setIsland i = { s with siu.island := i } := by
  rcases h with h | h <;> simp [State.setIsland, h]

section
variable {s : State} {i : Input}

/-- ISLAND becoming active raises ISLAND_ON and sets the freeze. -/
theorem setIsland_becomes (h : i.active = true) (hwas : s.siu.island.active = false) :
    s.setIsland i = (({ s with siu.island := i } : State).raise .islandOn).setFreeze true := by
  simp [State.setIsland, h, hwas]

theorem setIsland_frozen (h : i.active = true) (hwas : s.siu.island.active = false) (hfreeze : s.siu.freeze = true) :
    s.setIsland i = ({ s with siu.island := i } : State).raise .islandOn :=
  (setIsland_becomes h hwas).trans (if_pos hfreeze)

/-- The state on which BD evaluates where ISLAND sets the freeze. -/
def State.islandFrozen (s : State) (i : Input) : State :=
  { ({ s with siu.island := i } : State).raise .islandOn with siu.freeze := true }

theorem setIsland_unfrozen (h : i.active = true) (hwas : s.siu.island.active = false) (hfreeze : s.siu.freeze = false) :
    s.setIsland i = (s.islandFrozen i).evaluate :=
  (setIsland_becomes h hwas).trans (if_neg (show ¬s.siu.freeze = true by simp [hfreeze]))

theorem islandFrozen_isPending (e : Event) :
    (s.islandFrozen i).isPending e = (s.isPending e || decide (.islandOn = e)) :=
  State.raise_isPending { s with siu.island := i } .islandOn e

theorem islandFrozen_evaluates : Claims.evaluates { s with siu.freeze := true } (s.islandFrozen i).evaluate [] := by
  refine Claims.evaluates.of_same (evaluateWith_evaluates (s.islandFrozen i) []) ⟨rfl, rfl, ?_, ?_, rfl⟩ (SameForBattery.refl _)
    rfl rfl
  · rw [islandFrozen_isPending]
    simp [State.isPending]
  · rw [islandFrozen_isPending]
    simp [State.isPending]

/-- What an evaluation under the freeze leaves in AUTO (R76, R78). -/
theorem evaluates_frozen {t : State} {also : List Byte} (h : Claims.evaluates { s with siu.freeze := true } t also)
    (hauto : s.bd.table.control = .auto) :
    t.bd.mode = .island ∧ t.bd.topUp = false ∧ t.bd.offerBd = 0 ∧ t.bd.offerBc = 0 ∧ t.bd.sent = none := by
  obtain ⟨hon, hstale, -⟩ := h
  rcases hfigures : ({ s with siu.freeze := true } : State).batteryFigures with _ | x
  · obtain ⟨-, htop, -, -, hmode, -⟩ := hstale hfigures
    obtain ⟨hmode, hbd, hbc, hsent⟩ := hmode hauto
    exact ⟨hmode, htop, hbd, hbc, hsent⟩
  · obtain ⟨m, -, -, -, -, hisland, -⟩ := hon x hfigures
    exact hisland hauto rfl

theorem setIsland_isPending (h : i.active = true) (hwas : s.siu.island.active = false) :
    (s.setIsland i).isPending .islandOn = true := by
  cases hfreeze : s.siu.freeze
  · rw [setIsland_unfrozen h hwas hfreeze, State.evaluate, State.evaluateWith_isPending, islandFrozen_isPending]
    simp
  · rw [setIsland_frozen h hwas hfreeze, State.raise_isPending]
    simp

end

@[simp] theorem setIsland_island (s : State) (i : Input) : (s.setIsland i).siu.island = i := by
  simp only [State.setIsland]
  split <;> simp

/-- Settles O44: the input by its sense, and on ISLAND becoming active the freeze with its evaluation. -/
theorem pinLevels : Obligations.PinLevels := by
  unfold Obligations.PinLevels
  refine fun s high hp => ⟨?shed, ?island⟩
  case shed =>
    refine ⟨_, exec_powered (c := .shedPinLevel high) rfl hp, ?_, ?_, ?_⟩
    · rw [inEvent_siu]
      simp [State.setShed, Input.take_eq]
    · rw [inEvent_siu, inEvent_mr, setShed_events]
      simp [State.setShed]
    · exact State.changesOnly_mono (inEvent_frame (s.setShed_frame _)) (by simp [raisedParts, Set.subset_def])
  case island =>
    have hframe := s.setIsland_frame (s.siu.island.take s.mr.site.islandSense high)
    refine ⟨_, exec_powered (c := .islandPinLevel high) rfl hp, ?_, fun hactive hwas => ?becomes, fun hquiet => ?quiet,
      State.changesOnly_mono (inEvent_frame hframe) (by simp [evaluatedParts, raisedParts, Set.subset_def])⟩
    · rw [inEvent_siu, ← Input.take_eq, setIsland_island]
    case quiet =>
      rw [inEvent_siu, setIsland_island] at hquiet
      have hset := setIsland_quiet hquiet
      rw [inEvent_of_unmasked (by rw [hset]; rfl), hset]
      exact s.setInput_frame _
    case becomes =>
      rw [inEvent_siu, setIsland_island] at hactive
      refine ⟨?_, ?_, fun hfreeze hauto => ?_, fun hfreeze => ?_, fun hfreeze => ?_⟩
      · rw [inEvent_siu, setIsland_becomes hactive hwas, State.setFreeze_freeze]
      · rw [inEvent_isPending, setIsland_isPending hactive hwas]
      · rw [inEvent_bd, setIsland_unfrozen hactive hwas hfreeze]
        exact evaluates_frozen islandFrozen_evaluates hauto
      · refine Claims.evaluates.of_same (islandFrozen_evaluates (i := s.siu.island.take s.mr.site.islandSense high))
          (SameForBattery.refl _) ?_ rfl rfl
        rw [← setIsland_unfrozen hactive hwas hfreeze]
        exact sameForBattery_event (fun t => t.setIsland (t.siu.island.take t.mr.site.islandSense high)) s
      · refine State.changesOnly_mono (inEvent_frame (a := {.island, .events}) ?_) (by simp [raisedParts, Set.subset_def])
        rw [setIsland_frozen hactive hwas hfreeze]
        exact State.changesOnly_seq (s.setInput_frame _) (State.raise_frame _ _) (by simp) (by simp)

/-! ### Ages and stale turns (O46) -/

theorem staleDue_iff {s : State} {r : MeasRecord} {hold : Nat} :
    r.staleDue s.now hold = true ↔ r.reported = false ∧ Claims.pastHold s r hold := by
  unfold MeasRecord.staleDue Claims.pastHold
  rw [show elapsed s.now r.waitStart = (s.mu.uptime - r.waitStart).toNat from rfl]
  generalize (s.mu.uptime - r.waitStart).toNat = waited
  cases r.values <;> simp

theorem fresh_eq_false {s : State} {r : MeasRecord} {hold : Nat} (h : Claims.pastHold s r hold) : r.fresh hold = false := by
  rcases h with ⟨-, h⟩ | ⟨h, -⟩
  · simp [MeasRecord.fresh, Nat.not_le.mpr h]
  · simp [MeasRecord.fresh, h]

/-- The battery figures come from the values and the age of one record (R34). -/
theorem batteryFigures_congr {s t : State} (hstation : t.stationFor .battery = s.stationFor .battery)
    (hhold : t.mr.site.holdTime = s.mr.site.holdTime)
    (hrecord : ∀ pos e, s.stationFor .battery = some (pos, e) →
      (t.siu.records[pos]).map (fun r => (r.values, r.age)) = (s.siu.records[pos]).map fun r => (r.values, r.age)) :
    t.batteryFigures = s.batteryFigures := by
  have hfresh : t.freshValues .battery = s.freshValues .battery := by
    unfold State.freshValues State.recordFor
    rw [hstation, hhold]
    cases hentry : s.stationFor .battery with
    | none => rfl
    | some entry =>
      obtain ⟨pos, e⟩ := entry
      have h := hrecord pos e hentry
      simp only [Option.bind_some]
      cases hs : s.siu.records[pos] <;> cases ht : t.siu.records[pos] <;> simp [hs, ht, MeasRecord.fresh] at h ⊢
      simp [h.1, h.2]
  simp only [State.batteryFigures, hfresh]

theorem batteryFigures_stale {s : State} {pos : Position} {e : Station} {r : MeasRecord}
    (hstation : s.stationFor .battery = some (pos, e)) (hr : s.siu.records[pos] = some r)
    (hpast : Claims.pastHold s r s.mr.site.holdTime) : s.batteryFigures = none := by
  have hrecord : s.recordFor .battery = some r := by rw [State.recordFor, hstation, Option.bind_some, hr]
  simp [State.batteryFigures, State.freshValues, hrecord, fresh_eq_false hpast]

section
variable {s : State} {pos : Position} {r : MeasRecord} {e : Station}

/-- A record reported stale with its role's event: a stale turn before BD evaluates. -/
def State.reportStale (s : State) (pos : Position) (r : MeasRecord) (e : Station) : State :=
  match e.role.staleEvent with
  | some ev => (s.setRecord pos (some { r with reported := true })).raise ev
  | none => s.setRecord pos (some { r with reported := true })

theorem turnStale_left (hr : s.siu.records[pos] = some r) (h : r.reported = true ∨ ¬Claims.pastHold s r s.mr.site.holdTime) :
    s.turnStale pos = s := by
  have hdue : r.staleDue s.now s.mr.site.holdTime = false := by
    rw [Bool.eq_false_iff, Ne, staleDue_iff]
    rintro ⟨hreported, hpast⟩
    rcases h with h | h
    · simp [h] at hreported
    · exact h hpast
  unfold State.turnStale
  rw [hr]
  split
  · next h _ =>
      cases h
      rw [if_neg (by simp [hdue])]
  · rfl

theorem turnStale_reported (hr : s.siu.records[pos] = some r) (he : s.fs.stations[pos] = some e) (hreported : r.reported = false)
    (hpast : Claims.pastHold s r s.mr.site.holdTime) :
    s.turnStale pos = if e.role = .battery then (s.reportStale pos r e).evaluate else s.reportStale pos r e := by
  unfold State.turnStale
  rw [hr, he]
  dsimp only
  rw [if_pos (staleDue_iff.mpr ⟨hreported, hpast⟩)]
  rfl

theorem reportStale_frame : s.changesOnly (s.reportStale pos r e) {.record pos, .events} := by
  unfold State.reportStale
  split
  · exact State.changesOnly_seq (s.setRecord_frame pos _) (State.raise_frame _ _) (by simp) (by simp)
  · exact State.changesOnly_mono (s.setRecord_frame pos _) (by simp)

theorem reportStale_record : (s.reportStale pos r e).siu.records[pos] = some { r with reported := true } := by
  unfold State.reportStale
  split <;> simp [State.setRecord]

theorem reportStale_isPending (event : Event) :
    (s.reportStale pos r e).isPending event = (s.isPending event || decide (e.role.staleEvent = some event)) := by
  unfold State.reportStale
  split
  next ev h =>
    rw [State.raise_isPending, h]
    simp [State.setRecord, State.isPending]
  next h =>
    rw [h]
    simp [State.setRecord, State.isPending]

theorem reportStale_evaluates (hr : s.siu.records[pos] = some r) :
    Claims.evaluates s (s.reportStale pos r e).evaluate [] := by
  have hframe := reportStale_frame (s := s) (pos := pos) (r := r) (e := e)
  have hsite : (s.reportStale pos r e).mr.site = s.mr.site := hframe .site (by simp)
  have hfs : (s.reportStale pos r e).fs = s.fs := by
    unfold State.reportStale
    split <;> rfl
  have hbd : (s.reportStale pos r e).bd = s.bd := by
    unfold State.reportStale
    split <;> rfl
  have hevent (event : Event) (h : event = .topUpDone ∨ event = .batteryMode) :
      s.isPending event = (s.reportStale pos r e).isPending event := by
    rw [reportStale_isPending]
    rcases h with rfl | rfl <;> cases e.role <;> simp [Role.staleEvent]
  have hstation (role : Role) : s.stationFor role = (s.reportStale pos r e).stationFor role := by
    simp [State.stationFor, State.findStation, hfs]
  refine Claims.evaluates.of_same (evaluateWith_evaluates (s.reportStale pos r e) [])
    ⟨hbd.symm, (hframe .freeze (by simp)).symm, hevent _ (.inl rfl), hevent _ (.inr rfl), (hframe (.queue .down) (by simp)).symm⟩
    (SameForBattery.refl _) ?_ ?_
  · refine batteryFigures_congr (hstation _) (by rw [hsite]) fun p x _ => ?_
    by_cases hp : p = pos
    · subst hp
      rw [reportStale_record, hr]
      rfl
    · rw [show (s.reportStale pos r e).siu.records[p] = s.siu.records[p] from hframe (.record p) (by simp [hp])]
  · simp [State.batteryAddress, hstation]

end

/-- Settles O46. -/
theorem recordsAge : Obligations.RecordsAge := by
  unfold Obligations.RecordsAge
  refine ⟨fun s hp => ?ages, fun s pos r hr hleft => ?left, fun s pos r e hp hr he hmeasures hreported hpast => ?turns⟩
  case ages =>
    refine ⟨_, exec_quiet (c := .measureAgeTick) rfl hp rfl, fun pos => ?_, s.ageRecords_frame⟩
    simp [State.ageRecords]
    rfl
  case left =>
    have hturn := turnStale_left hr hleft
    rw [exec_of_workOf (c := .recordStale pos) rfl, takeEvent, inEvent_of_unmasked (by rw [hturn]), hturn, ite_self]
  case turns =>
    have hturn := turnStale_reported hr he hreported hpast
    have hpending (event : Event) (h : e.role.staleEvent = some event) :
        (inEvent (fun t => t.turnStale pos) s).isPending event = true := by
      rw [inEvent_isPending, hturn]
      split
      · rw [State.evaluate, State.evaluateWith_isPending, reportStale_isPending, h]
        simp
      · rw [reportStale_isPending, h]
        simp
    have hevaluates (hrole : e.role = .battery) : Claims.evaluates s (inEvent (fun t => t.turnStale pos) s) [] := by
      refine Claims.evaluates.of_same (reportStale_evaluates (e := e) hr) (SameForBattery.refl _) ?_ rfl rfl
      have h := sameForBattery_event (fun t => t.turnStale pos) s
      rwa [show s.turnStale pos = _ from hturn, if_pos hrole] at h
    refine ⟨_, exec_powered (c := .recordStale pos) rfl hp, ?_, fun h => hpending _ ?_, fun h => hpending _ ?_,
      fun h => hpending _ ?_, fun hrole => ?_, fun hfirst hauto hfreeze => ?_, hevaluates, ?_⟩
    · rw [inEvent_siu, hturn]
      split
      · have hkept : (s.reportStale pos r e).evaluate.siu.records[pos] = (s.reportStale pos r e).siu.records[pos] :=
          State.evaluate_frame _ (.record pos) (by simp)
        rw [hkept]
        exact reportStale_record
      · exact reportStale_record
    · rcases h with h | h <;> rw [h] <;> rfl
    · obtain ⟨j, h⟩ := h
      rw [h]
      rfl
    · rw [h]
      rfl
    · refine State.changesOnly_mono (inEvent_frame (a := {.record pos, .events}) ?_) (by simp [raisedParts, Set.subset_def])
      rw [hturn, if_neg hrole]
      exact reportStale_frame
    · have hrole : e.role = .battery := by simpa using (State.findStation_some hfirst).2
      obtain ⟨-, hstale, -⟩ := hevaluates hrole
      obtain ⟨hmemory, htop, -, -, hmode, -⟩ := hstale (batteryFigures_stale hfirst hr hpast)
      obtain ⟨hmode, hbd, hbc, hsent⟩ := hmode hauto
      rw [hfreeze] at hmode
      exact ⟨hmode, hmemory, htop, hbd, hbc, hsent⟩
    · exact State.changesOnly_mono (inEvent_frame (s.turnStale_frame pos)) (by simp [evaluatedParts, raisedParts, Set.subset_def])

/-! ### The battery's SAMPLE (O7) -/

/-- A frame that a running part hears is counted and handed to the work of its row. -/
theorem receive_taken {s : State} {p : Port} {f : Frame} {row : FrameRow} {work : Frame → State → State}
    (hears : s.hears p f) (hrow : s.frameRow p f = row) : s.receive p row (received f) work = work f (s.countReceived p) := by
  obtain ⟨-, hwait, hlen⟩ := hears
  simp [State.receive, hwait, goodFrame_received hlen, hrow]

section
variable (work : State → State) (s : State)

/-- An event adds to the Up queue of its work at most its STATUS frame. -/
theorem inEvent_up_queue : ∃ more, (inEvent work s).li.up.queue = (work s).li.up.queue ++ more ∧
    ∀ q ∈ more, q.origin = .status := by
  rcases inEvent_cases work s with ⟨-, e⟩ | ⟨-, -, e⟩ <;> rw [e]
  · exact ⟨[], by simp, by simp⟩
  · have hstatus := (work s).offer_appends .up
      (q := ⟨(work s).ownFrame (work s).mr.site.alertDest kindStatus (work s).statusPayload, .status⟩) fun _ => rfl
    unfold State.appends at hstatus
    split at hstatus
    · exact ⟨_, hstatus.1, by simp⟩
    · exact ⟨[], hstatus.1.trans (List.append_nil _).symm, by simp⟩

/-- An event lowers no drop count below 65,535. -/
theorem inEvent_up_drop : (work s).li.up.counters.drop ≤ (inEvent work s).li.up.counters.drop ∨
    65535 ≤ (inEvent work s).li.up.counters.drop := by
  rcases inEvent_cases work s with ⟨-, e⟩ | ⟨-, -, e⟩ <;> rw [e]
  · exact .inl le_rfl
  · have hstatus := (work s).offer_appends .up
      (q := ⟨(work s).ownFrame (work s).mr.site.alertDest kindStatus (work s).statusPayload, .status⟩) fun _ => rfl
    unfold State.appends at hstatus
    have hdrop : (work s).sendStatus.li.up.counters.drop = (work s).li.up.counters.drop ∨
        (work s).sendStatus.li.up.counters.drop = bump (work s).li.up.counters.drop := by
      split at hstatus
      · exact .inl hstatus.2
      · exact .inr hstatus.2
    unfold bump at hdrop
    omega

end

section
variable {s : State} {f : Frame} {pos : Position} {e : Station}

/-- A frame by its forward count, in an event that offers nothing else upward before it. -/
theorem forwardedByCount_of {u : State} (hcount : u.fs.counts[pos] = s.fs.counts[pos]) (hup : u.li.up = s.li.up)
    {work : State → State} (hwork : work s = u.forwardSample pos e f) :
    Claims.forwardedByCount s (inEvent work s) pos f := by
  obtain ⟨more, hqueue, hmore⟩ := inEvent_up_queue work s
  have hdrop := inEvent_up_drop work s
  rw [hwork] at hqueue hdrop
  unfold Claims.forwardedByCount
  by_cases hzero : s.fs.counts[pos] = 0
  · have happends := State.forwardSample_appends (s := u) (e := e) (f := f) (hcount.trans hzero)
    unfold State.appends at happends
    simp only [State.port, hup] at happends
    by_cases hroom : s.li.up.queue.length < queueSize
    · rw [if_pos hroom] at happends
      rw [if_pos ⟨hzero, hroom⟩]
      rw [happends.1] at hqueue
      exact ⟨by rw [hqueue, List.take_left], by rw [hqueue, List.drop_left]; exact hmore, fun _ hfull => absurd hroom (by omega)⟩
    · rw [if_neg hroom] at happends
      rw [if_neg (fun h => hroom h.2)]
      rw [happends.1] at hqueue
      refine ⟨by rw [hqueue, List.take_left], by rw [hqueue, List.drop_left]; exact hmore, fun _ _ => ?_⟩
      rw [happends.2] at hdrop
      unfold bump at hdrop
      omega
  · have hkept := State.forwardSample_kept (s := u) (pos := pos) (e := e) (f := f) (by rwa [hcount])
    rw [if_neg (fun h => hzero h.1)]
    rw [hkept, hup] at hqueue
    exact ⟨by rw [hqueue, List.take_left], by rw [hqueue, List.drop_left]; exact hmore, fun h => absurd h hzero⟩

theorem sameForBattery_forwardSample (u : State) : SameForBattery u (u.forwardSample pos e f) := by
  have hframe := u.forwardSample_frame pos e f
  have hpending (event : Event) : (u.forwardSample pos e f).isPending event = u.isPending event :=
    State.isPending_of_events (by simp) event
  refine ⟨?_, by simp, hpending _, hpending _, hframe (.queue .down) (by simp)⟩
  exact State.bd_of_same (hframe .battery (by simp)) (hframe .batteryTable (by simp))

theorem SameForBattery.trans {s t u : State} (h : SameForBattery s t) (k : SameForBattery t u) : SameForBattery s u :=
  ⟨k.bd.trans h.bd, k.freeze.trans h.freeze, k.done.trans h.done, k.mode.trans h.mode, k.queue.trans h.queue⟩

end

@[simp] theorem State.evaluateWith_up (s : State) (also : List Byte) : (s.evaluateWith also).li.up = s.li.up := by
  simp only [State.evaluateWith]
  split <;> simp [State.withdraw, State.setQueue, State.setPort]

theorem tapSample_battery {s : State} {pos : Position} {payload : List Byte} {r : MeasRecord} {v : Values}
    (hr : s.siu.records[pos] = some r) (hv : readSample .battery payload = some v) :
    s.tapSample pos .battery payload =
      (s.setRecord pos (some { r with values := some v, age := 0, reported := false })).evaluate := by
  simp [State.tapSample, hr, hv]

/-- Settles O7: the tap is an evaluation on the new record, and the frame then goes by its forward count. -/
theorem batterySampleEvaluates : Obligations.BatterySampleEvaluates := by
  unfold Obligations.BatterySampleEvaluates
  intro s f pos e r power soc charge discharge hears hsrc hdest hkind hstation hrole hr hv
  have hrow : s.frameRow .down f = .sampleFrame := by
    rw [frameRow_tap hsrc hdest hstation, hkind, tapRow_sample (by rw [hrole]; rfl)]
  let taken : State := (s.countReceived .down).setRecord pos
    (some { r with values := some (.battery power soc charge discharge), age := 0, reported := false })
  have hwork : s.receive .down .sampleFrame (received f) State.sampleFrame = taken.evaluate.forwardSample pos e f := by
    rw [receive_taken hears hrow, State.sampleFrame_eq (by simpa using hstation), hrole,
      tapSample_battery (s := s.countReceived .down) (by simpa using hr) hv]
  have hevaluated := taken.evaluate_frame
  have hcounts : taken.evaluate.fs.counts[pos] = s.fs.counts[pos] := hevaluated (.forwardCount pos) (by simp)
  have hstart : SameForBattery taken s := ⟨rfl, rfl, rfl, rfl, rfl⟩
  have hend : SameForBattery taken.evaluate
      (inEvent (fun t => t.receive .down .sampleFrame (received f) State.sampleFrame) s) := by
    have hevent := sameForBattery_event (fun t => t.receive .down .sampleFrame (received f) State.sampleFrame) s
    rw [show s.receive .down .sampleFrame (received f) State.sampleFrame = _ from hwork] at hevent
    exact (sameForBattery_forwardSample taken.evaluate).trans hevent
  have hstations (role : Role) : s.stationFor role = taken.stationFor role := rfl
  have haddress : s.batteryAddress = taken.batteryAddress := rfl
  refine ⟨_, exec_powered (c := .sampleFrame (received f)) rfl hears.1, ?_, ?_, ?_, fun hfirst => ⟨?_, ?_⟩, fun hother => ?_, ?_⟩
  · rw [inEvent_siu, hwork, State.forwardSample_siu]
    have hkept : taken.evaluate.siu.records[pos] = taken.siu.records[pos] := hevaluated (.record pos) (by simp)
    rw [hkept]
    exact State.setRecord_record _ pos _
  · rw [inEvent_fs, hwork, State.forwardSample_counts, hcounts]
  · exact forwardedByCount_of hcounts (taken.evaluateWith_up []) hwork
  · have hfigures : taken.batteryFigures = some ⟨power, soc, charge, discharge⟩ := by
      have hrecord : taken.recordFor .battery =
          some { r with values := some (.battery power soc charge discharge), age := 0, reported := false } := by
        rw [State.recordFor, ← hstations, hfirst, Option.bind_some]
        exact State.setRecord_record _ pos _
      simp [State.batteryFigures, State.freshValues, hrecord, MeasRecord.fresh]
    exact Claims.evaluatedOn.of_same (evaluateWith_evaluatedOn taken [] hfigures) hstart hend
  · have hkept := Claims.setpointsKept.of_same (evaluateWith_setpointsKept taken []) hstart hend
    rwa [← haddress, State.batteryAddress, hfirst] at hkept
  · refine Claims.evaluates.of_same (evaluateWith_evaluates taken []) hstart hend ?_ haddress
    refine (batteryFigures_congr (s := s) (t := taken) rfl rfl fun p x hentry => ?_).symm
    have hne : p ≠ pos := by
      rintro rfl
      have hx := (State.findStation_some hentry).1
      rw [State.stationOf_some hstation] at hx
      exact hother (hentry.trans (by rw [← Option.some.inj hx]))
    have hsame : taken.siu.records[p] = s.siu.records[p] :=
      (s.countReceived .down).setRecord_frame pos _ (.record p) (by simp [hne])
    rw [hsame]
  · refine State.changesOnly_mono (inEvent_frame (a := {.counters .down, .record pos, .battery, .events, .queue .down,
      .forwardCount pos, .queue .up, .drops .up}) ?_) (by simp [evaluatedParts, raisedParts, Set.subset_def])
    rw [hwork]
    have htaken : s.changesOnly taken {.counters .down, .record pos} :=
      State.changesOnly_seq (s.countReceived_frame .down) ((s.countReceived .down).setRecord_frame pos _) (by simp) (by simp)
    exact State.changesOnly_seq (State.changesOnly_seq htaken hevaluated (c := {.counters .down, .record pos, .battery, .events,
      .queue .down}) (by simp [Set.subset_def]) (by simp [Set.subset_def])) (State.forwardSample_frame _ pos e f)
      (by simp [Set.subset_def]) (by simp [Set.subset_def])

end Sys2Proof.Machine
end

section
/-! STATION_WRITE (O26). -/

namespace Sys2Proof.Machine

/-! ### What a placed entry touches (R103, R185) -/

theorem foldl_forgetCap_string (l : List StringNo) (s : State) (j : StringNo) : (l.foldl State.forgetCap s).cc.strings[j] =
    if j ∈ l then { s.cc.strings[j] with sent := none, release := false } else s.cc.strings[j] := by
  induction l generalizing s with
  | nil => rfl
  | cons i l ih =>
    rw [List.foldl_cons, ih]
    by_cases hj : j = i
    · subst hj
      simp [State.forgetCap]
    · have hne : (i : Nat) ≠ j := fun e => hj (Fin.ext e.symm)
      simp [State.forgetCap, hj, Vector.getElem_set_ne, hne]

theorem foldl_forgetGrant_alloc (l : List BayNo) (s : State) (b : BayNo) : ((l.foldl State.forgetGrant s).bay b).alloc =
    if b ∈ l then { (s.bay b).alloc with sent := none } else (s.bay b).alloc := by
  induction l generalizing s with
  | nil => rfl
  | cons c l ih =>
    rw [List.foldl_cons, ih]
    by_cases hb : b = c
    · subst hb
      simp [State.forgetGrant]
    · simp [State.forgetGrant, State.modAlloc, State.setBay_other _ _ hb, hb]

theorem foldl_forgetCap_bay (l : List StringNo) (s : State) (b : BayNo) : (l.foldl State.forgetCap s).bay b = s.bay b := by
  induction l generalizing s with
  | nil => rfl
  | cons j l ih => exact ih _

theorem foldl_forgetGrant_cc (l : List BayNo) (s : State) : (l.foldl State.forgetGrant s).cc = s.cc := by
  induction l generalizing s with
  | nil => rfl
  | cons b l ih => exact ih _

/-- Whether a write repeats address, role and index of the entry (R28, R103, R185). -/
def keepsIdentity (old new : Option Station) : Prop := old.map Station.identity = new.map Station.identity

theorem mem_touched {α : Type} {named : Role → Option α} {old new : Option Station} {x : α} :
    x ∈ touched named old new ↔
      ¬keepsIdentity old new ∧ ∃ e, (old = some e ∨ new = some e) ∧ named e.role = some x := by
  unfold touched keepsIdentity
  split
  next h => simp [h]
  next h =>
    cases old <;> cases new <;> simp_all [or_and_right, exists_or]

theorem Role.bay?_eq {role : Role} {b : BayNo} : role.bay? = some b ↔ role = .charger b := by
  cases role <;> simp [Role.bay?]

theorem Role.string?_eq {role : Role} {j : StringNo} : role.string? = some j ↔ role = .pvString j := by
  cases role <;> simp [Role.string?]

section
variable (s : State) (pos : Position) (new : Option Station)

theorem placed_string (j : StringNo) : (s.placed pos new).cc.strings[j] =
    if j ∈ touched Role.string? s.fs.stations[pos] new then { s.cc.strings[j] with sent := none, release := false }
    else s.cc.strings[j] := by
  unfold State.placed
  simp only [foldl_forgetGrant_cc]
  exact foldl_forgetCap_string _ _ j

theorem placed_alloc (b : BayNo) : ((s.placed pos new).bay b).alloc =
    if b ∈ touched Role.bay? s.fs.stations[pos] new then { (s.bay b).alloc with sent := none } else (s.bay b).alloc := by
  rw [State.placed, foldl_forgetGrant_alloc, foldl_forgetCap_bay]
  rfl

theorem placed_same : (s.placed pos new).fs = (s.setStation pos new).fs ∧ (s.placed pos new).siu = (s.setStation pos new).siu ∧
    (s.placed pos new).bd = s.bd ∧ (s.placed pos new).mr = s.mr ∧ (s.placed pos new).li = s.li := by
  have hcaps (l : List StringNo) (t : State) : (l.foldl State.forgetCap t).fs = t.fs ∧ (l.foldl State.forgetCap t).siu = t.siu ∧
      (l.foldl State.forgetCap t).bd = t.bd ∧ (l.foldl State.forgetCap t).mr = t.mr ∧ (l.foldl State.forgetCap t).li = t.li := by
    induction l generalizing t with
    | nil => exact ⟨rfl, rfl, rfl, rfl, rfl⟩
    | cons j l ih => exact ih _
  have hgrants (l : List BayNo) (t : State) : (l.foldl State.forgetGrant t).fs = t.fs ∧
      (l.foldl State.forgetGrant t).siu = t.siu ∧ (l.foldl State.forgetGrant t).bd = t.bd ∧
      (l.foldl State.forgetGrant t).mr = t.mr ∧ (l.foldl State.forgetGrant t).li = t.li := by
    induction l generalizing t with
    | nil => exact ⟨rfl, rfl, rfl, rfl, rfl⟩
    | cons b l ih => exact ih _
  obtain ⟨h1, h2, h3, h4, h5⟩ := hcaps (touched Role.string? s.fs.stations[pos] new) (s.setStation pos new)
  obtain ⟨k1, k2, k3, k4, k5⟩ := hgrants (touched Role.bay? s.fs.stations[pos] new)
    ((touched Role.string? s.fs.stations[pos] new).foldl State.forgetCap (s.setStation pos new))
  exact ⟨k1.trans h1, k2.trans h2, k3.trans h3, k4.trans h4, k5.trans h5⟩

theorem placed_kept (h : keepsIdentity s.fs.stations[pos] new) : s.placed pos new = s.setStation pos new := by
  have hnone {α : Type} (named : Role → Option α) : touched named s.fs.stations[pos] new = [] := if_pos h
  rw [State.placed, hnone, hnone]
  rfl

end

/-! ### The record of the position (R28) -/

section
variable {now : Uptime} {old new : Option Station} {record : Option MeasRecord}

theorem recordAfter_none (h : ∀ e, new = some e → e.role.measures = false) : recordAfter now old new record = none := by
  cases new with
  | none => rfl
  | some e => simp [recordAfter, h e rfl]

theorem recordAfter_new {e : Station} (hnew : new = some e) (h : e.role.measures = true) (hkept : ¬keepsIdentity old new) :
    recordAfter now old new record = some (MeasRecord.never now) := by
  subst hnew
  simp only [recordAfter, h, if_true]
  exact if_neg hkept

theorem recordAfter_kept {e : Station} (hnew : new = some e) (h : e.role.measures = true) (hkept : keepsIdentity old new) :
    recordAfter now old new record = record := by
  subst hnew
  simp only [recordAfter, h, if_true]
  exact if_pos hkept

end

/-! ### The battery (R76) -/

/-- Whether an entry is the battery's. -/
def isBattery (entry : Option Station) : Prop := entry.map (·.role) = some .battery

theorem batteryMoves_iff {old new : Option Station} : batteryMoves old new = true ↔ ¬(isBattery old ↔ isBattery new) := by
  unfold batteryMoves isBattery
  rw [bne_iff_ne, Ne, Bool.eq_iff_iff, beq_iff_eq, beq_iff_eq]

theorem keepsIdentity_battery {old new : Option Station} (h : keepsIdentity old new) : isBattery old ↔ isBattery new := by
  have hrole : old.map (·.role) = new.map (·.role) := by
    have hsnd := congrArg (Option.map Prod.snd) h
    simpa [Option.map_map, Function.comp_def, Station.identity] using hsnd
  simp [isBattery, hrole]

/-- The evaluation of a STATION write, in the terms of the entries and records it leaves. -/
theorem placed_evaluates (s : State) (pos : Position) (new : Option Station) (also : List Byte) :
    Claims.evaluates
      { s with fs.stations := (s.placed pos new).fs.stations, siu.records := (s.placed pos new).siu.records }
      ((s.placed pos new).evaluateWith also) also := by
  obtain ⟨hfs, hsiu, hbd, hmr, hli⟩ := placed_same s pos new
  have hpending (e : Event) : (s.placed pos new).isPending e = s.isPending e := State.isPending_of_events (by rw [hmr]) e
  have hstation (role : Role) :
      ({ s with fs.stations := (s.placed pos new).fs.stations, siu.records := (s.placed pos new).siu.records } :
        State).stationFor role = (s.placed pos new).stationFor role := rfl
  refine Claims.evaluates.of_same (evaluateWith_evaluates (s.placed pos new) also) ⟨hbd.symm, ?_, ?_, ?_, ?_⟩
    (SameForBattery.refl _) ?_ ?_
  · rw [hsiu]
    rfl
  · exact (hpending _).symm
  · exact (hpending _).symm
  · rw [hli]
  · exact batteryFigures_congr (hstation _) (by rw [hmr]) fun p e _ => rfl
  · rfl

/-! ### The write -/

theorem stationRefused_iff {s : State} {pos : Position} {new : Option Station} :
    s.stationRefused pos new = true ↔ ∃ e b, s.fs.stations[pos] = some e ∧ e.role = .charger b ∧
      (s.bay b).session.state ≠ .vacant ∧ (s.bay b).session.state ≠ .disabled ∧ new.map (·.role) ≠ some e.role := by
  have hopen (x : SessionState) : (x.isOpen || x == .held) = true ↔ x ≠ .vacant ∧ x ≠ .disabled := by
    cases x <;> simp [SessionState.isOpen]
  unfold State.stationRefused
  cases hentry : s.fs.stations[pos] with
  | none => simp
  | some e =>
    cases hrole : e.role <;> simp [hrole, hopen, and_assoc]

theorem writeStation_eq (s : State) (tag : Byte) (pos : Position) {record : List Byte} (h : record.length = 4) :
    s.writeStation (tag :: 2 :: 2 :: BitVec.ofNat 8 pos.val :: record) =
      if s.stationRefused pos (takeStation s.fs.stations[pos] record).1 then (s, .refusedState)
      else ((s.placeStation pos (takeStation s.fs.stations[pos] record).1).planCheck,
        takenStatus (takeStation s.fs.stations[pos] record).2) := by
  have hindex : (BitVec.ofNat 8 pos.val).toNat = pos.val := by
    rw [BitVec.toNat_ofNat]
    exact Nat.mod_eq_of_lt (by omega)
  unfold State.writeStation
  simp only [writeIndex_write, hindex]
  rw [dif_pos pos.isLt]
  exact if_neg (not_not.mpr h)

section
variable (s : State) (pos : Position) (new : Option Station)

/-- What an evaluation behind a placed entry leaves to it. -/
theorem placeStation_same : (s.placeStation pos new).fs = (s.placed pos new).fs ∧
    (s.placeStation pos new).siu = (s.placed pos new).siu ∧ (s.placeStation pos new).cc = (s.placed pos new).cc ∧
    ∀ b, (s.placeStation pos new).bay b = (s.placed pos new).bay b := by
  rw [State.placeStation_eq]
  split <;> simp [State.bay]

theorem placeStation_station : (s.placeStation pos new).fs.stations[pos] = new := by
  obtain ⟨hfs, -⟩ := placeStation_same s pos new
  obtain ⟨hset, -⟩ := placed_same s pos new
  simp [hfs, hset, State.setStation]

theorem placeStation_count : (s.placeStation pos new).fs.counts[pos] = 0 := by
  obtain ⟨hfs, -⟩ := placeStation_same s pos new
  obtain ⟨hset, -⟩ := placed_same s pos new
  simp [hfs, hset, State.setStation]

theorem placeStation_record : (s.placeStation pos new).siu.records[pos] =
    recordAfter s.now s.fs.stations[pos] new s.siu.records[pos] := by
  obtain ⟨-, hsiu, -⟩ := placeStation_same s pos new
  obtain ⟨-, hset, -⟩ := placed_same s pos new
  simp [hsiu, hset, State.setStation]

theorem placeStation_string (j : StringNo) : (s.placeStation pos new).cc.strings[j] =
    if j ∈ touched Role.string? s.fs.stations[pos] new then { s.cc.strings[j] with sent := none, release := false }
    else s.cc.strings[j] := by
  obtain ⟨-, -, hcc, -⟩ := placeStation_same s pos new
  simp only [hcc]
  exact placed_string s pos new j

theorem placeStation_alloc (b : BayNo) : ((s.placeStation pos new).bay b).alloc =
    if b ∈ touched Role.bay? s.fs.stations[pos] new then { (s.bay b).alloc with sent := none } else (s.bay b).alloc := by
  obtain ⟨-, -, -, hbay⟩ := placeStation_same s pos new
  rw [hbay]
  exact placed_alloc s pos new b

theorem placeStation_kept (h : keepsIdentity s.fs.stations[pos] new) : s.placeStation pos new = s.setStation pos new := by
  have hstays : batteryMoves s.fs.stations[pos] new = false := by
    rw [Bool.eq_false_iff, Ne, batteryMoves_iff, not_not]
    exact keepsIdentity_battery h
  rw [State.placeStation_eq, if_neg (by rw [hstays]; simp), placed_kept s pos new h]

end

/-- Settles O26: a refused write changes nothing; a taken one places the entry, and its consequences go by what it touches. -/
theorem stationIsWritten : Obligations.StationIsWritten := by
  unfold Obligations.StationIsWritten
  intro s source tag pos record rest h hlen old new kept openOrHeld
  have hwrite := writeStation_eq s tag pos hlen
  refine ⟨fun hrefused => ?refused, fun htaken => ?taken⟩
  case refused =>
    rw [if_pos (stationRefused_iff.mpr hrefused)] at hwrite
    obtain ⟨t, hexec, hrest, happends, hframe⟩ := exec_checked_unaffected (c := .stationWrite) (work := State.writeStation)
      (payload := [tag, 2, 7, 2, BitVec.ofNat 8 pos.val] ++ planBytes s.mr.plan) rfl h rfl hwrite rfl
    exact ⟨t, hexec, hrest, hframe, happends⟩
  case taken =>
    rw [if_neg (mt stationRefused_iff.mp htaken)] at hwrite
    obtain ⟨hexec, hplan, hgains, hframe⟩ := exec_write_taken (c := .stationWrite) (code := 2) (work := State.writeStation) rfl h
      hwrite (s.placeStation_frame pos new) (by simp [placedParts]) (by simp [placedParts]) (by simp [placedParts])
    have hnamesBay (b : BayNo) : b ∈ touched Role.bay? old new ↔
        ¬kept ∧ ∃ e, (old = some e ∨ new = some e) ∧ e.role = .charger b := by
      simp only [mem_touched, Role.bay?_eq]
      rfl
    have hnamesString (j : StringNo) : j ∈ touched Role.string? old new ↔
        ¬kept ∧ ∃ e, (old = some e ∨ new = some e) ∧ e.role = .pvString j := by
      simp only [mem_touched, Role.string?_eq]
      rfl
    refine ⟨_, hexec, by simp, ?station, ?count, ?unmeasured, ?fresh, ?record, ?grants, ?caps, ?bays, ?strings, ?battery, hplan,
      hgains, fun hkept => ?kept, State.changesOnly_mono hframe ?frame⟩
    case frame =>
      intro part hpart
      simp only [placedParts, evaluatedParts, raisedParts, Set.mem_union, Set.mem_insert_iff, Set.mem_singleton_iff] at hpart ⊢
      tauto
    case kept =>
      refine State.changesOnly_mono (State.written_frame (parts := {.station pos, .forwardCount pos, .record pos}) ?_) ?_
      · rw [placeStation_kept s pos new hkept]
        exact s.setStation_frame pos new
      · intro part hpart
        simp only [Set.mem_union, Set.mem_insert_iff, Set.mem_singleton_iff] at hpart ⊢
        tauto
    case battery =>
      obtain ⟨-, -, hbd, -, hli⟩ := placed_same s pos new
      dsimp only
      split
      next hsame =>
        have hstays : s.placeStation pos new = s.placed pos new := by
          rw [State.placeStation_eq, if_neg fun hmoves => batteryMoves_iff.mp hmoves hsame]
        rw [show s.placeStation pos _ = _ from hstays]
        refine ⟨?_, ?_⟩
        · simp only [State.same, State.written_bd, hbd]
        · simp only [State.same, State.port, State.written_down, hli]
      next hmoves =>
        obtain ⟨hfs, hsiu, -⟩ := placeStation_same s pos new
        simp only [State.written_fs, State.written_siu, show (takeStation s.fs.stations[pos] record).1 = new from rfl, hfs, hsiu]
        refine Claims.evaluates.of_same (placed_evaluates s pos new s.batteryAddress.toList) (SameForBattery.refl _) ?_ rfl rfl
        have hplaced : s.placeStation pos new = (s.placed pos new).evaluateWith s.batteryAddress.toList := by
          rw [State.placeStation_eq, if_pos (batteryMoves_iff.mpr hmoves)]
        rw [← hplaced]
        exact sameForBattery_written ..
    all_goals simp only [State.written_fs, State.written_siu, State.written_cc, State.written_bay, State.same]
    case station => exact placeStation_station s pos new
    case count => exact placeStation_count s pos new
    case unmeasured => exact fun hnew => (placeStation_record s pos new).trans (recordAfter_none hnew)
    case fresh => exact fun e hnew hmeasures hkept => (placeStation_record s pos new).trans (recordAfter_new hnew hmeasures hkept)
    case record =>
      intro hkept hmeasures hnew
      obtain ⟨e, he⟩ := Option.ne_none_iff_exists'.mp hnew
      exact (placeStation_record s pos new).trans (recordAfter_kept he (hmeasures e he) hkept)
    case grants =>
      intro b hnamed hkept
      rw [placeStation_alloc, if_pos ((hnamesBay b).mpr ⟨hkept, hnamed⟩)]
    case caps =>
      intro j hnamed hkept
      have hstring := (placeStation_string s pos new j).trans (if_pos ((hnamesString j).mpr ⟨hkept, hnamed⟩))
      exact ⟨congrArg StringState.sent hstring, congrArg StringState.release hstring⟩
    case bays =>
      intro b
      rw [placeStation_alloc]
      refine ⟨by split <;> rfl, fun hold hnew => if_neg fun hnamed => ?_⟩
      obtain ⟨-, e, he, hrole⟩ := (hnamesBay b).mp hnamed
      exact he.elim (fun he => hold e he hrole) fun he => hnew e he hrole
    case strings =>
      intro j
      have hstring := placeStation_string s pos new j
      refine ⟨(congrArg StringState.cap hstring).trans (by split <;> rfl), fun hold hnew => hstring.trans (if_neg fun hnamed => ?_)⟩
      obtain ⟨-, e, he, hrole⟩ := (hnamesString j).mp hnamed
      exact he.elim (fun he => hold e he hrole) fun he => hnew e he hrole

end Sys2Proof.Machine
end

section
/-! Several evaluations of Battery Dispatch in one event are one, and records that turn stale one after the other (R33, R75 to R82). -/

namespace Sys2Proof.Machine

/-! ### What an evaluation rests on -/

section
variable {s v : State}

theorem SameForBattery.symm (h : SameForBattery s v) : SameForBattery v s :=
  ⟨h.bd.symm, h.freeze.symm, h.done.symm, h.mode.symm, h.queue.symm⟩

theorem battery_ext {x y : BatteryState} (htable : x.table = y.table) (hmode : x.mode = y.mode) (hmemory : x.memory = y.memory)
    (htop : x.topUp = y.topUp) (hoffer : (x.offerBd, x.offerBc) = (y.offerBd, y.offerBc)) (hmanual : x.manual = y.manual)
    (hsent : x.sent = y.sent) (hlast : x.lastSoc = y.lastSoc) : x = y := by
  obtain ⟨_, _, _, _, _, _, _, _, _⟩ := x
  obtain ⟨_, _, _, _, _, _, _, _, _⟩ := y
  simp only [Prod.mk.injEq] at hoffer
  simp_all

/-- States that are the same for BD evaluate to the same. -/
theorem SameForBattery.evaluate (h : SameForBattery s v) (hfigures : v.batteryFigures = s.batteryFigures)
    (haddress : v.batteryAddress = s.batteryAddress) : SameForBattery s.evaluate v.evaluate := by
  obtain ⟨hbd, hfreeze, hdone, hmode, hqueue⟩ := h
  obtain ⟨ht, hm, hf, hmo, ho, hma⟩ := s.evaluateWith_bd []
  obtain ⟨kt, km, kf, kmo, ko, kma⟩ := v.evaluateWith_bd []
  simp only [hbd, hfreeze, hfigures] at kt km kf kmo ko kma
  have hsameMode : (v.evaluateWith []).bd.mode = (s.evaluateWith []).bd.mode := kmo.trans hmo.symm
  have hsame : (v.evaluateWith []).bd = (s.evaluateWith []).bd := by
    refine battery_ext (kt.trans ht.symm) hsameMode (km.trans hm.symm) (kf.trans hf.symm) ?_ (kma.trans hma.symm) ?_ ?_
    · rw [ko, ho, hsameMode]
    · rw [v.evaluateWith_sent, s.evaluateWith_sent, hsameMode, hbd]
    · rw [v.evaluateWith_lastSoc, s.evaluateWith_lastSoc, hfigures, hbd]
  have hends : v.topUpEnds = s.topUpEnds := by simp only [State.topUpEnds, hbd, hfreeze, hfigures]
  refine ⟨hsame, by simp [State.evaluate, hfreeze], ?_, ?_, ?_⟩
  · rw [State.evaluate, State.evaluate, v.evaluateWith_isPending, s.evaluateWith_isPending, hsame, hbd, hdone, hends]
  · rw [State.evaluate, State.evaluate, v.evaluateWith_isPending, s.evaluateWith_isPending, hsame, hbd, hmode, hends]
  · rw [State.evaluate, State.evaluate, v.evaluateWith_queue, s.evaluateWith_queue, hsame, hbd, haddress, hqueue]

theorem nextMemory_again (t : BatteryTable) (soc : Nat) (old : Option Memory) :
    nextMemory t soc (some (nextMemory t soc old)) = nextMemory t soc old := by
  unfold nextMemory
  split
  · rfl
  · split
    · rfl
    · split
      next h => simp [h.2]
      next h =>
        split
        next k => simp [k.2]
        next k => simp

theorem topUpAfter_again (t : BatteryTable) (frozen : Bool) (figures : Option BatteryFigures) (flag : Bool) :
    topUpAfter t frozen figures (topUpAfter t frozen figures flag).1 = ((topUpAfter t frozen figures flag).1, false) := by
  unfold topUpAfter
  split
  · rfl
  · cases figures with
    | none => rfl
    | some x =>
      by_cases h : flag = true ∧ t.topUpTarget ≤ x.soc
      · simp [h]
      · simp [h]

@[simp] theorem evaluate_figures (s : State) : s.evaluate.batteryFigures = s.batteryFigures := by
  have hsite : s.evaluate.mr.site = s.mr.site := s.evaluate_frame .site (by simp)
  refine batteryFigures_congr ?_ (by rw [hsite]) fun pos e _ => by simp [State.evaluate]
  simp [State.stationFor, State.findStation, State.evaluate]

@[simp] theorem evaluate_address (s : State) : s.evaluate.batteryAddress = s.batteryAddress := by
  simp [State.batteryAddress, State.stationFor, State.findStation, State.evaluate]

/-- A second evaluation on the same figures changes nothing. -/
theorem evaluate_again (s : State) : SameForBattery s.evaluate s.evaluate.evaluate := by
  obtain ⟨ht, hm, hf, hmo, ho, hma⟩ := s.evaluateWith_bd []
  obtain ⟨kt, km, kf, kmo, ko, kma⟩ := s.evaluate.evaluateWith_bd []
  rw [← State.evaluate] at ht hm hf hmo ho hma kt km kf kmo ko kma
  have hfreeze : s.evaluate.siu.freeze = s.siu.freeze := by simp [State.evaluate]
  have hmemory : s.batteryFigures.map (fun f => nextMemory s.bd.table f.soc s.evaluate.bd.memory) = s.evaluate.bd.memory := by
    rw [hm]
    cases s.batteryFigures with
    | none => rfl
    | some x => simp [nextMemory_again]
  have hagain := topUpAfter_again s.bd.table s.siu.freeze s.batteryFigures s.bd.topUp
  rw [← hf] at hagain
  rw [ht, evaluate_figures, hfreeze, hagain] at kf
  rw [ht, evaluate_figures, hfreeze, hagain, hmemory] at kmo
  have hmode : s.evaluate.evaluate.bd.mode = s.evaluate.bd.mode := by rw [kmo, hmo, hf, ← hm]
  have hbd : s.evaluate.evaluate.bd = s.evaluate.bd := by
    refine battery_ext kt hmode ?_ kf ?_ kma ?_ ?_
    · rw [km, ht, evaluate_figures, hmemory]
    · rw [ko, ho, hmode, ht, evaluate_figures, hma]
    · rw [State.evaluate, s.evaluate.evaluateWith_sent, ← State.evaluate, hmode]
      conv_rhs => rw [State.evaluate, s.evaluateWith_sent, ← State.evaluate]
      rw [State.evaluate, s.evaluateWith_sent, ← State.evaluate]
      split <;> rfl
    · rw [State.evaluate, s.evaluate.evaluateWith_lastSoc, evaluate_figures]
      have hlast := s.evaluateWith_lastSoc []
      rw [← State.evaluate] at hlast
      rw [hlast]
      cases s.batteryFigures <;> rfl
  have hends : s.evaluate.topUpEnds = false := by
    rw [State.topUpEnds, ht, hfreeze, evaluate_figures, hagain]
  have hpending (e : Event) : s.evaluate.evaluate.isPending e = s.evaluate.isPending e := by
    have h := s.evaluate.evaluateWith_isPending [] e
    rw [← State.evaluate, hbd, hends] at h
    simpa using h
  refine ⟨hbd, by simp [State.evaluate], hpending _, hpending _, ?_⟩
  have h := s.evaluate.evaluateWith_queue []
  rw [← State.evaluate, hbd] at h
  simpa using h

/-- BD has evaluated on `base` where `acts` holds, and is else as in `base`. -/
structure EvaluatedWhere (base : State) (acts : Prop) (v : State) : Prop where
  done : acts → SameForBattery base.evaluate v
  idle : ¬acts → SameForBattery base v
  figures : v.batteryFigures = base.batteryFigures
  address : v.batteryAddress = base.batteryAddress

theorem EvaluatedWhere.evaluate {base v : State} {acts : Prop} (h : EvaluatedWhere base acts v) {p : Prop} (hp : p) :
    EvaluatedWhere base (acts ∨ p) v.evaluate := by
  obtain ⟨hdone, hidle, hfigures, haddress⟩ := h
  refine ⟨fun _ => ?_, fun hnot => absurd (.inr hp) hnot, (evaluate_figures v).trans hfigures,
    (evaluate_address v).trans haddress⟩
  by_cases hacts : acts
  · exact (evaluate_again base).trans ((hdone hacts).evaluate (hfigures.trans (evaluate_figures base).symm)
      (haddress.trans (evaluate_address base).symm))
  · exact (hidle hacts).evaluate hfigures haddress

theorem EvaluatedWhere.same {base v w : State} {acts : Prop} (h : EvaluatedWhere base acts v) (hsame : SameForBattery v w)
    (hfigures : w.batteryFigures = v.batteryFigures) (haddress : w.batteryAddress = v.batteryAddress) :
    EvaluatedWhere base acts w :=
  ⟨fun hacts => (h.done hacts).trans hsame, fun hnot => (h.idle hnot).trans hsame, hfigures.trans h.figures,
    haddress.trans h.address⟩

theorem EvaluatedWhere.iff {base v : State} {p q : Prop} (h : EvaluatedWhere base p v) (hpq : p ↔ q) : EvaluatedWhere base q v :=
  ⟨fun hq => h.done (hpq.mpr hq), fun hq => h.idle (mt hpq.mp hq), h.figures, h.address⟩

end

/-! ### One record after the other (R32, R33) -/

/-- Whether the record of a position turns past the hold time as it stands, with the event of its role. -/
def State.turnsAt (s : State) (pos : Position) (p : Station → Prop) : Prop :=
  ∃ r e, s.siu.records[pos] = some r ∧ s.fs.stations[pos] = some e ∧ r.reported = false ∧
    Claims.pastHold s r s.mr.site.holdTime ∧ p e

section
variable {s : State} {pos : Position}

/-- What a turn of one record does. -/
theorem turnStale_cases (s : State) (pos : Position) :
    (∃ r e, s.siu.records[pos] = some r ∧ s.fs.stations[pos] = some e ∧ r.reported = false ∧
      Claims.pastHold s r s.mr.site.holdTime ∧
      s.turnStale pos = if e.role = .battery then (s.reportStale pos r e).evaluate else s.reportStale pos r e) ∨
    ((∀ r e, s.siu.records[pos] = some r → s.fs.stations[pos] = some e →
      r.reported = true ∨ ¬Claims.pastHold s r s.mr.site.holdTime) ∧ s.turnStale pos = s) := by
  cases hr : s.siu.records[pos] with
  | none => exact .inr ⟨(fun _ _ h => nomatch h), by unfold State.turnStale; rw [hr]⟩
  | some r =>
    cases he : s.fs.stations[pos] with
    | none => exact .inr ⟨(fun _ _ _ h => nomatch h), by unfold State.turnStale; rw [hr, he]⟩
    | some e =>
      by_cases h : r.reported = true ∨ ¬Claims.pastHold s r s.mr.site.holdTime
      · refine .inr ⟨fun x y hx _ => ?_, turnStale_left hr h⟩
        cases hx
        exact h
      · rw [not_or, not_not, Bool.not_eq_true] at h
        exact .inl ⟨r, e, rfl, rfl, h.1, h.2, turnStale_reported hr he h.1 h.2⟩

/-- Values and ages of the records, entries, hold time and uptime: what decides about the turns besides the reported marks. -/
structure SameRecords (s t : State) : Prop where
  stations : t.fs.stations = s.fs.stations
  hold : t.mr.site.holdTime = s.mr.site.holdTime
  uptime : t.mu.uptime = s.mu.uptime
  records : ∀ p : Position, (t.siu.records[p]).map (fun r => (r.values, r.age)) = (s.siu.records[p]).map fun r => (r.values, r.age)

theorem SameRecords.refl (s : State) : SameRecords s s := ⟨rfl, rfl, rfl, fun _ => rfl⟩

theorem SameRecords.trans {t u : State} (h : SameRecords s t) (k : SameRecords t u) : SameRecords s u :=
  ⟨k.stations.trans h.stations, k.hold.trans h.hold, k.uptime.trans h.uptime, fun p => (k.records p).trans (h.records p)⟩

theorem SameRecords.stationFor {t : State} (h : SameRecords s t) (role : Role) : t.stationFor role = s.stationFor role := by
  simp [State.stationFor, State.findStation, h.stations]

theorem SameRecords.figures {t : State} (h : SameRecords s t) : t.batteryFigures = s.batteryFigures :=
  batteryFigures_congr (h.stationFor _) h.hold fun p _ _ => h.records p

theorem SameRecords.address {t : State} (h : SameRecords s t) : t.batteryAddress = s.batteryAddress := by
  simp [State.batteryAddress, h.stationFor]

theorem SameRecords.of_frame {t : State} {parts : Set Part} (h : s.changesOnly t parts) (hparts : parts ⊆ staleParts)
    (hrecords : ∀ p : Position, (t.siu.records[p]).map (fun r => (r.values, r.age)) =
      (s.siu.records[p]).map fun r => (r.values, r.age)) : SameRecords s t := by
  have hkept : ∀ part, part ∉ staleParts → s.same t part := fun part hpart => h part fun hin => hpart (hparts hin)
  have hstations : t.fs.stations = s.fs.stations := by
    refine Vector.ext fun i hi => ?_
    exact hkept (.station ⟨i, hi⟩) (by simp [staleParts])
  have hsite : t.mr.site = s.mr.site := hkept .site (by simp [staleParts])
  exact ⟨hstations, by rw [hsite], hkept .uptime (by simp [staleParts]), hrecords⟩

theorem sameForBattery_reportStale (r : MeasRecord) (e : Station) : SameForBattery s (s.reportStale pos r e) := by
  have hframe := reportStale_frame (s := s) (pos := pos) (r := r) (e := e)
  have hevent (event : Event) (h : event = .topUpDone ∨ event = .batteryMode) :
      (s.reportStale pos r e).isPending event = s.isPending event := by
    rw [reportStale_isPending]
    rcases h with rfl | rfl <;> cases e.role <;> simp [Role.staleEvent]
  exact ⟨State.bd_of_same (hframe .battery (by simp)) (hframe .batteryTable (by simp)), hframe .freeze (by simp),
    hevent _ (.inl rfl), hevent _ (.inr rfl), hframe (.queue .down) (by simp)⟩

theorem sameRecords_reportStale {r : MeasRecord} {e : Station} (hr : s.siu.records[pos] = some r) :
    SameRecords s (s.reportStale pos r e) := by
  have hframe := reportStale_frame (s := s) (pos := pos) (r := r) (e := e)
  refine SameRecords.of_frame hframe (by simp [staleParts, Set.subset_def]) fun p => ?_
  by_cases hp : p = pos
  · subst hp
    rw [reportStale_record, hr]
    rfl
  · rw [show (s.reportStale pos r e).siu.records[p] = s.siu.records[p] from hframe (.record p) (by simp [hp])]

theorem sameRecords_evaluate (s : State) : SameRecords s s.evaluate :=
  SameRecords.of_frame s.evaluate_frame (by simp [staleParts, Set.subset_def]) fun p => by simp [State.evaluate]

theorem sameRecords_turnStale (s : State) (pos : Position) : SameRecords s (s.turnStale pos) := by
  rcases turnStale_cases s pos with ⟨r, e, hr, -, -, -, h⟩ | ⟨-, h⟩ <;> rw [h]
  · split
    · exact (sameRecords_reportStale hr).trans (sameRecords_evaluate _)
    · exact sameRecords_reportStale hr
  · exact SameRecords.refl s

/-- The record of a position after its turn. -/
def State.turnedRecord (s : State) (pos : Position) : Option MeasRecord :=
  (s.siu.records[pos]).map fun r =>
    if (s.fs.stations[pos]).isSome && r.staleDue s.now s.mr.site.holdTime then { r with reported := true } else r

theorem turnStale_record (s : State) (pos : Position) : (s.turnStale pos).siu.records[pos] = s.turnedRecord pos := by
  unfold State.turnedRecord
  rcases turnStale_cases s pos with ⟨r, e, hr, he, hreported, hpast, h⟩ | ⟨hleft, h⟩ <;> rw [h]
  · have hdue := staleDue_iff.mpr ⟨hreported, hpast⟩
    rw [hr, he, Option.map_some, hdue]
    have hkept : (if e.role = .battery then (s.reportStale pos r e).evaluate else s.reportStale pos r e).siu.records[pos] =
        (s.reportStale pos r e).siu.records[pos] := by
      split
      · exact State.evaluate_frame _ (.record pos) (by simp)
      · rfl
    rw [hkept, reportStale_record]
    rfl
  · cases hr : s.siu.records[pos] with
    | none => rfl
    | some r =>
      cases he : s.fs.stations[pos] with
      | none => simp
      | some e =>
        have hdue : r.staleDue s.now s.mr.site.holdTime = false := by
          rw [Bool.eq_false_iff, Ne, staleDue_iff]
          rintro ⟨hreported, hpast⟩
          rcases hleft r e hr he with h | h
          · simp [h] at hreported
          · exact h hpast
        simp [hdue]

theorem turnStale_other {p : Position} (h : p ≠ pos) : (s.turnStale pos).siu.records[p] = s.siu.records[p] :=
  s.turnStale_frame pos (.record p) (by simp [h])

/-- An event of the SIU after a turn. -/
theorem turnStale_isPending {event : Event} (h1 : event ≠ .topUpDone) (h2 : event ≠ .batteryMode) :
    (s.turnStale pos).isPending event = true ↔
      s.isPending event = true ∨ s.turnsAt pos fun e => e.role.staleEvent = some event := by
  rcases turnStale_cases s pos with ⟨r, e, hr, he, hreported, hpast, h⟩ | ⟨hleft, h⟩
  · have hevaluated : (if e.role = .battery then (s.reportStale pos r e).evaluate else s.reportStale pos r e).isPending event =
        (s.reportStale pos r e).isPending event := by
      split
      · rw [State.evaluate, State.evaluateWith_isPending]
        simp [h1, h2]
      · rfl
    rw [h, hevaluated, reportStale_isPending, Bool.or_eq_true, decide_eq_true_iff]
    refine or_congr_right ⟨fun hrole => ⟨r, e, hr, he, hreported, hpast, hrole⟩, ?_⟩
    rintro ⟨r', e', hr', he', -, -, hrole⟩
    rw [he] at he'
    cases he'
    exact hrole
  · rw [h]
    refine ⟨.inl, fun hor => hor.resolve_right ?_⟩
    rintro ⟨r, e, hr, he, hreported, hpast, -⟩
    rcases hleft r e hr he with k | k
    · simp [k] at hreported
    · exact k hpast

theorem EvaluatedWhere.turnStale {base : State} {acts : Prop} (h : EvaluatedWhere base acts s) :
    EvaluatedWhere base (acts ∨ s.turnsAt pos fun e => e.role = .battery) (s.turnStale pos) := by
  rcases turnStale_cases s pos with ⟨r, e, hr, he, hreported, hpast, hturn⟩ | ⟨hleft, hturn⟩ <;> rw [hturn]
  · have hreportedSame := h.same (sameForBattery_reportStale r e) (sameRecords_reportStale hr).figures
      (sameRecords_reportStale hr).address
    split
    next hrole => exact hreportedSame.evaluate ⟨r, e, hr, he, hreported, hpast, hrole⟩
    next hrole =>
      refine hreportedSame.iff ⟨.inl, fun hor => hor.resolve_right ?_⟩
      rintro ⟨r', e', -, he', -, -, hrole'⟩
      rw [he] at he'
      cases he'
      exact hrole hrole'
  · refine h.iff ⟨.inl, fun hor => hor.resolve_right ?_⟩
    rintro ⟨r, e, hr, he, hreported, hpast, -⟩
    rcases hleft r e hr he with k | k
    · simp [k] at hreported
    · exact k hpast

theorem pastHold_congr {t : State} (h : t.mu.uptime = s.mu.uptime) (r : MeasRecord) (hold : Nat) :
    Claims.pastHold t r hold ↔ Claims.pastHold s r hold := by
  simp only [Claims.pastHold, h]

/-- A turn at one position leaves the turns of the others. -/
theorem turnsAt_turnStale {p : Position} (h : p ≠ pos) (q : Station → Prop) :
    (s.turnStale pos).turnsAt p q ↔ s.turnsAt p q := by
  have hsame := sameRecords_turnStale s pos
  unfold State.turnsAt
  simp only [turnStale_other h, hsame.stations, hsame.hold, pastHold_congr hsame.uptime]

end

end Sys2Proof.Machine
end

section
/-! SITE_WRITE (O28). -/

namespace Sys2Proof.Machine

/-! ### All records in turn (R33) -/

section
variable {s : State} {l : List Position}

theorem turnedRecord_turnStale {pos p : Position} (h : p ≠ pos) : (s.turnStale pos).turnedRecord p = s.turnedRecord p := by
  have hsame := sameRecords_turnStale s pos
  unfold State.turnedRecord State.now
  rw [turnStale_other h, hsame.stations, hsame.hold, hsame.uptime]

theorem foldl_turnStale_record (hl : l.Nodup) (p : Position) :
    (l.foldl State.turnStale s).siu.records[p] = if p ∈ l then s.turnedRecord p else s.siu.records[p] := by
  induction l generalizing s with
  | nil => rfl
  | cons pos l ih =>
    obtain ⟨hpos, hl⟩ := List.nodup_cons.mp hl
    rw [List.foldl_cons, ih hl]
    by_cases hp : p = pos
    · subst hp
      rw [if_neg hpos, if_pos List.mem_cons_self, turnStale_record]
    · rw [turnedRecord_turnStale hp, turnStale_other hp]
      simp [hp]

/-- A turn among the later positions is one of the state before. -/
theorem exists_turnsAt_cons {pos : Position} (hpos : pos ∉ l) (q : Station → Prop) :
    (s.turnsAt pos q ∨ ∃ p ∈ l, (s.turnStale pos).turnsAt p q) ↔ ∃ p ∈ pos :: l, s.turnsAt p q := by
  rw [List.exists_mem_cons_iff]
  refine or_congr_right (exists_congr fun p => and_congr_right fun hp => turnsAt_turnStale (fun h => ?_) q)
  exact hpos (h ▸ hp)

theorem foldl_turnStale_isPending (hl : l.Nodup) {event : Event} (h1 : event ≠ .topUpDone) (h2 : event ≠ .batteryMode) :
    (l.foldl State.turnStale s).isPending event = true ↔
      s.isPending event = true ∨ ∃ p ∈ l, s.turnsAt p fun e => e.role.staleEvent = some event := by
  induction l generalizing s with
  | nil => simp
  | cons pos l ih =>
    obtain ⟨hpos, hl⟩ := List.nodup_cons.mp hl
    rw [List.foldl_cons, ih hl, turnStale_isPending h1 h2, or_assoc, exists_turnsAt_cons hpos]

theorem EvaluatedWhere.foldl_turnStale {base : State} {acts : Prop} (h : EvaluatedWhere base acts s) (hl : l.Nodup) :
    EvaluatedWhere base (acts ∨ ∃ p ∈ l, s.turnsAt p fun e => e.role = .battery) (l.foldl State.turnStale s) := by
  induction l generalizing s acts with
  | nil => exact h.iff (by simp)
  | cons pos l ih =>
    obtain ⟨hpos, hl⟩ := List.nodup_cons.mp hl
    exact (ih (h.turnStale (pos := pos)) hl).iff (by rw [or_assoc, exists_turnsAt_cons hpos])

end

/-! ### A changed hold time (R33) -/

/-- The records that the new hold time makes fresh again, before the turns. -/
def State.refreshedRecords (s : State) : State :=
  { s with siu.records := s.siu.records.map fun r => r.map fun r => r.refreshed s.mr.site.holdTime }

theorem holdChanged_eq (s : State) : s.holdChanged = (List.finRange 64).foldl State.turnStale s.refreshedRecords := rfl

section
variable {s : State}

theorem refreshedRecords_record (p : Position) :
    s.refreshedRecords.siu.records[p] = (s.siu.records[p]).map fun r => r.refreshed s.mr.site.holdTime := by
  simp [State.refreshedRecords]

theorem refreshed_values (r : MeasRecord) (hold : Nat) : (r.refreshed hold).values = r.values ∧ (r.refreshed hold).age = r.age ∧
    (r.refreshed hold).waitStart = r.waitStart := by
  unfold MeasRecord.refreshed
  split <;> exact ⟨rfl, rfl, rfl⟩

theorem refreshed_past {r : MeasRecord} {hold : Nat} (h : Claims.pastHold s r hold) : r.refreshed hold = r :=
  if_neg (by rw [fresh_eq_false h]; simp)

theorem pastHold_refreshed (r : MeasRecord) (hold : Nat) :
    Claims.pastHold s (r.refreshed hold) hold ↔ Claims.pastHold s r hold := by
  obtain ⟨hvalues, hage, hwait⟩ := refreshed_values r hold
  simp only [Claims.pastHold, hvalues, hage, hwait]

theorem refreshed_within {r : MeasRecord} {hold : Nat} (h : ¬Claims.pastHold s r hold) (hvalues : r.values ≠ none) :
    r.refreshed hold = { r with reported := false } := by
  have hage : r.age ≤ hold := Nat.not_lt.mp fun hlt => h (.inl ⟨hvalues, hlt⟩)
  exact if_pos (by simp [MeasRecord.fresh, Option.isSome_iff_ne_none.mpr hvalues, hage])

theorem refreshed_never {r : MeasRecord} {hold : Nat} (hvalues : r.values = none) : r.refreshed hold = r :=
  if_neg (by simp [MeasRecord.fresh, hvalues])

theorem sameRecords_refreshed (s : State) : SameRecords s s.refreshedRecords := by
  refine ⟨rfl, rfl, rfl, fun p => ?_⟩
  rw [refreshedRecords_record]
  cases s.siu.records[p] with
  | none => rfl
  | some r =>
    obtain ⟨hvalues, hage, -⟩ := refreshed_values r s.mr.site.holdTime
    simp [hvalues, hage]

theorem turnsAt_refreshed (p : Position) (q : Station → Prop) : s.refreshedRecords.turnsAt p q ↔ s.turnsAt p q := by
  unfold State.turnsAt
  rw [refreshedRecords_record]
  have hpast (r : MeasRecord) (hold : Nat) : Claims.pastHold s.refreshedRecords r hold ↔ Claims.pastHold s r hold := Iff.rfl
  constructor
  · rintro ⟨x, e, hx, he, hreported, hpastx, hq⟩
    obtain ⟨r, hr, rfl⟩ := Option.map_eq_some_iff.mp hx
    have hrpast : Claims.pastHold s r s.mr.site.holdTime := (pastHold_refreshed r _).mp hpastx
    rw [refreshed_past hrpast] at hreported
    exact ⟨r, e, hr, he, hreported, hrpast, hq⟩
  · rintro ⟨r, e, hr, he, hreported, hrpast, hq⟩
    refine ⟨r, e, ?_, he, hreported, hrpast, hq⟩
    rw [hr, Option.map_some, refreshed_past hrpast]

theorem holdChanged_record (p : Position) : s.holdChanged.siu.records[p] = s.refreshedRecords.turnedRecord p := by
  simp only [holdChanged_eq]
  rw [foldl_turnStale_record (List.nodup_finRange 64), if_pos (List.mem_finRange p)]

theorem holdChanged_isPending {event : Event} (h1 : event ≠ .topUpDone) (h2 : event ≠ .batteryMode) :
    s.holdChanged.isPending event = true ↔
      s.isPending event = true ∨ ∃ p, s.turnsAt p fun e => e.role.staleEvent = some event := by
  rw [holdChanged_eq, foldl_turnStale_isPending (List.nodup_finRange 64) h1 h2]
  simp only [List.mem_finRange, true_and, turnsAt_refreshed]
  rfl

theorem EvaluatedWhere.holdChanged {base : State} {acts : Prop} (h : EvaluatedWhere base acts s) :
    EvaluatedWhere base (acts ∨ ∃ p, s.turnsAt p fun e => e.role = .battery) s.holdChanged := by
  have hrefreshed := h.same (w := s.refreshedRecords) ⟨rfl, rfl, rfl, rfl, rfl⟩ (sameRecords_refreshed s).figures
    (sameRecords_refreshed s).address
  rw [holdChanged_eq]
  refine (hrefreshed.foldl_turnStale (List.nodup_finRange 64)).iff ?_
  simp only [List.mem_finRange, true_and, turnsAt_refreshed]

/-- A hold time that has changed to the one of the site table, in the terms of the statement. -/
theorem holdChanged_heldAnew (s : State) : Claims.heldAnew s s.holdChanged s.mr.site.holdTime := by
  refine ⟨fun pos r e hr he hmeasures => ⟨fun hpast => ⟨?past, fun hreported => ?events⟩, fun hwithin hvalues => ?within,
    fun hwithin hnever => ?never⟩, fun hnone event hevent => ?quiet⟩
  case past =>
    rw [holdChanged_record, State.turnedRecord, refreshedRecords_record, hr, Option.map_some, Option.map_some,
      refreshed_past hpast]
    by_cases hreported : r.reported = true
    · have hmarked : { r with reported := true } = r := by rw [← hreported]
      rw [hmarked, ite_self]
    · have hdue : r.staleDue s.now s.mr.site.holdTime = true := staleDue_iff.mpr ⟨by simpa using hreported, hpast⟩
      have hentry : (s.refreshedRecords.fs.stations[pos]).isSome = true := by
        rw [show s.refreshedRecords.fs.stations[pos] = some e from he]
        rfl
      rw [hentry, show r.staleDue s.refreshedRecords.now s.refreshedRecords.mr.site.holdTime = true from hdue]
      rfl
  case events =>
    have hraised (event : Event) (h1 : event ≠ .topUpDone) (h2 : event ≠ .batteryMode)
        (hrole : e.role.staleEvent = some event) : s.holdChanged.isPending event = true :=
      (holdChanged_isPending h1 h2).mpr (.inr ⟨pos, r, e, hr, he, hreported, hpast, hrole⟩)
    refine ⟨fun hrole => hraised _ nofun nofun ?_, fun hrole => hraised _ nofun nofun ?_, fun hrole => hraised _ nofun nofun ?_⟩
    · rcases hrole with hrole | hrole <;> rw [hrole] <;> rfl
    · obtain ⟨j, hrole⟩ := hrole
      rw [hrole]
      rfl
    · rw [hrole]
      rfl
  case within =>
    have hundue : ({ r with reported := false } : MeasRecord).staleDue s.now s.mr.site.holdTime = false := by
      rw [Bool.eq_false_iff, Ne, staleDue_iff]
      exact fun h => hwithin h.2
    rw [holdChanged_record, State.turnedRecord, refreshedRecords_record, hr, Option.map_some, Option.map_some,
      refreshed_within hwithin hvalues,
      show ({ r with reported := false } : MeasRecord).staleDue s.refreshedRecords.now s.refreshedRecords.mr.site.holdTime = false
        from hundue, Bool.and_false, if_neg (by simp)]
  case never =>
    have hundue : r.staleDue s.now s.mr.site.holdTime = false := by
      rw [Bool.eq_false_iff, Ne, staleDue_iff]
      exact fun h => hwithin h.2
    rw [holdChanged_record, State.turnedRecord, refreshedRecords_record, hr, Option.map_some, Option.map_some,
      refreshed_never hnever, show r.staleDue s.refreshedRecords.now s.refreshedRecords.mr.site.holdTime = false from hundue,
      Bool.and_false, if_neg (by simp)]
  case quiet =>
    have hbattery : event ≠ .topUpDone ∧ event ≠ .batteryMode := by
      simp only [List.mem_cons, List.not_mem_nil, or_false] at hevent
      rcases hevent with rfl | rfl | rfl <;> exact ⟨nofun, nofun⟩
    rw [Bool.eq_iff_iff, holdChanged_isPending hbattery.1 hbattery.2]
    refine or_iff_left ?_
    rintro ⟨p, r, e, hr, -, hreported, hpast, -⟩
    simp [hnone p r hr hpast] at hreported

end

/-! ### Changed senses (R37) -/

section
variable {s : State} {i : Input}

theorem setShed_isPending (e : Event) : (s.setShed i).isPending e =
    (s.isPending e || ((i.active != s.siu.shed.active) && decide (.shedChange = e))) := by
  rw [State.setShed, State.raiseIf_isPending]
  rfl

theorem sameForBattery_setShed : SameForBattery s (s.setShed i) :=
  ⟨by simp [State.setShed], by simp [State.setShed], by simp [setShed_isPending], by simp [setShed_isPending],
    by simp [State.setShed]⟩

theorem sameRecords_setShed : SameRecords s (s.setShed i) :=
  ⟨by simp [State.setShed], by simp [State.setShed], by simp [State.setShed], fun p => by simp [State.setShed]⟩

/-- Whether ISLAND becomes active with a new state of the input (R40). -/
def State.islandBecomes (s : State) (i : Input) : Bool := i.active && !s.siu.island.active

theorem setIsland_cases (s : State) (i : Input) :
    (s.islandBecomes i = false ∧ s.setIsland i = { s with siu.island := i }) ∨
    (s.islandBecomes i = true ∧ s.siu.freeze = true ∧ s.setIsland i = ({ s with siu.island := i } : State).raise .islandOn) ∨
    (s.islandBecomes i = true ∧ s.siu.freeze = false ∧ s.setIsland i = (s.islandFrozen i).evaluate) := by
  cases h : s.islandBecomes i with
  | false =>
    refine .inl ⟨rfl, setIsland_quiet ?_⟩
    simp only [State.islandBecomes, Bool.and_eq_false_iff, Bool.not_eq_false'] at h
    exact h
  | true =>
    simp only [State.islandBecomes, Bool.and_eq_true, Bool.not_eq_true'] at h
    cases hfreeze : s.siu.freeze with
    | true => exact .inr (.inl ⟨rfl, rfl, setIsland_frozen h.1 h.2 hfreeze⟩)
    | false => exact .inr (.inr ⟨rfl, rfl, setIsland_unfrozen h.1 h.2 hfreeze⟩)

theorem setIsland_eventPending {e : Event} (h1 : e ≠ .topUpDone) (h2 : e ≠ .batteryMode) : (s.setIsland i).isPending e =
    (s.isPending e || (s.islandBecomes i && decide (.islandOn = e))) := by
  rcases setIsland_cases s i with ⟨hb, h⟩ | ⟨hb, -, h⟩ | ⟨hb, -, h⟩ <;> rw [h, hb]
  · simp [State.isPending]
  · rw [State.raise_isPending, Bool.true_and]
    rfl
  · rw [State.evaluate, State.evaluateWith_isPending, islandFrozen_isPending]
    simp [h1, h2]

theorem setIsland_freeze : (s.setIsland i).siu.freeze = (s.siu.freeze || s.islandBecomes i) := by
  rcases setIsland_cases s i with ⟨hb, h⟩ | ⟨hb, hf, h⟩ | ⟨hb, hf, h⟩ <;> rw [h, hb]
  · simp
  · simp [hf]
  · simp [State.evaluate, State.islandFrozen]

theorem sameRecords_setIsland : SameRecords s (s.setIsland i) := by
  rcases setIsland_cases s i with ⟨-, h⟩ | ⟨-, -, h⟩ | ⟨-, -, h⟩ <;> rw [h]
  · exact ⟨rfl, rfl, rfl, fun p => rfl⟩
  · exact ⟨rfl, rfl, rfl, fun p => rfl⟩
  · exact SameRecords.trans (t := s.islandFrozen i) ⟨rfl, rfl, rfl, fun p => rfl⟩ (sameRecords_evaluate _)

theorem setIsland_kept : (s.setIsland i).siu.shed = s.siu.shed ∧ (s.setIsland i).siu.records = s.siu.records ∧
    (s.setIsland i).rq = s.rq := by
  rcases setIsland_cases s i with ⟨-, h⟩ | ⟨-, -, h⟩ | ⟨-, -, h⟩ <;> rw [h] <;>
    simp [State.evaluate, State.islandFrozen]

/-- ISLAND's new state is an evaluation where it sets the freeze. -/
theorem EvaluatedWhere.setIsland {base : State} (h : SameForBattery { s with siu.freeze := (s.setIsland i).siu.freeze } base)
    (hrecords : SameRecords s base) :
    EvaluatedWhere base ((s.setIsland i).siu.freeze ≠ s.siu.freeze) (s.setIsland i) := by
  have hfigures : (s.setIsland i).batteryFigures = base.batteryFigures :=
    sameRecords_setIsland.figures.trans hrecords.figures.symm
  have haddress : (s.setIsland i).batteryAddress = base.batteryAddress :=
    sameRecords_setIsland.address.trans hrecords.address.symm
  rw [setIsland_freeze] at h ⊢
  refine ⟨fun hacts => ?_, fun hidle => ?_, hfigures, haddress⟩
  · rcases setIsland_cases s i with ⟨hb, -⟩ | ⟨-, hf, -⟩ | ⟨hb, hf, hset⟩
    · simp [hb] at hacts
    · simp [hf] at hacts
    · rw [hset]
      have hfrozen : SameForBattery { s with siu.freeze := s.siu.freeze || s.islandBecomes i } (s.islandFrozen i) := by
        refine ⟨rfl, by simp [State.islandFrozen, hf, hb], ?_, ?_, rfl⟩ <;> rw [islandFrozen_isPending] <;> simp [State.isPending]
      have hbase : SameRecords base (s.islandFrozen i) :=
        ⟨hrecords.stations.symm, hrecords.hold.symm, hrecords.uptime.symm, fun p => (hrecords.records p).symm⟩
      exact (h.symm.trans hfrozen).evaluate hbase.figures hbase.address
  · have hpending (e : Event) (h1 : e = .topUpDone ∨ e = .batteryMode) : (s.setIsland i).isPending e = s.isPending e := by
      rcases setIsland_cases s i with ⟨-, hset⟩ | ⟨-, -, hset⟩ | ⟨hb, hf, -⟩
      · rw [hset]
        rfl
      · rw [hset, State.raise_isPending]
        rcases h1 with rfl | rfl <;> simp [State.isPending]
      · simp [hb, hf] at hidle
    have hbd : (s.setIsland i).bd = s.bd ∧ (s.setIsland i).li.down.queue = s.li.down.queue := by
      rcases setIsland_cases s i with ⟨-, hset⟩ | ⟨-, -, hset⟩ | ⟨hb, hf, -⟩
      · rw [hset]
        exact ⟨rfl, rfl⟩
      · rw [hset]
        exact ⟨rfl, rfl⟩
      · simp [hb, hf] at hidle
    have hsame : SameForBattery { s with siu.freeze := s.siu.freeze || s.islandBecomes i } (s.setIsland i) :=
      ⟨hbd.1, setIsland_freeze, hpending _ (.inl rfl), hpending _ (.inr rfl), hbd.2⟩
    exact h.symm.trans hsame

end

end Sys2Proof.Machine
end

section
/-! SITE_WRITE (O28): the steps of a taken SITE record, and what they leave together. -/

namespace Sys2Proof.Machine

/-- An input after a write of its sense: formed again where the sense is another (R37). -/
def Input.sensed (i : Input) (old new : Sense) : Input := if old = new then i else Input.formed new i.high

section
variable {s : State}

theorem setShed_same : s.setShed s.siu.shed = s := by
  rw [State.setShed, bne_self_eq_false]
  rfl

theorem setIsland_same : s.setIsland s.siu.island = s := by
  rw [State.setIsland, if_neg (by simp)]

/-- Changed senses act on both inputs, SHED first; an input whose sense stands is left as it is. -/
theorem sensesChanged_eq (s : State) (old new : Sense) : s.sensesChanged old new =
    (s.setShed (s.siu.shed.sensed old s.mr.site.shedSense)).setIsland (s.siu.island.sensed new s.mr.site.islandSense) := by
  have hshed : (if old = s.mr.site.shedSense then s else s.setShed (Input.formed s.mr.site.shedSense s.siu.shed.high)) =
      s.setShed (s.siu.shed.sensed old s.mr.site.shedSense) := by
    unfold Input.sensed
    split
    · exact setShed_same.symm
    · rfl
  have hkept (i : Input) : (s.setShed i).siu.island = s.siu.island := by simp [State.setShed]
  unfold State.sensesChanged
  dsimp only
  rw [hshed, hkept]
  generalize s.siu.shed.sensed old s.mr.site.shedSense = i
  unfold Input.sensed
  split
  · rw [← hkept i, setIsland_same]
  · rfl

/-- What changed senses leave, the site table being written already. -/
structure SensesTaken (s : State) (site : SiteTable) (v : State) : Prop where
  shed : v.siu.shed = s.siu.shed.sensed s.mr.site.shedSense site.shedSense
  island : v.siu.island = s.siu.island.sensed s.mr.site.islandSense site.islandSense
  freeze : v.siu.freeze = (s.siu.freeze || (v.siu.island.active && !s.siu.island.active))
  pending : ∀ e, e ≠ .topUpDone → e ≠ .batteryMode → v.isPending e =
    (s.isPending e || ((v.siu.shed.active != s.siu.shed.active) && decide (.shedChange = e)) ||
      ((v.siu.island.active && !s.siu.island.active) && decide (.islandOn = e)))
  records : v.siu.records = s.siu.records
  stations : v.fs.stations = s.fs.stations
  uptime : v.mu.uptime = s.mu.uptime
  queue : v.rq = s.rq
  table : v.mr.site = site
  evaluated : EvaluatedWhere { s with mr.site := site, siu.freeze := v.siu.freeze } (v.siu.freeze ≠ s.siu.freeze) v

theorem sensesTaken (s : State) (site : SiteTable) :
    SensesTaken s site (({ s with mr.site := site } : State).sensesChanged s.mr.site.shedSense s.mr.site.islandSense) := by
  have hframe := ({ s with mr.site := site } : State).sensesChanged_frame s.mr.site.shedSense s.mr.site.islandSense
  have hset := sensesChanged_eq { s with mr.site := site } s.mr.site.shedSense s.mr.site.islandSense
  generalize hi : s.siu.shed.sensed s.mr.site.shedSense site.shedSense = i at *
  generalize hj : s.siu.island.sensed s.mr.site.islandSense site.islandSense = j at *
  generalize hw : ({ s with mr.site := site } : State).setShed i = w at *
  have hv : ({ s with mr.site := site } : State).sensesChanged s.mr.site.shedSense s.mr.site.islandSense = w.setIsland j := by
    rw [hset, ← hw, ← hi, ← hj]
  rw [hv] at hframe ⊢
  obtain ⟨hshed, hrecords, hrq⟩ := setIsland_kept (s := w) (i := j)
  have hwshed : w.siu.shed = i := by rw [← hw]; simp [State.setShed]
  have hwfreeze : w.siu.freeze = s.siu.freeze := by rw [← hw]; simp [State.setShed]
  have hwisland : w.siu.island = s.siu.island := by rw [← hw]; simp [State.setShed]
  have hwrecords : w.siu.records = s.siu.records := by rw [← hw]; simp [State.setShed]
  have hwrq : w.rq = s.rq := by rw [← hw]; simp [State.setShed]
  have hkept : SameRecords { s with mr.site := site } (w.setIsland j) := by
    rw [← hw]
    exact sameRecords_setShed.trans sameRecords_setIsland
  have hbecomes : w.islandBecomes j = (j.active && !s.siu.island.active) := by rw [State.islandBecomes, hwisland]
  have hfreeze : (w.setIsland j).siu.freeze = (s.siu.freeze || (j.active && !s.siu.island.active)) := by
    rw [setIsland_freeze, hbecomes, hwfreeze]
  refine ⟨hshed.trans (hwshed.trans hi.symm), (setIsland_island ..).trans hj.symm, ?freeze, ?pending, hrecords.trans hwrecords,
    hkept.stations, hkept.uptime, hrq.trans hwrq, hframe .site (by simp [inputParts]), ?evaluated⟩
  case freeze => rw [hfreeze, setIsland_island]
  case pending =>
    intro e h1 h2
    rw [setIsland_eventPending h1 h2, setIsland_island, hshed, hwshed, hbecomes, ← hw, setShed_isPending]
    rfl
  case evaluated =>
    rw [← hwfreeze]
    have hbattery : SameForBattery w { s with mr.site := site } := by
      rw [← hw]
      exact sameForBattery_setShed.symm
    have hsame : SameRecords w { s with mr.site := site, siu.freeze := (w.setIsland j).siu.freeze } := by
      rw [← hw]
      exact ⟨by simp [State.setShed], by simp [State.setShed], by simp [State.setShed], fun p => by simp [State.setShed]⟩
    exact EvaluatedWhere.setIsland ⟨hbattery.bd, rfl, hbattery.done, hbattery.mode, hbattery.queue⟩ hsame

end

/-! ### The whole record -/

/-- The hold time of the site table acts where it is another than the old one (R33). -/
def State.holdTaken (s : State) (old : Nat) : State := if old = s.mr.site.holdTime then s else s.holdChanged

/-- The high-water mark of the site table acts where it is another than the old one (R141). -/
def State.highTaken (s : State) (old : Nat) : State := if old = s.mr.site.highWater then s else s.evalHigh

section
variable {s : State} {old : Nat} {e : Event}

theorem holdTaken_frame (s : State) (old : Nat) : s.changesOnly (s.holdTaken old) staleParts :=
  State.changesOnly_ite _ (s.changesOnly_refl _) s.holdChanged_frame

theorem holdTaken_isPending (h1 : e ≠ .topUpDone) (h2 : e ≠ .batteryMode) (h3 : e ∉ [Event.meterStale, .stringStale, .batteryStale]) :
    (s.holdTaken old).isPending e = s.isPending e := by
  unfold State.holdTaken
  split
  · rfl
  · rw [Bool.eq_iff_iff, holdChanged_isPending h1 h2]
    refine or_iff_left ?_
    rintro ⟨-, -, x, -, -, -, -, hrole⟩
    cases hx : x.role <;> rw [hx] at hrole <;> cases hrole <;> simp at h3

theorem highTaken_frame (s : State) (old : Nat) : s.changesOnly (s.highTaken old) {.receipts, .events} :=
  State.changesOnly_ite _ (s.changesOnly_refl _) s.evalHigh_frame

theorem highTaken_siu : (s.highTaken old).siu = s.siu := by
  unfold State.highTaken
  split <;> simp

theorem highTaken_rq : (s.highTaken old).rq = { s.rq with
    high := if old = s.mr.site.highWater then s.rq.high else decide (s.mr.site.highWater ≤ s.rq.receipts.length) } := by
  unfold State.highTaken
  split
  · rfl
  · exact State.evalHigh_rq s

theorem highTaken_isPending : (s.highTaken old).isPending e =
    (s.isPending e || ((s.highTaken old).rq.high && !s.rq.high && decide (.receiptHigh = e))) := by
  rw [highTaken_rq]
  unfold State.highTaken
  split
  · simp
  · rw [State.evalHigh, State.raiseIf_isPending]
    rfl

theorem sameForBattery_highTaken : SameForBattery s (s.highTaken old) := by
  refine ⟨?_, by rw [highTaken_siu], by simp [highTaken_isPending], by simp [highTaken_isPending], ?_⟩ <;>
    unfold State.highTaken <;> split <;> simp

theorem takeSiteRecord_stages (s : State) (record : List Byte) : (State.takeSiteRecord record s).1 =
    (((({ s with mr.site := (takeSite s.mr.site record).1 } : State).sensesChanged s.mr.site.shedSense
      s.mr.site.islandSense).holdTaken s.mr.site.holdTime).highTaken s.mr.site.highWater) := by
  have hsenses : (({ s with mr.site := (takeSite s.mr.site record).1 } : State).sensesChanged s.mr.site.shedSense
      s.mr.site.islandSense).mr.site = (takeSite s.mr.site record).1 := (sensesTaken s _).table
  have hheld := holdTaken_frame (({ s with mr.site := (takeSite s.mr.site record).1 } : State).sensesChanged s.mr.site.shedSense
      s.mr.site.islandSense) s.mr.site.holdTime .site (by simp [staleParts])
  unfold State.highTaken
  rw [hheld, hsenses]
  unfold State.holdTaken
  rw [hsenses]
  rfl

/-- The claim about a changed hold time looks at records, entries, uptime and the stale events alone. -/
theorem Claims.heldAnew.of_same {t s' t' : State} {hold : Nat} (h : Claims.heldAnew s t hold) (hrecords : s'.siu.records = s.siu.records)
    (hstations : s'.fs.stations = s.fs.stations) (huptime : s'.mu.uptime = s.mu.uptime)
    (hevents : ∀ e ∈ [Event.meterStale, .stringStale, .batteryStale], s'.isPending e = s.isPending e)
    (hrecords' : t'.siu.records = t.siu.records)
    (hevents' : ∀ e ∈ [Event.meterStale, .stringStale, .batteryStale], t'.isPending e = t.isPending e) :
    Claims.heldAnew s' t' hold := by
  unfold Claims.heldAnew Claims.pastHold at h ⊢
  rw [hrecords, hstations, huptime, hrecords']
  simp only [List.forall_mem_cons, List.not_mem_nil, false_imp_iff, implies_true, and_true] at hevents hevents' h ⊢
  rw [hevents.1, hevents.2.1, hevents.2.2, hevents'.1, hevents'.2.1, hevents'.2.2]
  exact h

/-- What a taken SITE record leaves. -/
structure SiteTaken (s : State) (site : SiteTable) (u : State) : Prop where
  shed : u.siu.shed = s.siu.shed.sensed s.mr.site.shedSense site.shedSense
  island : u.siu.island = s.siu.island.sensed s.mr.site.islandSense site.islandSense
  freeze : u.siu.freeze = (s.siu.freeze || (u.siu.island.active && !s.siu.island.active))
  shedChange : u.isPending .shedChange = (s.isPending .shedChange || (u.siu.shed.active != s.siu.shed.active))
  islandOn : u.isPending .islandOn = (s.isPending .islandOn || (u.siu.island.active && !s.siu.island.active))
  receiptHigh : u.isPending .receiptHigh = (s.isPending .receiptHigh || (u.rq.high && !s.rq.high))
  heldAnew : site.holdTime ≠ s.mr.site.holdTime → Claims.heldAnew s u site.holdTime
  records : site.holdTime = s.mr.site.holdTime → u.siu.records = s.siu.records
  queue : u.rq = { s.rq with
    high := if s.mr.site.highWater = site.highWater then s.rq.high else decide (site.highWater ≤ s.rq.receipts.length) }
  evaluated : EvaluatedWhere { s with mr.site := site, siu.freeze := u.siu.freeze } (u.siu.freeze ≠ s.siu.freeze ∨
    (site.holdTime ≠ s.mr.site.holdTime ∧ ∃ p, ({ s with mr.site := site } : State).turnsAt p fun e => e.role = .battery)) u

end

end Sys2Proof.Machine
end

section
/-! SITE_WRITE (O28): the obligation. -/

namespace Sys2Proof.Machine

section
variable {s : State}

theorem sameRecords_highTaken (s : State) (old : Nat) : SameRecords s (s.highTaken old) := by
  have hkept := highTaken_frame s old
  refine ⟨?_, congrArg _ (hkept .site (by simp)), hkept .uptime (by simp), fun p => by rw [highTaken_siu]⟩
  unfold State.highTaken
  split <;> simp

theorem siteTaken (s : State) (record : List Byte) :
    SiteTaken s (takeSite s.mr.site record).1 (State.takeSiteRecord record s).1 := by
  rw [takeSiteRecord_stages]
  generalize (takeSite s.mr.site record).1 = site
  have hv := sensesTaken s site
  generalize ({ s with mr.site := site } : State).sensesChanged s.mr.site.shedSense s.mr.site.islandSense = v at *
  obtain ⟨hshed, hisland, hfreeze, hpending, hrecords, hstations, huptime, hrq, htable, hevaluated⟩ := hv
  have hheld := holdTaken_frame v s.mr.site.holdTime
  have hwshed : (v.holdTaken s.mr.site.holdTime).siu.shed = v.siu.shed := hheld .shed (by simp [staleParts])
  have hwisland : (v.holdTaken s.mr.site.holdTime).siu.island = v.siu.island := hheld .island (by simp [staleParts])
  have hwfreeze : (v.holdTaken s.mr.site.holdTime).siu.freeze = v.siu.freeze := hheld .freeze (by simp [staleParts])
  have hwtable : (v.holdTaken s.mr.site.holdTime).mr.site = v.mr.site := hheld .site (by simp [staleParts])
  have hwrq : (v.holdTaken s.mr.site.holdTime).rq = v.rq := hheld .receipts (by simp [staleParts])
  have hwpending (e : Event) (h1 : e ≠ .topUpDone) (h2 : e ≠ .batteryMode)
      (h3 : e ∉ [Event.meterStale, .stringStale, .batteryStale]) :
      (v.holdTaken s.mr.site.holdTime).isPending e = v.isPending e := holdTaken_isPending h1 h2 h3
  have hwevaluated : EvaluatedWhere { s with mr.site := site, siu.freeze := v.siu.freeze } (v.siu.freeze ≠ s.siu.freeze ∨
      (site.holdTime ≠ s.mr.site.holdTime ∧ ∃ p, ({ s with mr.site := site } : State).turnsAt p fun e => e.role = .battery))
      (v.holdTaken s.mr.site.holdTime) := by
    have hturns (p : Position) : v.turnsAt p (fun e => e.role = .battery) ↔
        ({ s with mr.site := site } : State).turnsAt p fun e => e.role = .battery := by
      unfold State.turnsAt Claims.pastHold
      rw [hrecords, hstations, htable, huptime]
    unfold State.holdTaken
    split
    next hsame =>
      refine hevaluated.iff (or_iff_left ?_).symm
      exact fun h => h.1 (by rw [hsame, htable])
    next hdiffers =>
      rw [htable] at hdiffers
      refine hevaluated.holdChanged.iff (or_congr_right ?_)
      rw [and_iff_right (Ne.symm hdiffers)]
      exact exists_congr hturns
  have hwheld : site.holdTime ≠ s.mr.site.holdTime → Claims.heldAnew v (v.holdTaken s.mr.site.holdTime) site.holdTime := by
    intro hdiffers
    rw [State.holdTaken, htable, if_neg (Ne.symm hdiffers), ← htable]
    exact holdChanged_heldAnew v
  have hwrecords : site.holdTime = s.mr.site.holdTime → (v.holdTaken s.mr.site.holdTime).siu.records = v.siu.records := by
    intro hsame
    rw [State.holdTaken, htable, if_pos hsame.symm]
  generalize v.holdTaken s.mr.site.holdTime = w at *
  refine ⟨?shed, ?island, ?freeze, ?shedChange, ?islandOn, ?receiptHigh, ?held, ?records, ?queue, ?evaluated⟩
  case shed => rw [highTaken_siu, hwshed, hshed]
  case island => rw [highTaken_siu, hwisland, hisland]
  case freeze => rw [highTaken_siu, hwisland, hwfreeze, hfreeze]
  case shedChange => simp [highTaken_isPending, hwpending, hpending, highTaken_siu, hwshed]
  case islandOn => simp [highTaken_isPending, hwpending, hpending, highTaken_siu, hwisland]
  case receiptHigh =>
    rw [highTaken_isPending, hwpending .receiptHigh nofun nofun (by simp), hpending .receiptHigh nofun nofun, hwrq, hrq]
    simp
  case held =>
    intro hdiffers
    refine Claims.heldAnew.of_same (hwheld hdiffers) hrecords.symm hstations.symm huptime.symm ?_ (by rw [highTaken_siu]) ?_
    · simp [hpending]
    · simp [highTaken_isPending]
  case records =>
    intro hsame
    rw [highTaken_siu, hwrecords hsame, hrecords]
  case queue => rw [highTaken_rq, hwrq, hrq, hwtable, htable]
  case evaluated =>
    have hkept := sameRecords_highTaken w s.mr.site.highWater
    rw [highTaken_siu, hwfreeze]
    exact hwevaluated.same sameForBattery_highTaken hkept.figures hkept.address

theorem sensed_changed {i : Input} {old new : Sense} (h : new ≠ old) :
    (i.sensed old new).latch = false ∧ (i.sensed old new).high = i.high ∧
      (i.sensed old new).active = ((new == .levelHigh && i.high) || (new == .levelLow && !i.high)) := by
  rw [Input.sensed, if_neg (Ne.symm h)]
  refine ⟨rfl, rfl, ?_⟩
  cases new <;> simp [Input.formed, Sense.levelActive]

theorem sensed_stands {i : Input} {old new : Sense} (h : new = old) : i.sensed old new = i := if_pos h.symm

/-- Which battery records turn past the new hold time, in the terms of the statement. -/
theorem turnsAt_battery (site : SiteTable) (pos : Position) :
    ({ s with mr.site := site } : State).turnsAt pos (fun e => e.role = .battery) ↔
      (s.fs.stations[pos]).map (·.role) = some .battery ∧
        ∃ r, s.siu.records[pos] = some r ∧ r.reported = false ∧ Claims.pastHold s r site.holdTime := by
  constructor
  · rintro ⟨r, e, hr, he, hreported, hpast, hrole⟩
    have hentry : s.fs.stations[pos] = some e := he
    exact ⟨by rw [hentry, Option.map_some, hrole], r, hr, hreported, hpast⟩
  · rintro ⟨hrole, r, hr, hreported, hpast⟩
    obtain ⟨e, he, hrole⟩ := Option.map_eq_some_iff.mp hrole
    exact ⟨r, e, hr, he, hreported, hpast, hrole⟩

/-- A SITE record that changes no sense, no hold time and no high-water mark sets the table alone. -/
theorem takeSiteRecord_quiet {record : List Byte} (h1 : (takeSite s.mr.site record).1.shedSense = s.mr.site.shedSense)
    (h2 : (takeSite s.mr.site record).1.islandSense = s.mr.site.islandSense)
    (h3 : (takeSite s.mr.site record).1.holdTime = s.mr.site.holdTime)
    (h4 : (takeSite s.mr.site record).1.highWater = s.mr.site.highWater) :
    s.changesOnly (State.takeSiteRecord record s).1 {.site} := by
  have hset : (State.takeSiteRecord record s).1 = { s with mr.site := (takeSite s.mr.site record).1 } := by
    rw [takeSiteRecord_stages, State.sensesChanged]
    dsimp only
    rw [if_pos h1.symm, if_pos h2.symm, State.holdTaken, if_pos h3.symm, State.highTaken, if_pos h4.symm]
  rw [hset]
  intro part hp
  cases part <;> first | exact absurd rfl hp | exact ⟨rfl, rfl⟩ | exact ⟨rfl, rfl, rfl⟩ | rfl

end

theorem writtenSite_subset : siteParts ∪ {.plan, .events} ∪ answeredParts ⊆
    {.site, .plan, .shed, .island, .freeze, .receipts} ∪ Set.range Part.record ∪ evaluatedParts ∪ answeredParts := by
  intro part hpart
  simp only [siteParts, inputParts, staleParts, evaluatedParts, raisedParts, answeredParts, Set.mem_union, Set.mem_insert_iff,
    Set.mem_singleton_iff] at hpart ⊢
  tauto

/-- Settles O28: a SITE record is taken by its steps — the senses, the hold time, the high-water mark — and the plan check and the
answer leave what these set. -/
theorem siteIsWritten : Obligations.SiteIsWritten := by
  unfold Obligations.SiteIsWritten
  intro s source tag record rest h hlen site status
  have hw := writeWhole_taken (tag := tag) (code := 1) (s := s) (record := record) (fits := fun r => r.length == 78)
    (take := State.takeSiteRecord) (by simp [hlen])
  have hframe := s.takeSiteRecord_frame record
  have hsite := s.takeSiteRecord_site record
  have htaken := siteTaken s record
  have hquiet := takeSiteRecord_quiet (s := s) (record := record)
  have hexec := exec_written (c := .siteWrite) (code := 1) (work := State.writeSite) rfl h hw
  have hclamped : (State.takeSiteRecord record s).2 = (takeSite s.mr.site record).2 := rfl
  rw [hclamped] at hexec
  change _ = site at hsite
  generalize (State.takeSiteRecord record s).1 = u at *
  have hgains := State.written_gains (source := source) (tag := tag) (code := 1) (index := 0) (clamped := (takeSite s.mr.site record).2)
    (rest := rest) hframe (by simp [siteParts, inputParts, staleParts]) (by simp [siteParts, inputParts, staleParts])
  have hwritten := State.written_frame (source := source) (tag := tag) (code := 1) (index := 0)
    (clamped := (takeSite s.mr.site record).2) (rest := rest) hframe
  have hplan := State.written_planChecked (s := s) (u := u) (source := source) (tag := tag) (code := 1) (index := 0)
    (clamped := (takeSite s.mr.site record).2) (rest := rest)
  obtain ⟨hshed, hisland, hfreeze, hshedChange, hislandOn, hreceiptHigh, hheld, hrecords, hqueue, hevaluated⟩ := htaken
  refine ⟨_, hexec, by simp, by simp [hsite], ?gains, ?shedAnew, ?islandAnew, ?shedKept, ?islandKept, ?shedChange, ?freeze,
    ?evaluates, hplan, ?held, ?records, ?highAnew, ?highKept, ?receipts, ?next, ?high, ?quiet, ?frame⟩
  all_goals try simp only [State.written_siu, State.written_isPending, State.written_rq]
  case gains =>
    rw [State.answerTo, hsite] at hgains
    exact hgains
  case shedAnew =>
    intro hchanged
    rw [hshed]
    exact sensed_changed hchanged
  case islandAnew =>
    intro hchanged
    obtain ⟨hlatch, hhigh, hactive⟩ := sensed_changed (i := s.siu.island) hchanged
    refine ⟨by rw [hisland, hlatch], by rw [hisland, hhigh], by rw [hisland, hactive], fun hset hwas => ?_⟩
    simp [hislandOn, hset, hwas]
  case shedKept => exact fun hstands => hshed.trans (sensed_stands hstands)
  case islandKept => exact fun hstands => hisland.trans (sensed_stands hstands)
  case shedChange =>
    intro hchanged
    simp [hshedChange, hchanged]
  case freeze => exact hfreeze
  case evaluates =>
    have hacts : (u.siu.freeze ≠ s.siu.freeze ∨ (site.holdTime ≠ s.mr.site.holdTime ∧
        ∃ p, ({ s with mr.site := site } : State).turnsAt p fun e => e.role = .battery)) ↔
        (u.siu.freeze ≠ s.siu.freeze ∨ (site.holdTime ≠ s.mr.site.holdTime ∧ ∃ pos : Position,
          (s.fs.stations[pos]).map (·.role) = some .battery ∧
            ∃ r, s.siu.records[pos] = some r ∧ r.reported = false ∧ Claims.pastHold s r site.holdTime)) :=
      or_congr_right (and_congr_right fun _ => exists_congr fun p => turnsAt_battery site p)
    have hdone := hevaluated.iff hacts
    refine ⟨fun h => ?_, fun h => ?_⟩
    · exact Claims.evaluates.of_same (evaluateWith_evaluates _ []) (SameForBattery.refl _)
        ((hdone.done h).trans (sameForBattery_written ..)) rfl rfl
    · have hidle := (hdone.idle h).trans (sameForBattery_written s u source tag 1 0 (takeSite s.mr.site record).2 rest)
      have hbd : (s.written u source tag 1 0 (takeSite s.mr.site record).2 rest).bd = s.bd := hidle.bd
      refine ⟨?_, hidle.queue⟩
      unfold State.same
      rw [hbd]
  case held =>
    intro hchanged
    exact Claims.heldAnew.of_same (hheld hchanged) rfl rfl rfl (by simp) (by simp) (by simp)
  case records => exact hrecords
  case highAnew =>
    intro hchanged
    rw [hqueue, if_neg (Ne.symm hchanged)]
  case highKept =>
    intro hstands
    rw [hqueue, if_pos hstands.symm]
  case receipts => rw [hqueue]
  case next => rw [hqueue]
  case high =>
    unfold Claims.highRaised
    simp [hreceiptHigh]
  case quiet =>
    intro h1 h2 h3 h4
    have hset := State.written_frame (source := source) (tag := tag) (code := 1) (index := 0)
      (clamped := (takeSite s.mr.site record).2) (rest := rest) (hquiet h1 h2 h3 h4)
    exact State.changesOnly_mono hset (by simp [answeredParts, Set.subset_def])
  case frame => exact State.changesOnly_mono hwritten writtenSite_subset

end Sys2Proof.Machine
end

section
/-! GUARD_EXPIRY and DWELL_EXPIRY (O51), and the supply and the RESET pin (O43). -/

namespace Sys2Proof.Machine

/-! ### Guards and dwell timers (O51) -/

/-- Settles O51: each expiry loads its own timer and raises nothing. -/
theorem guardAndDwellExpire : Obligations.GuardAndDwellExpire := by
  unfold Obligations.GuardAndDwellExpire
  refine ⟨fun s b hp hdue => ?guard, fun s k hp hrunning hdue => ?dwell⟩
  case guard =>
    have hwork : (if (s.bay b).alloc.guard.due then s.expireGuard b else s) = s.expireGuard b := if_pos hdue
    refine ⟨_, exec_quiet (c := .guardExpiry b) rfl hp (by rw [hwork]; rfl), ?_, ?_⟩ <;> rw [hwork]
    · simp [State.expireGuard, Countdown.load]
    · exact s.expireGuard_frame b
  case dwell =>
    have hwork : (if s.dwellDue k then s.expireDwell k else s) = s.expireDwell k :=
      if_pos (by simp only [State.dwellDue, hrunning, hdue, Bool.and_self])
    refine ⟨_, exec_quiet (c := .dwellExpiry k) rfl hp (by rw [hwork]; rfl), ?_, ?_⟩ <;> rw [hwork]
    · simpa [State.expireDwell, Countdown.load, SiteTable.dwellOf] using hrunning
    · exact s.expireDwell_frame k

/-- An empty pending set holds no event. -/
theorem isPending_of_clear {s : State} (h : s.mr.events = 0) (e : Event) : s.isPending e = false := by
  simp [State.isPending, h]

/-! ### Supply and cold reset (O43) -/

section
variable {s : State} {strap1 strap2 shedHigh islandHigh : Bool}

/-- The state on which ISLAND's pin level acts at a cold reset. -/
def State.coldShed (s : State) (strap1 strap2 shedHigh : Bool) : State :=
  (s.coldStart strap1 strap2).setShed ⟨shedHigh, shedHigh, false⟩

theorem coldPins_eq : State.coldPins shedHigh islandHigh (s.coldStart strap1 strap2) =
    (s.coldShed strap1 strap2 shedHigh).setIsland ⟨islandHigh, islandHigh, false⟩ := rfl

theorem coldShed_siu : (s.coldShed strap1 strap2 shedHigh).siu = { State.reset.siu with shed := ⟨shedHigh, shedHigh, false⟩ } := by
  rw [State.coldShed, State.setShed, State.raiseIf_siu]
  rfl

theorem coldShed_isPending (e : Event) :
    (s.coldShed strap1 strap2 shedHigh).isPending e = (shedHigh && decide (.shedChange = e)) := by
  have hclear : (s.coldStart strap1 strap2).isPending e = false := isPending_of_clear rfl e
  rw [State.coldShed, setShed_isPending, hclear]
  cases shedHigh <;> rfl

theorem coldShed_frame : State.reset.changesOnly (s.coldShed strap1 strap2 shedHigh) {.commands, .rate, .shed, .events} := by
  have hstart : State.reset.changesOnly (s.coldStart strap1 strap2) {.commands, .rate} := by
    intro part hp
    cases part with
    | commands => exact absurd (by simp) hp
    | rate => exact absurd (by simp) hp
    | _ => first | exact ⟨rfl, rfl⟩ | exact ⟨rfl, rfl, rfl⟩ | rfl
  exact State.changesOnly_seq hstart (State.setShed_frame _ _) (by simp [Set.subset_def]) (by simp [Set.subset_def])

theorem coldPins_quiet : State.coldPins shedHigh false (s.coldStart strap1 strap2) =
    { s.coldShed strap1 strap2 shedHigh with siu.island := ⟨false, false, false⟩ } := setIsland_quiet (.inl rfl)

theorem coldPins_frozen : State.coldPins shedHigh true (s.coldStart strap1 strap2) =
    ((s.coldShed strap1 strap2 shedHigh).islandFrozen ⟨true, true, false⟩).evaluate := by
  have hisland : (s.coldShed strap1 strap2 shedHigh).siu.island.active = false := by rw [coldShed_siu]; rfl
  have hfreeze : (s.coldShed strap1 strap2 shedHigh).siu.freeze = false := by rw [coldShed_siu]; rfl
  exact setIsland_unfrozen rfl hisland hfreeze

/-- Without a measurement record there are no battery figures. -/
theorem batteryFigures_unmeasured {s : State} (h : s.siu.records = Vector.replicate 64 none) : s.batteryFigures = none := by
  have hrecord : s.recordFor .battery = none := by
    unfold State.recordFor
    rw [h]
    cases s.stationFor .battery <;> simp
  unfold State.batteryFigures State.freshValues
  rw [hrecord]

theorem topUpEnds_stale {s : State} (h : s.batteryFigures = none) : s.topUpEnds = false := by
  unfold State.topUpEnds topUpAfter
  rw [h]
  split <;> rfl

/-- What the pins leave at a cold reset: the inputs, the freeze and the mode by their levels, and the lines as they were. -/
structure ColdTaken (s : State) (strap1 strap2 shedHigh islandHigh : Bool) (w : State) : Prop where
  shed : w.siu.shed = ⟨shedHigh, shedHigh, false⟩
  island : w.siu.island = ⟨islandHigh, islandHigh, false⟩
  freeze : w.siu.freeze = islandHigh
  battery : w.bd = { State.reset.bd with mode := if islandHigh then .island else .off }
  events : ∀ e : Event, w.isPending e = true ↔ (e = .shedChange ∧ shedHigh = true) ∨ (e = .islandOn ∧ islandHigh = true) ∨
    (e = .batteryMode ∧ islandHigh = true)
  rate : w.li.rate = rateOf strap1 strap2
  up : w.li.up = PortState.cold
  down : w.li.down.queue = []
  frame : State.reset.changesOnly w {.commands, .rate, .shed, .island, .freeze, .battery, .events, .queue .down}

theorem coldShed_li : (s.coldShed strap1 strap2 shedHigh).li = ⟨rateOf strap1 strap2, PortState.cold, PortState.cold⟩ := by
  rw [State.coldShed, State.setShed, State.raiseIf_li]
  rfl

theorem coldShed_bd : (s.coldShed strap1 strap2 shedHigh).bd = State.reset.bd := by
  rw [State.coldShed, State.setShed, State.raiseIf_bd]
  rfl

theorem coldTaken : ColdTaken s strap1 strap2 shedHigh islandHigh
    (State.coldPins shedHigh islandHigh (s.coldStart strap1 strap2)) := by
  have hframe : State.reset.changesOnly (State.coldPins shedHigh islandHigh (s.coldStart strap1 strap2))
      {.commands, .rate, .shed, .island, .freeze, .battery, .events, .queue .down} := by
    rw [coldPins_eq]
    exact State.changesOnly_seq coldShed_frame (State.setIsland_frame _ _) (by simp [Set.subset_def])
      (by simp [Set.subset_def])
  cases islandHigh with
  | false =>
    rw [coldPins_quiet] at hframe ⊢
    refine ⟨?_, rfl, ?_, coldShed_bd, fun e => ?_, congrArg LineState.rate coldShed_li, congrArg LineState.up coldShed_li,
      congrArg (fun x => x.down.queue) coldShed_li, hframe⟩
    · exact congrArg SiuState.shed coldShed_siu
    · exact congrArg SiuState.freeze coldShed_siu
    · have hpending : ({ s.coldShed strap1 strap2 shedHigh with siu.island := ⟨false, false, false⟩ } : State).isPending e =
          (s.coldShed strap1 strap2 shedHigh).isPending e := rfl
      rw [hpending, coldShed_isPending, Bool.and_eq_true, decide_eq_true_eq, eq_comm (a := Event.shedChange)]
      simp [and_comm]
  | true =>
    rw [coldPins_frozen] at hframe ⊢
    have hbd : ((s.coldShed strap1 strap2 shedHigh).islandFrozen ⟨true, true, false⟩).bd = State.reset.bd := coldShed_bd
    have hli : ((s.coldShed strap1 strap2 shedHigh).islandFrozen ⟨true, true, false⟩).li =
      ⟨rateOf strap1 strap2, PortState.cold, PortState.cold⟩ := coldShed_li
    have hsiu : ((s.coldShed strap1 strap2 shedHigh).islandFrozen ⟨true, true, false⟩).siu =
        { (s.coldShed strap1 strap2 shedHigh).siu with island := ⟨true, true, false⟩, freeze := true } := rfl
    have hpending := islandFrozen_isPending (s := s.coldShed strap1 strap2 shedHigh) (i := ⟨true, true, false⟩)
    have hfigures : ((s.coldShed strap1 strap2 shedHigh).islandFrozen ⟨true, true, false⟩).batteryFigures = none :=
      batteryFigures_unmeasured (congrArg SiuState.records coldShed_siu)
    rw [coldShed_siu] at hsiu
    simp only [coldShed_isPending] at hpending
    generalize (s.coldShed strap1 strap2 shedHigh).islandFrozen ⟨true, true, false⟩ = w at *
    obtain ⟨hmemory, htop, hlast, -, hauto, hdone, hchanged⟩ := evaluateWith_evaluatedStale w [] hfigures
    obtain ⟨hmode, hofferBd, hofferBc, hsent⟩ := hauto (by rw [hbd]; rfl)
    obtain ⟨htable, -, -, -, -, hmanual⟩ := w.evaluateWith_bd []
    have hisland : (w.evaluateWith []).bd.mode = .island := by rw [hmode, hsiu]; rfl
    have hup : (w.evaluateWith []).li.rate = w.li.rate := w.evaluateWith_frame [] .rate (by simp)
    refine ⟨?_, ?_, ?_, ?_, fun e => ?_, hup.trans (by rw [hli]), ?_, ?_, hframe⟩
    · rw [State.evaluate, State.evaluateWith_siu, hsiu]
    · rw [State.evaluate, State.evaluateWith_siu, hsiu]
    · rw [State.evaluate, State.evaluateWith_siu, hsiu]
    · rw [hbd] at htable hlast hmanual
      refine battery_ext htable hisland hmemory htop ?_ hmanual hsent hlast
      rw [State.evaluate, hofferBd, hofferBc]
      rfl
    · rw [State.evaluate, State.evaluateWith_isPending, topUpEnds_stale hfigures, hpending, hisland, hbd]
      simp [State.reset, BatteryState.cold, eq_comm (a := Event.shedChange), eq_comm (a := Event.islandOn), and_comm, or_assoc]
    · rw [State.evaluate, State.evaluateWith_up, hli]
    · rw [State.evaluate, State.evaluateWith_queue, hli]
      split <;> rfl

end

/-! ### The STATUS frame of an event that finds the Up queue empty (R174) -/

section
variable {s : State} {work : State → State}

theorem replaces_status {q x : Queued} (h : q.origin = .status) : replaces q x = false := by
  rw [Bool.eq_false_iff, Ne, replaces_iff, h]
  simp

/-- What is sent first after a restart, or a cold reset: a STATUS frame where an unmasked event is pending, and nothing else. -/
theorem inEvent_firstStatus (hclear : s.unmasked = 0) (hqueue : (work s).li.up.queue = []) :
    (inEvent work s).li.up.queue = (if (inEvent work s).unmasked ≠ 0 then
      [⟨⟨(work s).mr.site.alertDest, (work s).own, kindStatus, (inEvent work s).statusPayload⟩, .status⟩] else []) ∧
      (work s).changesOnly (inEvent work s) {.queue .up} := by
  rcases inEvent_cases work s with ⟨hnone, hsame⟩ | ⟨-, hraised, hsent⟩
  · have hunmasked : ¬(work s).unmasked ≠ 0 := fun h => hnone ⟨hclear, h⟩
    rw [hsame, if_neg hunmasked]
    exact ⟨hqueue, State.changesOnly_refl _ _⟩
  · have hoffer : (work s).sendStatus = (work s).setQueue .up
        [⟨(work s).ownFrame (work s).mr.site.alertDest kindStatus (work s).statusPayload, .status⟩] := by
      have hport : ((work s).port .up).queue = [] := hqueue
      rw [State.sendStatus, State.offer_room (fun x hx => replaces_status rfl) (by rw [hport]; decide), hport]
      rfl
    rw [hsent, hoffer]
    exact ⟨(if_pos hraised).symm, State.setQueue_frame _ _ _⟩

end

/-- The pins raise an event at a cold reset exactly where one of them is high. -/
theorem coldPins_unmasked {s : State} {strap1 strap2 shedHigh islandHigh : Bool} :
    (State.coldPins shedHigh islandHigh (s.coldStart strap1 strap2)).unmasked ≠ 0 ↔ (shedHigh || islandHigh) = true := by
  have htaken := coldTaken (s := s) (strap1 := strap1) (strap2 := strap2) (shedHigh := shedHigh) (islandHigh := islandHigh)
  have hmask : (State.coldPins shedHigh islandHigh (s.coldStart strap1 strap2)).mr.mask = 0 := htaken.frame .mask (by simp)
  have hunmasked : (State.coldPins shedHigh islandHigh (s.coldStart strap1 strap2)).unmasked =
      (State.coldPins shedHigh islandHigh (s.coldStart strap1 strap2)).mr.events := by
    rw [State.unmasked, hmask, show ~~~(0 : BitVec 16) = BitVec.allOnes 16 from rfl, BitVec.and_allOnes]
  rw [hunmasked]
  constructor
  · intro hraised
    by_contra hlow
    simp only [Bool.or_eq_true, not_or, Bool.not_eq_true] at hlow
    obtain ⟨rfl, rfl⟩ := hlow
    exact hraised rfl
  · intro hhigh hclear
    rw [Bool.or_eq_true] at hhigh
    rcases hhigh with hhigh | hhigh
    · exact absurd ((htaken.events .shedChange).mpr (.inl ⟨rfl, hhigh⟩)) (by simp [isPending_of_clear hclear])
    · exact absurd ((htaken.events .islandOn).mpr (.inr (.inl ⟨rfl, hhigh⟩))) (by simp [isPending_of_clear hclear])

/-- A part held in reset takes no command but the supply's. -/
theorem exec_unpowered {c : Instr} {s : State} (hp : s.powered = false) (hsupply : c ≠ .supplyLoss)
    (hcold : ∀ a b h i, c ≠ .coldReset a b h i) : exec c s = .next s := by
  cases hwork : workOf c with
  | some work =>
    rw [exec_of_workOf hwork]
    simp [takeEvent, hp]
  | none =>
    cases c with
    | supplyLoss => exact absurd rfl hsupply
    | coldReset a b h i => exact absurd rfl (hcold a b h i)
    | warmRestart cause h i =>
      have hidle : exec (.warmRestart cause h i) s = execWarmRestart cause h i s := rfl
      rw [hidle, execWarmRestart, if_neg (by simp [hp])]
    | _ => cases hwork

/-- Settles O43: in reset only COLD_RESET is taken; it puts the cold state under the pins and sends the one STATUS frame that they
call for. -/
theorem supplyAndResetPin : Obligations.SupplyAndResetPin := by
  unfold Obligations.SupplyAndResetPin
  refine ⟨fun s => ⟨s.heldInReset, rfl, rfl, rfl, rfl⟩, fun c s hp hsupply hcold => ⟨?released, ?idle⟩,
    fun s strap1 strap2 shedHigh islandHigh hp => ?cold, fun s hp => ⟨_, exec_quiet (c := .resetPinReturnHigh) rfl hp rfl, rfl, ?pin⟩⟩
  case released => simp [State.alert, hp]
  case idle => exact exec_unpowered hp hsupply hcold
  case pin => exact workOf_frame (c := .resetPinReturnHigh) rfl s
  case cold =>
    obtain ⟨hshed, hisland, hfreeze, hbattery, hevents, hrate, hup, hdown, hframe⟩ :=
      coldTaken (s := s) (strap1 := strap1) (strap2 := strap2) (shedHigh := shedHigh) (islandHigh := islandHigh)
    have hexec : exec (.coldReset strap1 strap2 shedHigh islandHigh) s =
        .next (inEvent (State.coldPins shedHigh islandHigh) (s.coldStart strap1 strap2)) := by
      rw [show exec (.coldReset strap1 strap2 shedHigh islandHigh) s = execColdReset strap1 strap2 shedHigh islandHigh s from rfl,
        execColdReset, if_neg (by simp [hp])]
    have hstatus := inEvent_firstStatus (s := s.coldStart strap1 strap2) (work := State.coldPins shedHigh islandHigh)
      (by simp [State.unmasked, State.coldStart, State.reset])
      (by rw [hup]; rfl)
    have hraised := coldPins_unmasked (s := s) (strap1 := strap1) (strap2 := strap2) (shedHigh := shedHigh) (islandHigh := islandHigh)
    generalize hw : State.coldPins shedHigh islandHigh (s.coldStart strap1 strap2) = w at *
    have hpending (e : Event) : (inEvent (State.coldPins shedHigh islandHigh) (s.coldStart strap1 strap2)).isPending e = w.isPending e := by
      rw [inEvent_isPending, hw]
    generalize inEvent (State.coldPins shedHigh islandHigh) (s.coldStart strap1 strap2) = t at *
    obtain ⟨hqueue, hsent⟩ := hstatus
    have hreset : State.reset.changesOnly t {.commands, .rate, .shed, .island, .freeze, .battery, .events, .queue .up} := by
      intro part hpart
      by_cases hdownPart : part = .queue .down
      · subst hdownPart
        exact (hsent (.queue .down) (by simp)).trans hdown
      · exact State.changesOnly_trans hframe hsent part (by simp_all)
    have hsite : w.mr.site = SiteTable.cold := hframe .site (by simp)
    have hunmasked : t.unmasked = w.unmasked := by
      rw [State.unmasked, State.unmasked, show t.mr.events = w.mr.events from hsent .events (by simp),
        show t.mr.mask = w.mr.mask from hsent .mask (by simp)]
    refine ⟨t, hexec, ?_, ?_, ?_, ?_, ?_, ?_, fun e => by rw [hpending]; exact hevents e, ?_, hreset⟩
    · exact hreset .power (by simp)
    · rw [hsent .rate (by simp), hrate]
      rfl
    · rw [hsent .shed (by simp), hshed]
    · rw [hsent .island (by simp), hisland]
    · rw [hsent .freeze (by simp), hfreeze]
    · rw [State.bd_of_same (hsent .battery (by simp)) (hsent .batteryTable (by simp)), hbattery]
    · rw [hqueue, hunmasked, State.own, hsite]
      exact if_congr hraised rfl rfl

end Sys2Proof.Machine
end

section
/-! The plan check (O33): what each check finds, and which of them is reported. -/

namespace Sys2Proof.Machine

/-! ### The lowest number of which a check fails -/

theorem find?_finRange {n : Nat} {p : Fin n → Bool} {i : Fin n} :
    (List.finRange n).find? p = some i ↔ p i = true ∧ ∀ k < i, p k = false := by
  rw [← Fin.find?_eq_find?_finRange, Fin.find?_eq_some_iff]

theorem find?_finRange_lowest {n : Nat} {p : Fin n → Bool} {fails : Fin n → Prop} (h : ∀ i, p i = true ↔ fails i) (index : Byte) :
    ((List.finRange n).find? p).map (fun i => byteOf i.val) = some index ↔ Claims.lowest fails index := by
  rw [Option.map_eq_some_iff]
  refine exists_congr fun i => ?_
  rw [find?_finRange, h]
  have hbelow : (∀ k < i, p k = false) ↔ ∀ k < i, ¬fails k := by
    refine forall_congr' fun k => imp_congr_right fun _ => ?_
    rw [← h, Bool.not_eq_true]
  rw [hbelow, byteOf, eq_comm (a := BitVec.ofNat 8 i.val)]
  tauto

section
variable {s : State}

theorem stationFor_isNone (role : Role) : (s.stationFor role).isNone = true ↔ Claims.noStation s role := by
  unfold State.stationFor State.findStation Claims.noStation
  rw [Option.isNone_iff_eq_none, List.findSome?_eq_none_iff]
  refine ⟨fun h pos e he hrole => ?_, fun h pos _ => ?_⟩
  · have hpos := h pos (List.mem_finRange pos)
    rw [he] at hpos
    simp [hrole] at hpos
  · cases he : s.fs.stations[pos] with
    | none => rfl
    | some e => simp [h pos e he]

/-! ### Entries that fail in pairs -/

/-- The pairing of a check, where it has one, as the model computes it. -/
def pairing : PlanCheck → Station → Station → Bool
  | .duplicateAddress => fun a b => a.address == b.address
  | .secondRole => sameSingleRole
  | .sharedIndex => sameIndex
  | .bayNoCharger | .batteryOrder | .tariffOrder | .stringNoStation => fun _ _ => false

theorem pairing_iff (c : PlanCheck) (a b : Station) : pairing c a b = true ↔ Claims.paired c a b := by
  cases c
  case secondRole => cases ha : a.role <;> simp [pairing, Claims.paired, sameSingleRole, ha]
  case sharedIndex => cases ha : a.role <;> simp [pairing, Claims.paired, sameIndex, ha]
  all_goals simp [pairing, Claims.paired]

theorem secondOf_lowest (c : PlanCheck) (index : Byte) :
    (s.secondOf (pairing c)).map (fun p => byteOf p.val) = some index ↔ Claims.lowest (Claims.secondAt s c) index := by
  refine find?_finRange_lowest (fun pos => ?_) index
  rw [List.any_eq_true]
  unfold Claims.secondAt
  refine exists_congr fun lower => ?_
  simp only [List.mem_finRange, true_and, Bool.and_eq_true, decide_eq_true_eq]
  refine and_congr_right fun _ => ?_
  cases s.fs.stations[lower] with
  | none => simp
  | some a =>
    cases s.fs.stations[pos] with
    | none => simp
    | some b => simp [pairing_iff]

end

/-! ### Bands out of order -/

/-- The starts rise exactly if each is above the start before it. -/
theorem rising_cons (a b : Band) (l : List Band) : ((a :: b :: l).map (·.start)).Pairwise (· < ·) ↔
    a.start < b.start ∧ ((b :: l).map (·.start)).Pairwise (· < ·) := by
  rw [← List.isChain_iff_pairwise, ← List.isChain_iff_pairwise]
  exact List.isChain_cons_cons

theorem firstDescent_none (bands : List Band) (n : Nat) :
    firstDescent bands n = none ↔ (bands.map (·.start)).Pairwise (· < ·) := by
  induction bands generalizing n with
  | nil => simp [firstDescent]
  | cons a l ih =>
    cases l with
    | nil => simp [firstDescent]
    | cons b l =>
      rw [rising_cons, firstDescent]
      split
      next h => simp [Nat.not_lt.mpr h]
      next h => rw [ih, and_iff_right (Nat.not_le.mp h)]

theorem outOfOrder_first {a b : Band} {l : List Band} (h : b.start ≤ a.start) (k : Nat) :
    Claims.outOfOrder (a :: b :: l) k ↔ k = 1 := by
  constructor
  · rintro ⟨front, x, y, back, hl, rfl, -, hrising⟩
    rcases front with _ | ⟨c, _ | ⟨d, front⟩⟩
    · rfl
    · obtain ⟨rfl, rfl, -⟩ := by simpa using hl
      exact absurd ((rising_cons _ _ _).mp hrising).1 (Nat.not_lt.mpr h)
    · obtain ⟨rfl, rfl, -⟩ := by simpa using hl
      exact absurd ((rising_cons _ _ _).mp hrising).1 (Nat.not_lt.mpr h)
  · rintro rfl
    exact ⟨[], a, b, l, rfl, rfl, h, by simp⟩

theorem outOfOrder_later {a b : Band} {l : List Band} (h : a.start < b.start) (k : Nat) :
    Claims.outOfOrder (a :: b :: l) (k + 1) ↔ Claims.outOfOrder (b :: l) k := by
  constructor
  · rintro ⟨front, x, y, back, hl, hk, hdescent, hrising⟩
    rcases front with _ | ⟨c, front⟩
    · obtain ⟨rfl, rfl, -⟩ := by simpa using hl
      exact absurd h (Nat.not_lt.mpr hdescent)
    · obtain ⟨rfl, htail⟩ := List.cons.inj hl
      exact ⟨front, x, y, back, htail, by simpa using hk, hdescent, hrising.of_cons⟩
  · rintro ⟨front, x, y, back, hl, hk, hdescent, hrising⟩
    refine ⟨a :: front, x, y, back, by rw [hl, List.cons_append], by simpa using hk, hdescent, ?_⟩
    rcases front with _ | ⟨c, front⟩
    · obtain ⟨rfl, -⟩ := by simpa using hl
      exact (rising_cons _ _ _).mpr ⟨h, hrising⟩
    · obtain ⟨rfl, -⟩ := by simpa using hl
      exact (rising_cons _ _ _).mpr ⟨h, hrising⟩

theorem outOfOrder_pos {bands : List Band} {k : Nat} (h : Claims.outOfOrder bands k) : 0 < k := by
  obtain ⟨front, -, -, -, -, rfl, -⟩ := h
  exact Nat.succ_pos _

theorem firstDescent_some (bands : List Band) (n m : Nat) :
    firstDescent bands n = some m ↔ ∃ k, m = n + k ∧ Claims.outOfOrder bands k := by
  induction bands generalizing n with
  | nil => simp [firstDescent, Claims.outOfOrder]
  | cons a l ih =>
    cases l with
    | nil =>
      refine iff_of_false (by simp [firstDescent]) ?_
      rintro ⟨-, -, front, x, y, back, hl, -⟩
      have hlen := congrArg List.length hl
      simp only [List.length_cons, List.length_nil, List.length_append] at hlen
      omega
    | cons b l =>
      rw [firstDescent]
      split
      next h => simp [outOfOrder_first h, eq_comm]
      next h =>
        rw [ih]
        constructor
        · rintro ⟨k, rfl, hk⟩
          exact ⟨k + 1, by omega, (outOfOrder_later (Nat.not_le.mp h) k).mpr hk⟩
        · rintro ⟨k, rfl, hk⟩
          obtain ⟨k, rfl⟩ := Nat.exists_eq_add_one_of_ne_zero (outOfOrder_pos hk).ne'
          exact ⟨k, by omega, (outOfOrder_later (Nat.not_le.mp h) k).mp hk⟩

/-! ### What each check finds -/

section
variable {s : State}

theorem tariffOrder_iff (index : Byte) : s.tariffOrder = some index ↔ Claims.planFinds s .tariffOrder index := by
  unfold State.tariffOrder Claims.planFinds
  dsimp only
  cases ha : firstDescent s.mu.profileA.bands 0 with
  | some k =>
    have hdescent := (firstDescent_some _ 0 k).mp ha
    have hfalls : ¬(s.mu.profileA.bands.map (·.start)).Pairwise (· < ·) := fun h => by simp [(firstDescent_none _ 0).mpr h] at ha
    have honly (k' : Nat) : Claims.outOfOrder s.mu.profileA.bands k' ↔ k' = k := by
      constructor
      · intro h
        have := (firstDescent_some _ 0 k').mpr ⟨k', by simp, h⟩
        simpa [ha, eq_comm] using this
      · rintro rfl
        simpa using hdescent
    simp [hfalls, honly, BandRef.code, eq_comm]
  | none =>
    have hrises := (firstDescent_none _ 0).mp ha
    have hnone (k : Nat) : ¬Claims.outOfOrder s.mu.profileA.bands k := fun h => by
      simp [(firstDescent_some _ 0 k).mpr ⟨k, by simp, h⟩] at ha
    simp [hrises, hnone, firstDescent_some, BandRef.code, eq_comm (a := index)]

theorem batteryOrder_iff (index : Byte) : batteryOrder s.bd.table = some index ↔ Claims.planFinds s .batteryOrder index := by
  unfold batteryOrder Claims.planFinds
  dsimp only
  split
  next h => simp [h, Nat.not_lt.mpr h, eq_comm (a := index)]
  next h =>
    split
    next h' => simp [h, h', Nat.not_le.mp h, eq_comm (a := index)]
    next h' => simp [h, h']

/-- What a check of the model finds is what its row says. -/
theorem checkFinds_iff (c : PlanCheck) (index : Byte) : s.checkFinds c = some index ↔ Claims.planFinds s c index := by
  cases c with
  | duplicateAddress => exact secondOf_lowest .duplicateAddress index
  | secondRole => exact secondOf_lowest .secondRole index
  | sharedIndex => exact secondOf_lowest .sharedIndex index
  | bayNoCharger =>
    refine find?_finRange_lowest (fun b => ?_) index
    rw [Bool.and_eq_true, State.chargerOf, stationFor_isNone]
  | batteryOrder => exact batteryOrder_iff index
  | tariffOrder => exact tariffOrder_iff index
  | stringNoStation =>
    refine find?_finRange_lowest (fun j => ?_) index
    rw [Bool.and_eq_true, State.stringEntry, stationFor_isNone]
    rfl

theorem checkFinds_none (c : PlanCheck) : s.checkFinds c = none ↔ ∀ index, ¬Claims.planFinds s c index := by
  rw [Option.eq_none_iff_forall_ne_some]
  exact forall_congr' fun index => not_congr (checkFinds_iff c index)

end

/-! ### The first check that finds something -/

/-- Of a list of checks the first that finds something is reported. -/
theorem findSome_first (f : PlanCheck → Option Byte) (l : List PlanCheck) (c : PlanCheck) (i : Byte) :
    (l.findSome? fun c => (f c).map fun i => (⟨c, i⟩ : PlanFault)) = some ⟨c, i⟩ ↔
      c ∈ l ∧ f c = some i ∧ ∀ earlier ∈ l.takeWhile (· ≠ c), f earlier = none := by
  induction l with
  | nil => simp
  | cons x l ih =>
    rw [List.findSome?_cons]
    by_cases hx : x = c
    · subst hx
      cases hf : f x with
      | some k => simp
      | none => simp_all
    · cases hf : f x with
      | some k => simp [hx, hf]
      | none => simp [ih, hx, hf, Ne.symm hx]

theorem planFault_iff (s : State) (c : PlanCheck) (i : Byte) : s.planFault = some ⟨c, i⟩ ↔
    Claims.planFinds s c i ∧ ∀ earlier ∈ Claims.planChecks.takeWhile (· ≠ c), ∀ other, ¬Claims.planFinds s earlier other := by
  have hmem : c ∈ planOrder := by cases c <;> simp [planOrder]
  rw [State.planFault, findSome_first, and_iff_right hmem, checkFinds_iff]
  exact and_congr_right fun _ => forall_congr' fun earlier => imp_congr_right fun _ => checkFinds_none earlier

theorem planFault_none (s : State) : s.planFault = none ↔ ∀ c, s.checkFinds c = none := by
  rw [State.planFault, List.findSome?_eq_none_iff]
  refine ⟨fun h c => ?_, fun h c _ => by rw [h c]; rfl⟩
  exact Option.map_eq_none_iff.mp (h c (by cases c <;> simp [planOrder]))

/-! ### Where no check finds anything -/

section
variable {s : State}

theorem not_lowest {n : Nat} {fails : Fin n → Prop} : (∀ index, ¬Claims.lowest fails index) ↔ ∀ i, ¬fails i := by
  constructor
  · intro h i hi
    obtain ⟨k, hk, hleast⟩ := WellFounded.has_min (wellFounded_lt (α := Fin n)) {i | fails i} ⟨i, hi⟩
    exact h _ ⟨k, rfl, hk, fun x hx hf => hleast x hf hx⟩
  · rintro h index ⟨i, -, hi, -⟩
    exact h i hi

theorem pairs_none : (s.checkFinds .duplicateAddress = none ∧ s.checkFinds .secondRole = none ∧ s.checkFinds .sharedIndex = none) ↔
    ∀ i j : Position, i < j → ∀ a b, s.fs.stations[i] = some a → s.fs.stations[j] = some b →
      a.address ≠ b.address ∧ a.role ≠ b.role := by
  have hpaired (a b : Station) : (¬Claims.paired .duplicateAddress a b ∧ ¬Claims.paired .secondRole a b ∧
      ¬Claims.paired .sharedIndex a b) ↔ a.address ≠ b.address ∧ a.role ≠ b.role := by
    cases ha : a.role <;> simp [Claims.paired, ha]
  simp only [checkFinds_none, Claims.planFinds, not_lowest, ← forall_and, ← hpaired]
  unfold Claims.secondAt
  constructor
  · intro h i j hij a b ha hb
    obtain ⟨h1, h2, h3⟩ := h j
    exact ⟨fun hp => h1 ⟨i, hij, a, ha, b, hb, hp⟩, fun hp => h2 ⟨i, hij, a, ha, b, hb, hp⟩,
      fun hp => h3 ⟨i, hij, a, ha, b, hb, hp⟩⟩
  · intro h j
    refine ⟨?_, ?_, ?_⟩ <;> rintro ⟨i, hij, a, ha, b, hb, hp⟩
    · exact (h i j hij a b ha hb).1 hp
    · exact (h i j hij a b ha hb).2.1 hp
    · exact (h i j hij a b ha hb).2.2 hp

theorem not_noStation (role : Role) :
    ¬Claims.noStation s role ↔ ∃ i : Position, ∃ e, s.fs.stations[i] = some e ∧ e.role = role := by
  simp [Claims.noStation]

theorem batteryOrder_none : s.checkFinds .batteryOrder = none ↔
    s.bd.table.reserveEnter < s.bd.table.reserveExit ∧ s.bd.table.fullResume < s.bd.table.fullStop := by
  rw [show s.checkFinds .batteryOrder = batteryOrder s.bd.table from rfl, batteryOrder]
  split
  next h => simp [Nat.not_lt.mpr h]
  next h => simp [Nat.not_le.mp h]

theorem tariffOrder_none : s.checkFinds .tariffOrder = none ↔
    (s.mu.profileA.bands.map (·.start)).Pairwise (· < ·) ∧ (s.mu.profileB.bands.map (·.start)).Pairwise (· < ·) := by
  rw [show s.checkFinds .tariffOrder = s.tariffOrder from rfl, State.tariffOrder, ← firstDescent_none _ 0, ← firstDescent_none _ 0]
  cases firstDescent s.mu.profileA.bands 0 <;> simp

end

/-- Settles O33: each check finds what its row says, and the plan status is the first that finds something. -/
theorem planStatus : Obligations.PlanStatus := by
  unfold Obligations.PlanStatus
  refine ⟨fun s => ?ok, fun s c i => ?first, fun s hfault => ?raised⟩
  case ok =>
    have hbays : s.checkFinds .bayNoCharger = none ↔ ∀ b, (s.bay b).config.enabled = true →
        ∃ i : Position, ∃ e, s.fs.stations[i] = some e ∧ e.role = .charger b := by
      simp only [checkFinds_none, Claims.planFinds, not_lowest, not_and, not_noStation]
    have hstrings : s.checkFinds .stringNoStation = none ↔ ∀ j : StringNo, s.cc.table.strings[j].enabled = true →
        ∃ i : Position, ∃ e, s.fs.stations[i] = some e ∧ e.role = .pvString j := by
      simp only [checkFinds_none, Claims.planFinds, not_lowest, not_and, not_noStation]
    rw [State.planCheck_plan, planFault_none, ← pairs_none, ← hbays, ← hstrings]
    constructor
    · intro h
      obtain ⟨h1, h2⟩ := batteryOrder_none.mp (h .batteryOrder)
      obtain ⟨h3, h4⟩ := tariffOrder_none.mp (h .tariffOrder)
      exact ⟨⟨h _, h _, h _⟩, h _, h1, h2, h3, h4, h _⟩
    · rintro ⟨⟨haddress, hrole, hindex⟩, hbay, h1, h2, h3, h4, hstring⟩ c
      cases c with
      | duplicateAddress => exact haddress
      | secondRole => exact hrole
      | sharedIndex => exact hindex
      | bayNoCharger => exact hbay
      | batteryOrder => exact batteryOrder_none.mpr ⟨h1, h2⟩
      | tariffOrder => exact tariffOrder_none.mpr ⟨h3, h4⟩
      | stringNoStation => exact hstring
  case first =>
    rw [State.planCheck_plan]
    exact planFault_iff s c i
  case raised =>
    rw [State.planCheck_plan] at hfault
    simp [Option.isSome_iff_ne_none.mpr hfault]

end Sys2Proof.Machine
end

section
/-! READ (O24). -/

namespace Sys2Proof.Machine

/-! ### Whole records in the room of an answer (R166, R180) -/

/-- A record behind its length. -/
def prefixed (r : List Byte) : List Byte := BitVec.ofNat 8 r.length :: r

/-- As many records from the front as fit, and the next one would not. -/
theorem packRecords_whole (room : Nat) (records : List (List Byte)) : ∃ n, n ≤ records.length ∧
    packRecords room records = (records.take n).map prefixed ∧ ((records.take n).map prefixed).flatten.length ≤ room ∧
    ∀ r, records[n]? = some r → room < ((records.take n).map prefixed).flatten.length + (r.length + 1) := by
  induction records generalizing room with
  | nil => exact ⟨0, by simp [packRecords]⟩
  | cons x l ih =>
    by_cases hfits : x.length + 1 ≤ room
    · obtain ⟨n, hn, hpacked, hroom, hnext⟩ := ih (room - (x.length + 1))
      refine ⟨n + 1, by simpa using hn, ?_, ?_, fun r hr => ?_⟩
      · rw [packRecords, if_pos hfits, hpacked]
        rfl
      · simp only [List.take_succ_cons, List.map_cons, List.flatten_cons, List.length_append, prefixed, List.length_cons] at hroom ⊢
        omega
      · have hlater := hnext r (by simpa using hr)
        simp only [List.take_succ_cons, List.map_cons, List.flatten_cons, List.length_append, prefixed, List.length_cons] at hlater ⊢
        omega
    · refine ⟨0, Nat.zero_le _, by rw [packRecords, if_neg hfits]; rfl, by simp, fun r hr => ?_⟩
      obtain rfl : x = r := by simpa using hr
      simpa using hfits

/-! ### The records from an index on (R138, R166) -/

theorem recordsFrom_found {number : Nat} {part : Byte} {before later : List Receipt} {r : Receipt} (h : r.number.toNat = number)
    (hbefore : ∀ x ∈ before, x.number.toNat ≠ number) : recordsFrom number part (before ++ r :: later) =
      if part = 1 then some (receiptParts r ++ (later.map receiptParts).flatten)
      else if part = 2 ∧ r.hasBands = true then some (receiptPart2 r :: (later.map receiptParts).flatten) else none := by
  induction before with
  | nil => exact if_pos h
  | cons x l ih =>
    obtain ⟨hx, hl⟩ := List.forall_mem_cons.mp hbefore
    rw [List.cons_append, recordsFrom, if_neg hx, ih hl]

theorem recordsFrom_missing {number : Nat} {part : Byte} {receipts : List Receipt} (h : ∀ x ∈ receipts, x.number.toNat ≠ number) :
    recordsFrom number part receipts = none := by
  induction receipts with
  | nil => rfl
  | cons x l ih =>
    obtain ⟨hx, hl⟩ := List.forall_mem_cons.mp h
    rw [recordsFrom, if_neg hx, ih hl]

theorem readRecords_indexed {s : State} {table : TableName} (h : table ≠ .receipt) (first : Nat) (part : Byte) :
    s.readRecords table first part = if first < (s.tableRecords table).length then some ((s.tableRecords table).drop first)
      else if (table = .pendingLinks ∨ table = .held) ∧ first = 0 then some [] else none := by
  have hempty (rs : List (List Byte)) : (if first < rs.length ∨ (first = 0 ∧ rs = []) then some (rs.drop first) else none) =
      if first < rs.length then some (rs.drop first) else if first = 0 then some [] else none := by
    rcases first with _ | first <;> cases rs <;> simp
  cases table with
  | receipt => exact absurd rfl h
  | pendingLinks => exact (hempty _).trans (by simp)
  | held => exact (hempty _).trans (by simp)
  | _ => simp [State.readRecords]

/-- What the statement lets a READ return is what the model reads. -/
theorem readable_eq {s : State} {table : TableName} {first : Nat} {part : Byte} {records : Option (List (List Byte))}
    (h : Claims.readable s table first part records) : s.readRecords table first part = records := by
  obtain ⟨hreceipt, hindexed⟩ := h
  by_cases htable : table = .receipt
  · subst htable
    obtain ⟨hfound, hmissing⟩ := hreceipt rfl
    rw [show s.readRecords .receipt first part = recordsFrom first part s.rq.receipts from rfl]
    cases hr : s.rq.receipts.find? (fun x => x.number.toNat == first) with
    | none =>
      have hall : ∀ x ∈ s.rq.receipts, x.number.toNat ≠ first := by simpa using hr
      rw [hmissing hall, recordsFrom_missing hall]
    | some r =>
      obtain ⟨hnumber, before, later, hsplit, hbefore⟩ := List.find?_eq_some_iff_append.mp hr
      have hfirst : r.number.toNat = first := by simpa using hnumber
      have hnone : ∀ x ∈ before, x.number.toNat ≠ first := by simpa using hbefore
      rw [hfound before r later hsplit hfirst hnone, hsplit, recordsFrom_found hfirst hnone]
  · rw [hindexed htable, readRecords_indexed htable]

/-! ### The answer (R180) -/

section
variable {s : State} {tag code part : Byte} {first count : Nat}

theorem readByte_at (front back : List Byte) (b : Byte) : readByte (front ++ b :: back) front.length = b := by
  have hbyte : bytesOf 1 b.toNat = [b] := by simp [bytesOf]
  have hread := readU_bytesOf front back (w := 1) (n := b.toNat) b.isLt
  rw [hbyte] at hread
  simp [readByte, show readU (front ++ b :: back) front.length 1 = b.toNat from hread]

/-- The payload of a READ with its fixed fields (10.4). -/
def readPayload (tag code part : Byte) (first count : Nat) : List Byte :=
  [tag, 1, code] ++ bytesOf 4 first ++ [part, BitVec.ofNat 8 count]

theorem readPayload_fields (hfirst : first < 4294967296) (hcount : count < 256) :
    readByte (readPayload tag code part first count) 2 = code ∧ readU (readPayload tag code part first count) 3 4 = first ∧
      readByte (readPayload tag code part first count) 7 = part ∧ readU (readPayload tag code part first count) 8 1 = count := by
  have hbyte : bytesOf 1 count = [BitVec.ofNat 8 count] := by simp [bytesOf]
  refine ⟨?_, ?_, ?_, ?_⟩
  · exact readByte_at [tag, 1] (bytesOf 4 first ++ [part, BitVec.ofNat 8 count]) code
  · exact readU_bytesOf [tag, 1, code] [part, BitVec.ofNat 8 count] hfirst
  · exact readByte_at ([tag, 1, code] ++ bytesOf 4 first) [BitVec.ofNat 8 count] part
  · have hread := readU_bytesOf ([tag, 1, code] ++ bytesOf 4 first ++ [part]) [] (w := 1) hcount
    rw [hbyte, List.append_nil, List.append_assoc] at hread
    exact hread

/-- The answer to a READ with its fixed fields. -/
theorem readAnswer_eq (hfirst : first < 4294967296) (hcount : count < 256) :
    s.readAnswer (readPayload tag code part first count) =
      match tableOf code with
      | none => [tag, 1, 3, code, 0]
      | some table =>
        match s.readRecords table first part with
        | none => [tag, 1, 4, code, 0]
        | some records => [tag, 1, 0, code, BitVec.ofNat 8 (packRecords 91 (records.take count)).length] ++
            (packRecords 91 (records.take count)).flatten := by
  obtain ⟨hcode, hindex, hpart, hwanted⟩ := readPayload_fields (tag := tag) (code := code) (part := part) hfirst hcount
  have hlength : ¬(readPayload tag code part first count).length < 2 + readFields := by simp [readPayload, readFields]
  have hhead (status : Status) : answerHead (readPayload tag code part first count) status = [tag, 1, status.code] := rfl
  have hdrop : (readPayload tag code part first count).drop 2 = code :: (bytesOf 4 first ++ [part, BitVec.ofNat 8 count]) := rfl
  unfold State.readAnswer readRefusal
  rw [if_neg hlength, hcode, hindex, hpart, hwanted, hdrop]
  cases tableOf code with
  | none => rfl
  | some table => cases s.readRecords table first part <;> rfl

end

theorem readAnswer_short {s : State} {tag : Byte} {fields : List Byte} : fields.length < 7 →
    s.readAnswer ([tag, 1] ++ fields) = [tag, 1, 5] ++ (match fields with | [] => [] | code :: _ => [code, 0]) := by
  intro h
  have hlength : ([tag, 1] ++ fields).length < 2 + readFields := by
    simp only [List.length_append, List.length_cons, List.length_nil, readFields]
    omega
  unfold State.readAnswer readRefusal
  rw [if_pos hlength]
  cases fields <;> rfl

/-- The command that serves a READ answers it and does nothing else. -/
theorem exec_read {s : State} {r : Request} {rest : List Request} {payload : List Byte} (h : s.heads r rest)
    (hrow : serviceOf r.payload = .read) (hpayload : s.readAnswer r.payload = payload) :
    ∃ t, exec .read s = .next t ∧ t.mr.requests = rest ∧ s.appends t .up (s.answerTo ⟨r.source, []⟩ payload) ∧
      s.changesOnly t answeredParts :=
  exec_unaffected (c := .read) (work := fun r t => t.answer r.source (t.readAnswer r.payload)) rfl h hrow (by rw [hpayload])

/-- Settles O24: the answer is the model's reading of the table, packed into the room of the frame. -/
theorem readIsAnswered : Obligations.ReadIsAnswered := by
  unfold Obligations.ReadIsAnswered
  refine ⟨fun s source tag code part first count rest h hfirst hcount => ?_, fun s source tag fields rest h hshort =>
    exec_read h rfl (readAnswer_short hshort)⟩
  have hanswer := readAnswer_eq (s := s) (tag := tag) (code := code) (part := part) hfirst hcount
  refine ⟨fun hcode => ?table, fun table records hcode hreadable => ⟨fun hnone => ?index, fun found hfound => ?found⟩⟩
  case table =>
    rw [hcode] at hanswer
    exact exec_read h rfl hanswer
  case index =>
    simp only [hcode, readable_eq hreadable, hnone] at hanswer
    exact exec_read h rfl hanswer
  case found =>
    simp only [hcode, readable_eq hreadable, hfound] at hanswer
    obtain ⟨n, hn, hpacked, hroom, hnext⟩ := packRecords_whole 91 (found.take count)
    have hlength : ((found.take count).take n).length = n := by rw [List.length_take, min_eq_left hn]
    rw [hpacked, List.length_map, hlength] at hanswer
    obtain ⟨t, hexec, hrequests, happends, hframe⟩ := exec_read h rfl hanswer
    have hcounted : n ≤ count := hn.trans (by rw [List.length_take]; exact min_le_left _ _)
    exact ⟨t, n, hexec, hrequests, hcounted, ⟨hn, hroom, hnext, happends⟩, hframe⟩

end Sys2Proof.Machine
end

section
/-! DEMANDs that open a session, keep one, or come from a HELD bay (O8, O9, O12). -/

namespace Sys2Proof.Machine

/-! ### The event of a DEMAND -/

@[simp] theorem State.forward_bay (s : State) (p : Port) (f : Frame) (b : BayNo) : (s.forward p f).bay b = s.bay b := by
  simp [State.bay]

/-- The figures of a bay are replaced (R4). -/
def State.figured (s : State) (b : BayNo) (g : Figures) : State := s.modSession b fun x => { x with figures := some g }

section
variable {s : State} {f : Frame} {b : BayNo} {g : Figures}

/-- A DEMAND by the state of its bay. -/
theorem demand_eq : s.demand b g = match (s.bay b).session.state with
    | .vacant => if g.plugged then (s.figured b g).openSession b g else s.figured b g
    | .disabled => s.figured b g
    | .connected | .active | .silent => (s.figured b g).demandRunning b g
    | .closing => (s.figured b g).demandClosing b g
    | .held => (s.figured b g).demandHeld b g := by
  have hstate : ((s.figured b g).bay b).session.state = (s.bay b).session.state := by simp [State.figured]
  rw [← hstate]
  rfl

theorem figured_session : ((s.figured b g).bay b).session = { (s.bay b).session with figures := some g } := by
  simp [State.figured]

theorem figured_frame : s.changesOnly (s.figured b g) {.session b} := s.modSession_frame b _

/-- The state that a DEMAND is handled in. -/
def State.heard (s : State) (b : BayNo) (g : Figures) : State := (s.countReceived .down).demand b g

theorem demandFrame_eq (h : Claims.demandOf s f b g) :
    State.demandFrame f (s.countReceived .down) = (s.heard b g).forward .up f := by
  obtain ⟨-, -, -, -, ⟨pos, e, hstation, hrole⟩, hread⟩ := h
  have hnow : (s.countReceived .down).now = s.now := by simp [State.now]
  simp only [State.demandFrame, State.countReceived_stationOf, hstation, hrole, hnow, hread]
  rfl

theorem demandOf_row (h : Claims.demandOf s f b g) : s.frameRow .down f = .demandFrame := by
  obtain ⟨-, hsrc, hdest, hkind, ⟨pos, e, hstation, hrole⟩, -⟩ := h
  rw [frameRow_tap hsrc hdest hstation, hkind, hrole]
  rfl

/-- A DEMAND is one event: the tap, then the frame goes up. -/
theorem exec_demand (h : Claims.demandOf s f b g) :
    exec (.demandFrame (received f)) s = .next (inEvent (fun _ => (s.heard b g).forward .up f) s) := by
  have hwork := (receive_taken (work := State.demandFrame) h.1 (demandOf_row h)).trans (demandFrame_eq h)
  rw [exec_powered (c := .demandFrame (received f)) rfl h.1.1, inEvent, hwork, inEvent]

theorem unmasked_of_same {s t : State} (hevents : s.same t .events) (hmask : s.same t .mask) : t.unmasked = s.unmasked := by
  simp only [State.same] at hevents hmask
  rw [State.unmasked, State.unmasked, hevents, hmask]

/-- A DEMAND whose tap raises nothing. -/
theorem exec_demand_quiet {parts : Set Part} (h : Claims.demandOf s f b g)
    (hframe : (s.countReceived .down).changesOnly (s.heard b g) parts) (hevents : Part.events ∉ parts) (hmask : Part.mask ∉ parts) :
    exec (.demandFrame (received f)) s = .next ((s.heard b g).forward .up f) := by
  have hheard : (s.heard b g).unmasked = (s.countReceived .down).unmasked := unmasked_of_same (hframe _ hevents) (hframe _ hmask)
  have hforward : ((s.heard b g).forward .up f).unmasked = (s.heard b g).unmasked :=
    unmasked_of_same (State.forward_frame _ .up f .events (by simp)) (State.forward_frame _ .up f .mask (by simp))
  have hreceived : (s.countReceived .down).unmasked = s.unmasked := by simp [State.unmasked]
  have hquiet := (hforward.trans hheard).trans hreceived
  rw [exec_demand h]
  exact congrArg _ (inEvent_of_unmasked (work := fun _ => (s.heard b g).forward .up f) hquiet)

theorem heard_appends {parts : Set Part} (hframe : (s.countReceived .down).changesOnly (s.heard b g) parts)
    (hq : Part.queue .up ∉ parts) (hd : Part.drops .up ∉ parts) :
    s.appends ((s.heard b g).forward .up f) .up ⟨f, .forwarded⟩ :=
  State.appends_of_received (State.appends_of_same (hframe _ hq) (hframe _ hd) (State.forward_appends _ .up f))

theorem heard_frame {parts : Set Part} (hframe : (s.countReceived .down).changesOnly (s.heard b g) parts) :
    s.changesOnly ((s.heard b g).forward .up f) ({.counters .down} ∪ parts ∪ {.queue .up, .drops .up}) :=
  State.changesOnly_trans (State.changesOnly_trans (s.countReceived_frame .down) hframe) (State.forward_frame _ .up f)

/-! ### A session opens (O8) -/

theorem heard_opens (hvacant : (s.bay b).session.state = .vacant) (hplugged : g.plugged = true) :
    s.heard b g = ((s.countReceived .down).figured b g).openSession b g := by
  rw [State.heard, demand_eq, State.countReceived_bay, hvacant, hplugged]
  rfl

theorem plugged_iff : g.plugged = true ↔ g.state = .connected ∨ g.state = .requesting := by
  simp [Figures.plugged]

theorem plugged_eq : g.plugged = decide (g.state = .connected ∨ g.state = .requesting) := by
  rw [Bool.eq_iff_iff, plugged_iff, decide_eq_true_iff]

theorem openSession_metering (s : State) (b : BayNo) (g : Figures) :
    ((s.openSession b g).bay b).metering = ⟨0, 0, 0, 0, 0, [⟨s.bandRef, 0, 0⟩], false, 0, 0, 0⟩ :=
  congrArg Bay.metering (State.setBay_bay s b _)

end

/-- Settles O8: the tap opens the session on the figures, and the frame goes up. -/
theorem demandOpensSession : Obligations.DemandOpensSession := by
  unfold Obligations.DemandOpensSession
  intro s f b g h hvacant hplugged
  have hheard := heard_opens hvacant (plugged_iff.mpr hplugged)
  have hframe : (s.countReceived .down).changesOnly (s.heard b g) {.session b, .metering b, .links} := by
    rw [hheard]
    exact State.changesOnly_seq figured_frame (State.openSession_frame _ b g) (by simp) (by simp)
  refine ⟨_, exec_demand_quiet h hframe (by simp) (by simp), ?session, ?metering, ?links,
    heard_appends hframe (by simp) (by simp), State.changesOnly_mono (heard_frame hframe) (by simp [Set.subset_def])⟩
  all_goals rw [hheard]
  case session =>
    rw [State.forward_bay, State.openSession_session]
    simp only [State.opened, figured_session, State.countReceived_bay]
    simp [State.figured, State.siteTime, State.now, State.newTimer, Figures.openState, enterLink, beq_eq_decide]
  case metering =>
    rw [State.forward_bay, openSession_metering]
    simp [State.figured, State.bandRef, State.profile]
  case links =>
    rw [State.forward_links, State.openSession_links]
    simp [State.figured, bne, beq_eq_decide]

/-! ### A session is kept (O9) -/

section
variable {s : State} {b : BayNo} {g : Figures}

theorem demand_moves {k : Session → Session} (h : s.demand b g = (s.figured b g).modSession b k) :
    s.changesOnly (s.demand b g) {.session b} ∧
      ((s.demand b g).bay b).session = k { (s.bay b).session with figures := some g } := by
  rw [h, State.modSession_session, figured_session]
  exact ⟨State.changesOnly_seq figured_frame (State.modSession_frame _ b k) (by simp) (by simp), rfl⟩

theorem demand_figures (h : s.demand b g = s.figured b g) :
    s.changesOnly (s.demand b g) {.session b} ∧ ((s.demand b g).bay b).session = { (s.bay b).session with figures := some g } := by
  rw [h]
  exact ⟨figured_frame, figured_session⟩

/-- The rows of R4, R5, R7, R8 and R9 that keep a session, or keep a bay without one. -/
theorem sessionAfterDemand_moves {y : Session} (h : Claims.sessionAfterDemand s.mu.uptime (s.bay b).session g y) :
    s.changesOnly (s.demand b g) {.session b} ∧ ((s.demand b g).bay b).session = y := by
  have hrunning (hstate : (s.bay b).session.state = .connected ∨ (s.bay b).session.state = .active ∨
      (s.bay b).session.state = .silent) : s.demand b g = (s.figured b g).demandRunning b g := by
    rcases hstate with hstate | hstate | hstate <;> rw [demand_eq, hstate]
  have hclosing (hstate : (s.bay b).session.state = .closing) : s.demand b g = (s.figured b g).demandClosing b g := by
    rw [demand_eq, hstate]
  rcases h with ⟨hstate, hplugged, rfl⟩ | ⟨hstate, hending, rfl⟩ | ⟨hstate, hkeeps, rfl⟩ | ⟨hstate, hplugged, rfl⟩ | ⟨hstate, rfl⟩
  · refine demand_moves (k := fun x => { x with state := g.openState, timer := some (s.figured b g).newTimer }) ?_
    rw [hrunning hstate, State.demandRunning]
    rcases hplugged with hplugged | hplugged <;> rw [hplugged]
  · refine demand_moves
      (k := fun x => { x with state := .closing, endReason := some .unplugged, timer := some (s.figured b g).newTimer }) ?_
    rw [hrunning hstate, State.demandRunning, hending]
    rfl
  · refine demand_figures ?_
    rw [hclosing hstate, State.demandClosing]
    rcases hkeeps with (hkeeps | hkeeps) | hkeeps <;> rw [hkeeps]
  · refine demand_figures ?_
    rw [demand_eq, hstate]
    exact if_neg (mt plugged_iff.mp hplugged)
  · exact demand_figures (by rw [demand_eq, hstate])

end

/-- Settles O9: the tap moves the session part of its bay, and the frame goes up. -/
theorem demandKeepsSession : Obligations.DemandKeepsSession := by
  unfold Obligations.DemandKeepsSession
  intro s f b g y h hafter
  have hsession : ((s.countReceived .down).bay b).session = (s.bay b).session := by rw [State.countReceived_bay]
  rw [← hsession] at hafter
  obtain ⟨hframe, hy⟩ := sessionAfterDemand_moves (s := s.countReceived .down) (by simpa using hafter)
  exact ⟨_, exec_demand_quiet h hframe (by simp) (by simp), (congrArg Bay.session (State.forward_bay _ .up f b)).trans hy,
    heard_appends hframe (by simp) (by simp), State.changesOnly_mono (heard_frame hframe) (by simp [Set.subset_def])⟩

/-! ### A DEMAND at a HELD bay (O12) -/

section
variable {s : State} {f : Frame} {b : BayNo} {g : Figures}

/-- The blocked-plug flag of a HELD bay by its figures. -/
def State.flagged (s : State) (b : BayNo) (g : Figures) : State :=
  (s.figured b g).modSession b fun x => { x with blocked := g.plugged }

theorem demand_held (hheld : (s.bay b).session.state = .held) : s.demand b g =
    if g.plugged && !(s.bay b).session.blocked then (s.flagged b g).blockedGrant b else s.flagged b g := by
  have hwas : ((s.figured b g).bay b).session.blocked = (s.bay b).session.blocked := by rw [figured_session]
  rw [demand_eq, hheld, ← hwas]
  rfl

theorem flagged_frame : s.changesOnly (s.flagged b g) {.session b} :=
  State.changesOnly_seq figured_frame (State.modSession_frame _ b _) (by simp) (by simp)

theorem flagged_session : ((s.flagged b g).bay b).session =
    { (s.bay b).session with figures := some g, blocked := g.plugged } := by
  rw [State.flagged, State.modSession_session, figured_session]

/-- A frame that is offered to a queue with room, or to one with a frame that it replaces, stands in it. -/
theorem offer_stands {p : Port} {q : Queued} (h : (s.port p).queue.length < queueSize ∨ ∃ x ∈ (s.port p).queue, replaces q x = true) :
    q ∈ ((s.offer p q).1.port p).queue := by
  have htaken : ∃ queue, enqueue (s.port p).queue q = some queue ∧ q ∈ queue := by
    rcases enqueue_cases (s.port p).queue q with ⟨front, old, back, -, -, -, he⟩ | ⟨hnone, ⟨-, he⟩ | ⟨hfull, -⟩⟩
    · exact ⟨_, he, by simp⟩
    · exact ⟨_, he, by simp⟩
    · rcases h with hroom | ⟨x, hx, hreplaced⟩
      · exact absurd hroom (Nat.not_lt.mpr hfull)
      · simp [hnone x hx] at hreplaced
  obtain ⟨queue, he, hq⟩ := htaken
  rcases s.offer_cases p q with ⟨queue', he', hoffer⟩ | ⟨hnone, -⟩
  · obtain rfl := Option.some.inj (he.symm.trans he')
    rw [hoffer]
    simpa using hq
  · rw [he] at hnone
    cases hnone

/-- The GRANT of 0 with outcome NONE to the charger of a bay (R18). -/
theorem blockedGrant_stands {pos : Position} {e : Station} (hcharger : s.chargerOf b = some (pos, e))
    (hroom : s.li.down.queue.length < queueSize ∨ ∃ q ∈ s.li.down.queue, q.origin = .grant b) :
    ∃ q ∈ (s.blockedGrant b).li.down.queue, q.origin = .grant b ∧
      q.frame.dest = e.address ∧ q.frame.source = s.own ∧ q.frame.kind = kindGrant ∧
      q.frame.payload.take 4 = [BitVec.ofNat 8 b.val, 0, 0, 0] := by
  refine ⟨⟨s.ownFrame e.address kindGrant (s.grantPayload b 0 .none), .grant b⟩, ?_, rfl, rfl, rfl, rfl, ?_⟩
  · rw [State.blockedGrant, hcharger]
    refine offer_stands (p := .down) (hroom.imp_right ?_)
    rintro ⟨x, hx, horigin⟩
    exact ⟨x, hx, by simp [replaces, horigin]⟩
  · simp [State.ownFrame, State.grantPayload, fieldI, bytesOf, GrantOutcome.code]

theorem demandOf_charger (h : Claims.demandOf s f b g) : ∃ pos e, s.chargerOf b = some (pos, e) := by
  obtain ⟨-, -, -, -, ⟨pos, e, hstation, hrole⟩, -⟩ := h
  cases hcharger : s.chargerOf b with
  | some x => exact ⟨x.1, x.2, rfl⟩
  | none =>
    have hnone := (stationFor_isNone (.charger b)).mp (Option.isNone_iff_eq_none.mpr hcharger)
    exact absurd hrole (hnone pos e (State.stationOf_some hstation))

end

/-- Settles O12: the figures set the flag, and its setting offers the GRANT. -/
theorem demandAtHeldBay : Obligations.DemandAtHeldBay := by
  unfold Obligations.DemandAtHeldBay
  intro s f b g h hheld
  have hheard := demand_held (s := s.countReceived .down) (g := g) (b := b) (by rw [State.countReceived_bay]; exact hheld)
  rw [State.countReceived_bay] at hheard
  have hflagged := flagged_frame (s := s.countReceived .down) (b := b) (g := g)
  have hframe : (s.countReceived .down).changesOnly (s.heard b g) {.session b, .queue .down, .drops .down} := by
    rw [State.heard, hheard]
    exact State.changesOnly_ite _ (State.changesOnly_seq hflagged (State.blockedGrant_frame _ b) (by simp) (by simp))
      (State.changesOnly_mono hflagged (by simp))
  have hsession : ((s.heard b g).bay b).session = { (s.bay b).session with figures := some g, blocked := g.plugged } := by
    have hkept : ((s.flagged b g).bay b).session = { (s.bay b).session with figures := some g, blocked := g.plugged } :=
      flagged_session
    rw [State.heard, hheard]
    split
    · rw [State.blockedGrant_bay, flagged_session, State.countReceived_bay]
    · rw [flagged_session, State.countReceived_bay]
  have hforward := (s.heard b g).forward_frame .up f
  refine ⟨_, exec_demand_quiet h hframe (by simp) (by simp), ?session, heard_appends hframe (by simp) (by simp), ?quiet, ?grant,
    State.changesOnly_mono (heard_frame hframe) (by simp [Set.subset_def])⟩
  all_goals rw [State.forward_bay, hsession]
  case session =>
    rw [plugged_eq]
  case quiet =>
    intro hquiet
    have hflag : (g.plugged && !(s.bay b).session.blocked) = false := by
      rcases hquiet with hquiet | hquiet
      · simp [hquiet]
      · simp [show g.plugged = false from hquiet]
    have hsame : s.heard b g = (s.countReceived .down).flagged b g := by
      rw [State.heard, hheard, hflag, if_neg (by simp)]
    have hkept : (s.countReceived .down).changesOnly ((s.heard b g).forward .up f) {.session b, .queue .up, .drops .up} :=
      State.changesOnly_mono (State.changesOnly_trans (hsame ▸ hflagged) hforward) (by simp [Set.subset_def])
    have hreceived := State.changesOnly_trans (s.countReceived_frame .down) hkept
    exact ⟨hreceived (.queue .down) (by simp), hreceived (.drops .down) (by simp)⟩
  case grant =>
    intro hclear hset hroom
    obtain ⟨pos, e, hcharger⟩ := demandOf_charger h
    have hsame : s.heard b g = ((s.countReceived .down).flagged b g).blockedGrant b := by
      rw [State.heard, hheard, hclear, show g.plugged = true from hset]
      rfl
    have hstations : ((s.countReceived .down).flagged b g).chargerOf b = some (pos, e) := by
      rw [← hcharger]
      simp [State.chargerOf, State.stationFor, State.findStation, State.flagged, State.figured]
    have hqueue : ((s.countReceived .down).flagged b g).li.down.queue = s.li.down.queue :=
      State.changesOnly_trans (s.countReceived_frame .down) hflagged (.queue .down) (by simp)
    have hown : ((s.countReceived .down).flagged b g).own = s.own := by simp [State.own, State.flagged, State.figured]
    obtain ⟨q, hq, horigin, hdest, hsource, hkind, hpayload⟩ := blockedGrant_stands hstations (.inl (by rw [hqueue]; exact hroom))
    refine ⟨q, ?_, horigin, by rw [hcharger, hdest]; rfl, hsource.trans hown, hkind, hpayload⟩
    have hdown : ((s.heard b g).forward .up f).li.down.queue = (s.heard b g).li.down.queue := hforward (.queue .down) (by simp)
    rw [hdown, hsame]
    exact hq

end Sys2Proof.Machine
end

section
/-! A receipt is built (O10, O40, O47): its figures, its frames in the Up queue, and the high condition. -/

namespace Sys2Proof.Machine

/-! ### The figures of a receipt (R130 to R136) -/

theorem whOf_eq (j : Nat) : whOf j = (j + 1800) / 3600 := by
  unfold whOf roundHalfUp
  omega

theorem receiptBand_eq (e : BandEntry) : receiptBand e = ⟨e.band, (e.joules + 1800) / 3600, (e.cost + 18000000) / 36000000⟩ := by
  have hamount : roundHalfUp e.cost 36000000 = (e.cost + 18000000) / 36000000 := by
    unfold roundHalfUp
    omega
  rw [receiptBand, whOf_eq, hamount]

/-- The bits of a mask that is put together bit by bit (R136). -/
theorem mask_bits : ∀ a b c d e f : Bool, (List.range 6).map
    ((if a then 1 else 0) ||| (if b then 2 else 0) ||| (if c then 4 else 0) ||| (if d then 8 else 0) |||
      (if e then 16 else 0) ||| (if f then 32 else 0) : BitVec 6).getLsbD = [a, b, c, d, e, f] := by
  decide

theorem receiptMask_bits (site : SiteTable) (token register : Bool) : (List.range 6).map (receiptMask site token register).getLsbD =
    [token, site.maskChargerWh && register, site.maskPeak, site.maskWait, site.maskShed, site.maskBands] :=
  mask_bits _ _ _ _ _ _

theorem receiptMask_bands (site : SiteTable) (token register : Bool) :
    (receiptMask site token register).getLsbD 5 = site.maskBands := by
  have hbits := receiptMask_bits site token register
  simp only [List.range_succ, List.range_zero, List.nil_append, List.cons_append, List.map_cons, List.map_nil, List.cons.injEq] at hbits
  obtain ⟨-, -, -, -, -, hbands, -⟩ := hbits
  exact hbands

/-- The receipt that the RQ builds of a bay is the one of its session and metering parts. -/
theorem receiptOf_formed {s u : State} {b : BayNo} {x : Session} (hsession : (u.bay b).session = x)
    (hmetering : (u.bay b).metering = (s.bay b).metering) (hnext : u.rq.next = s.rq.next) (hsite : u.mr.site = s.mr.site) :
    Claims.receiptOf s b x (u.receiptOf b) := by
  subst hsession
  unfold State.receiptOf formReceipt Claims.receiptOf
  simp only [hmetering, hnext, hsite, whOf_eq, receiptMask_bits, funext receiptBand_eq, true_and, and_true]
  refine ⟨⟨fun reason h => by rw [h]; rfl, fun start stop hstart hstop => by rw [hstart, hstop]; rfl⟩, fun hnone => ?_,
    fun start final hstart hfinal => ?_⟩
  · simp [hnone, registersDiffer]
  · simp [hstart, hfinal, registersDiffer]

/-! ### Its frames in the Up queue (R137, R157) -/

theorem receiptFrames_eq {s u : State} {b : BayNo} (hsite : u.mr.site = s.mr.site) :
    u.receiptFrames (u.receiptOf b) = Claims.receiptFrames s (u.receiptOf b) := by
  have hbands : (u.receiptOf b).hasBands = s.mr.site.maskBands := by
    rw [← hsite]
    exact receiptMask_bands _ _ _
  unfold State.receiptFrames Claims.receiptFrames receiptParts State.ownFrame State.own
  rw [hbands, hsite]

/-- What an event leaves of the Up queue where it offers a receipt's frames, and then a last frame. -/
structure Offered (s : State) (frames : List Queued) (last : Option Queued) (w : State) : Prop where
  queue : w.li.up.queue = Claims.withFrames s.li.up.queue frames last
  drop : s.li.up.counters.drop + (s.li.up.queue.length + frames.length + last.toList.length -
    (Claims.withFrames s.li.up.queue frames last).length) ≤ w.li.up.counters.drop ∨ 65535 ≤ w.li.up.counters.drop

section
variable {s u v w : State} {frames : List Queued} {q : Queued} {n : Receipt} {last : Option Queued}

/-- The frames of a receipt are offered all or none. -/
theorem Offered.of_frames (hbefore : u.li.up = s.li.up) (hafter : v.li.up = (u.offerAll .up frames).li.up) :
    Offered s frames none v := by
  by_cases hfits : s.li.up.queue.length + frames.length ≤ queueSize
  · have hoffer : u.offerAll .up frames = u.setQueue .up (u.li.up.queue ++ frames) := by
      refine if_pos ?_
      rw [show (u.port .up).queue = s.li.up.queue from congrArg PortState.queue hbefore]
      exact hfits
    rw [hoffer, State.setQueue] at hafter
    constructor
    · rw [hafter, Claims.withFrames, if_pos hfits, ← hbefore]
      rfl
    · refine .inl ?_
      rw [hafter, Claims.withFrames, if_pos hfits, ← hbefore]
      simp [State.setPort, State.port]
  · have hoffer : u.offerAll .up frames = u.countDrops .up frames.length := by
      refine if_neg ?_
      rw [show (u.port .up).queue = s.li.up.queue from congrArg PortState.queue hbefore]
      exact hfits
    have hdrop : v.li.up.counters.drop = bumpBy frames.length u.li.up.counters.drop := by rw [hafter, hoffer]; rfl
    constructor
    · rw [hafter, hoffer, Claims.withFrames, if_neg hfits, ← hbefore]
      rfl
    · rw [hdrop, Claims.withFrames, if_neg hfits, hbefore]
      simp only [Option.toList_none, List.length_nil, Nat.add_zero, Nat.add_sub_cancel_left, bumpBy]
      omega

/-- A last frame is offered behind them. -/
theorem Offered.behind (h : Offered s frames none v) (happends : v.appends w .up q) : Offered s frames (some q) w := by
  obtain ⟨hqueue, hdrop⟩ := h
  have hlength : v.li.up.queue.length ≤ s.li.up.queue.length + frames.length := by
    rw [hqueue, Claims.withFrames]
    split
    · simp
    · simp
  have hbase : Claims.withFrames s.li.up.queue frames (some q) =
      if v.li.up.queue.length < queueSize then v.li.up.queue ++ [q] else v.li.up.queue := by
    rw [hqueue]
    rfl
  rw [← hqueue] at hdrop
  simp only [Option.toList_none, List.length_nil, Nat.add_zero] at hdrop
  change (if v.li.up.queue.length < queueSize then w.li.up.queue = v.li.up.queue ++ [q] ∧
    w.li.up.counters.drop = v.li.up.counters.drop else w.li.up.queue = v.li.up.queue ∧
    w.li.up.counters.drop = bump v.li.up.counters.drop) at happends
  split at happends
  next hroom =>
    rw [if_pos hroom] at hbase
    refine ⟨happends.1.trans hbase.symm, ?_⟩
    rw [hbase, happends.2]
    simp only [Option.toList_some, List.length_singleton, List.length_append]
    omega
  next hfull =>
    rw [if_neg hfull] at hbase
    refine ⟨happends.1.trans hbase.symm, ?_⟩
    rw [hbase, happends.2]
    simp only [Option.toList_some, List.length_singleton, bump]
    omega

/-- The event of the receipt may send a STATUS frame behind them. -/
theorem Offered.queued {work : State → State} {x : State} (h : Offered s (Claims.receiptFrames s n) last (work x)) :
    Claims.receiptQueued s (inEvent work x) n last := by
  obtain ⟨hqueue, hdrop⟩ := h
  obtain ⟨more, hmore, hstatus⟩ := inEvent_up_queue work x
  have hkept := inEvent_up_drop work x
  unfold Claims.receiptQueued
  dsimp only
  rw [hmore, hqueue, List.take_left, List.drop_left]
  exact ⟨rfl, hstatus, by omega⟩

end

/-! ### The high condition (R141) -/

theorem evalHigh_raised {s : State} : s.evalHigh.isPending .receiptHigh =
    (s.isPending .receiptHigh || (s.evalHigh.rq.high && !s.rq.high)) := by
  rw [State.evalHigh_rq, State.evalHigh, State.raiseIf_isPending]
  simp
  rfl

/-! ### A session part ends with its receipt (R14) -/

section
variable {s : State} {b : BayNo} {reason : EndReason} {final : Option Register}

/-- What the finalisation of a session leaves while the receipt queue has room. -/
theorem finalise_built (hroom : s.rq.receipts.length < receiptSlots) :
    ∃ n, (s.finalise b reason final).rq.receipts = s.rq.receipts ++ [n] ∧ (s.finalise b reason final).rq.next = s.rq.next + 1 ∧
      (s.finalise b reason final).rq.high = decide (s.mr.site.highWater ≤ s.rq.receipts.length + 1) ∧
      Claims.receiptOf s b ((s.bay b).session.ended s reason final) n ∧
      Offered s (Claims.receiptFrames s n) none (s.finalise b reason final) ∧ Claims.highRaised s (s.finalise b reason final) ∧
      ((s.finalise b reason final).bay b).session = { (s.bay b).session.ended s reason final with state := (s.bay b).restState } ∧
      s.changesOnly (s.finalise b reason final) {.session b, .receipts, .events, .queue .up, .drops .up} := by
  have hfinal := s.finalise_room b reason final hroom
  have hsession := s.finalise_session_room b reason final hroom
  obtain ⟨hreceipts, hnext⟩ := s.finalise_rq_room b reason final hroom
  have hended : s.changesOnly (s.endSession b reason final) {.session b} := s.modSession_frame b _
  have hsite : (s.endSession b reason final).mr.site = s.mr.site := hended .site (by simp)
  have hbuilt : ((s.endSession b reason final).buildReceipt b).rq = { s.rq with
      receipts := s.rq.receipts ++ [(s.endSession b reason final).receiptOf b], next := s.rq.next + 1 } :=
    (State.buildReceipt_rq _ b).trans (by rw [show (s.endSession b reason final).rq = s.rq from hended .receipts (by simp)])
  have hhigh : (s.finalise b reason final).rq.high = decide (s.mr.site.highWater ≤ s.rq.receipts.length + 1) := by
    rw [hfinal, State.modSession_rq, State.evalHigh_rq, hbuilt]
    simp [hsite]
  refine ⟨(s.endSession b reason final).receiptOf b, hreceipts, hnext, hhigh, ?formed, ?offered, ?raised, hsession, ?frame⟩
  case formed =>
    exact receiptOf_formed (s.endSession_session b reason final) (hended (.metering b) (by simp))
      (congrArg ReceiptState.next (hended .receipts (by simp))) hsite
  case offered =>
    rw [← receiptFrames_eq hsite, hfinal]
    refine Offered.of_frames (u := { s.endSession b reason final with
      rq.receipts := (s.endSession b reason final).rq.receipts ++ [(s.endSession b reason final).receiptOf b]
      rq.next := (s.endSession b reason final).rq.next + 1 }) ?_ ?_
    · simp [State.endSession]
    · rw [State.modSession_li, State.evalHigh_li]
      rfl
  case raised =>
    unfold Claims.highRaised
    have hpending (t : State) (g : Session → Session) : (t.modSession b g).isPending .receiptHigh = t.isPending .receiptHigh :=
      State.isPending_of_events (by simp) _
    have hevents : ((s.endSession b reason final).buildReceipt b).isPending .receiptHigh = s.isPending .receiptHigh :=
      State.isPending_of_events (by simp [State.endSession]) _
    rw [hfinal, hpending, State.modSession_rq, evalHigh_raised, hevents, hbuilt]
  case frame => exact State.finalise_frame_room hroom b reason final

end

/-! ### From which states a receipt can be seen -/

section
variable {s u t : State} {b : BayNo} {x : Session} {n : Receipt} {frames : List Queued} {last : Option Queued}

theorem receiptOf_of_same (h : Claims.receiptOf u b x n) (hmetering : (u.bay b).metering = (s.bay b).metering)
    (hrq : u.rq = s.rq) (hsite : u.mr.site = s.mr.site) : Claims.receiptOf s b x n := by
  unfold Claims.receiptOf at h ⊢
  rw [hmetering, hrq, hsite] at h
  exact h

theorem Offered.of_same (h : Offered u frames last t) (hqueue : u.li.up.queue = s.li.up.queue)
    (hdrop : u.li.up.counters.drop = s.li.up.counters.drop) : Offered s frames last t := by
  obtain ⟨hq, hd⟩ := h
  rw [hqueue] at hq hd
  rw [hdrop] at hd
  exact ⟨hq, hd⟩

theorem framesOf_same (hsite : u.mr.site = s.mr.site) (n : Receipt) : Claims.receiptFrames u n = Claims.receiptFrames s n := by
  unfold Claims.receiptFrames State.own
  rw [hsite]

theorem highRaised_of_same {v : State} (h : Claims.highRaised u v) (hpending : u.isPending .receiptHigh = s.isPending .receiptHigh)
    (hrq : u.rq = s.rq) (hpending' : t.isPending .receiptHigh = v.isPending .receiptHigh) (hrq' : t.rq = v.rq) :
    Claims.highRaised s t := by
  unfold Claims.highRaised at h ⊢
  rw [hpending', hrq', h, hpending, hrq]

end

end Sys2Proof.Machine
end

section
/-! Sessions that end: by a DEMAND (O10, O11) and by their timers (O47). -/

namespace Sys2Proof.Machine

section
variable {s : State} {f : Frame} {b : BayNo} {g : Figures} {reason : EndReason}

/-- The final register of a session that a DEMAND ends (R14). -/
def Figures.final (g : Figures) : Option Register := if g.state = .ended then some g.register else none

/-- The rows of R7, R8 and R9 that end a session. -/
theorem demand_ends (h : Claims.endsWith (s.bay b).session g reason) :
    s.demand b g = (s.figured b g).finalise b reason g.final := by
  have hrunning (hstate : (s.bay b).session.state = .connected ∨ (s.bay b).session.state = .active ∨
      (s.bay b).session.state = .silent) : s.demand b g = (s.figured b g).demandRunning b g := by
    rcases hstate with hstate | hstate | hstate <;> rw [demand_eq, hstate]
  have hclosing (hstate : (s.bay b).session.state = .closing) : s.demand b g = (s.figured b g).demandClosing b g := by
    rw [demand_eq, hstate]
  rcases h with ⟨hstate, hg, rfl⟩ | ⟨hstate, hg, rfl⟩ | ⟨hstate, hg, rfl⟩ | ⟨hstate, hg, hreason⟩ | ⟨hstate, hg, rfl⟩
  · rw [hrunning hstate, State.demandRunning, Figures.final, hg, if_pos rfl]
  · rw [hrunning hstate, State.demandRunning, Figures.final, hg, if_neg (by simp)]
  · rw [hrunning hstate, State.demandRunning, Figures.final, hg, if_neg (by simp)]
  · have hheld : ((s.figured b g).bay b).session.endReason.getD .unplugged = reason := by
      rw [figured_session, hreason]
      rfl
    rw [hclosing hstate, State.demandClosing, Figures.final, hheld]
    rcases hg with hg | hg <;> rw [hg] <;> simp
  · rw [hclosing hstate, State.demandClosing, Figures.final, hg, if_neg (by simp)]

theorem endsWith_unplugged (h : Claims.endsWith (s.bay b).session g reason) : g.plugged = false := by
  have hended : g.state = .ended ∨ g.state = .available ∨ g.state = .fault := by
    unfold Claims.endsWith at h
    tauto
  rcases hended with hg | hg | hg <;> simp [Figures.plugged, hg]

end

theorem State.holdBay_frame (s : State) (b : BayNo) (reason : EndReason) (final : Option Register) :
    s.changesOnly (s.holdBay b reason final) {.session b, .held, .events} := by
  have hended : s.changesOnly (s.endSession b reason final) {.session b} := s.modSession_frame b _
  have hmoved := State.changesOnly_trans hended (State.modSession_frame _ b fun x =>
    { x with state := .held, blocked := ((s.endSession b reason final).bay b).session.blocks })
  have hlisted := State.changesOnly_trans (State.changesOnly_trans hmoved
    (State.setHeld_frame _ ((s.endSession b reason final).held ++ [b]))) (State.raise_frame _ .receiptHeld)
  exact State.changesOnly_mono hlisted (by simp [Set.subset_def])

/-- Settles O10: the session is finalised with room in the receipt queue, and the frame goes up behind the receipt's. -/
theorem demandBuildsReceipt : Obligations.DemandBuildsReceipt := by
  unfold Obligations.DemandBuildsReceipt
  intro s f b g reason h hends hroom
  have hbefore : s.changesOnly ((s.countReceived .down).figured b g) {.counters .down, .session b} :=
    State.changesOnly_seq (s.countReceived_frame .down) figured_frame (by simp) (by simp)
  have hheard : s.heard b g = ((s.countReceived .down).figured b g).finalise b reason g.final :=
    demand_ends (by rw [State.countReceived_bay]; exact hends)
  have hsession : (((s.countReceived .down).figured b g).bay b).session = { (s.bay b).session with figures := some g } := by
    rw [figured_session, State.countReceived_bay]
  have hrq : ((s.countReceived .down).figured b g).rq = s.rq := hbefore .receipts (by simp)
  have hsite : ((s.countReceived .down).figured b g).mr.site = s.mr.site := hbefore .site (by simp)
  have hclock : ((s.countReceived .down).figured b g).mu = s.mu := by simp [State.figured]
  have hconfig : (((s.countReceived .down).figured b g).bay b).config = (s.bay b).config := hbefore (.config b) (by simp)
  have hmetering : (((s.countReceived .down).figured b g).bay b).metering = (s.bay b).metering := hbefore (.metering b) (by simp)
  have hqueue : ((s.countReceived .down).figured b g).li.up.queue = s.li.up.queue := hbefore (.queue .up) (by simp)
  have hdrop : ((s.countReceived .down).figured b g).li.up.counters.drop = s.li.up.counters.drop := hbefore (.drops .up) (by simp)
  have hpending : ((s.countReceived .down).figured b g).isPending .receiptHigh = s.isPending .receiptHigh :=
    State.isPending_of_events (hbefore .events (by simp)) _
  have hexec := exec_demand h
  rw [hheard] at hexec
  generalize (s.countReceived .down).figured b g = u at *
  obtain ⟨n, hreceipts, hnext, hhigh, hformed, hoffered, hraised, hended, hframe⟩ := finalise_built (s := u) (b := b)
    (reason := reason) (final := g.final) (by rw [hrq]; exact hroom)
  generalize u.finalise b reason g.final = v at *
  have hforward := v.forward_frame .up f
  have hsent : v.appends (v.forward .up f) .up ⟨f, .forwarded⟩ := v.forward_appends .up f
  have hrqForward : (v.forward .up f).rq = v.rq := by simp
  refine ⟨_, n, hexec, ?_, ?_, ?_, ?formed, ?queued, ?raised, ?_, ?_, ?_, ?_, ?_, ?frame⟩
  case formed =>
    rw [framesOf_same hsite] at hoffered
    refine receiptOf_of_same (u := u) ?_ hmetering hrq hsite
    rw [hsession] at hformed
    unfold Session.ended State.siteTime State.now at hformed
    rw [hclock] at hformed
    exact hformed
  case queued =>
    rw [framesOf_same hsite] at hoffered
    exact ((hoffered.of_same hqueue hdrop).behind hsent).queued
  case raised =>
    refine highRaised_of_same hraised hpending hrq ?_ ?_
    · rw [inEvent_isPending]
      exact State.isPending_of_events (hforward .events (by simp)) _
    · rw [inEvent_rq, hrqForward]
  case frame =>
    have hall := State.changesOnly_trans (State.changesOnly_trans (State.changesOnly_trans hbefore hframe) hforward)
      (inEvent_after (fun _ => v.forward .up f) s)
    exact State.changesOnly_mono hall (by simp [raisedParts, Set.subset_def])
  · rw [inEvent_rq, hrqForward, hreceipts, hrq]
  · rw [inEvent_rq, hrqForward, hnext, hrq]
  · rw [inEvent_rq, hrqForward, hhigh, hrq, hsite]
  all_goals rw [inEvent_bay, State.forward_bay, hended]
  · rw [Bay.restState, hconfig]
  · rfl
  · rw [← hclock]
    rfl
  · rfl
  · rfl

/-- Settles O11: the session is finalised with a full receipt queue, and figures that end a session plug in no vehicle. -/
theorem demandHoldsSession : Obligations.DemandHoldsSession := by
  unfold Obligations.DemandHoldsSession
  intro s f b g reason h hends hfull
  have hbefore : s.changesOnly ((s.countReceived .down).figured b g) {.counters .down, .session b} :=
    State.changesOnly_seq (s.countReceived_frame .down) figured_frame (by simp) (by simp)
  have hheard : s.heard b g = ((s.countReceived .down).figured b g).finalise b reason g.final :=
    demand_ends (by rw [State.countReceived_bay]; exact hends)
  have hblocks : (((s.countReceived .down).figured b g).bay b).session.blocks = false := by
    rw [figured_session, Session.blocks]
    simp [endsWith_unplugged hends]
  have hrq : ((s.countReceived .down).figured b g).rq = s.rq := hbefore .receipts (by simp)
  have hheld : ((s.countReceived .down).figured b g).held = s.held := hbefore .held (by simp)
  have hclock : ((s.countReceived .down).figured b g).mu = s.mu := by simp [State.figured]
  have hexec := exec_demand h
  rw [hheard] at hexec
  generalize (s.countReceived .down).figured b g = u at *
  have hlength : receiptSlots ≤ u.rq.receipts.length := by rw [hrq]; exact hfull
  have hsession := u.finalise_session_full b reason g.final hlength
  obtain ⟨hlist, -⟩ := u.finalise_full_held b reason g.final hlength
  have hholds : u.finalise b reason g.final = u.holdBay b reason g.final := by
    rw [u.finalise_full b reason g.final hlength, hblocks, if_neg (by simp)]
  have hraised : (u.finalise b reason g.final).isPending .receiptHeld = true := by
    rw [hholds, State.holdBay, State.holdEnded, State.raise_isPending]
    simp
  have hframe : u.changesOnly (u.finalise b reason g.final) {.session b, .held, .events} := by
    rw [hholds]
    exact u.holdBay_frame b reason g.final
  generalize u.finalise b reason g.final = v at *
  have hforward := v.forward_frame .up f
  refine ⟨_, hexec, ?_, ?_, ?_, ?_, ?_, ?_, ?frame⟩
  case frame =>
    have hall := State.changesOnly_trans (State.changesOnly_trans (State.changesOnly_trans hbefore hframe) hforward)
      (inEvent_after (fun _ => v.forward .up f) s)
    exact State.changesOnly_mono hall (by simp [raisedParts, Set.subset_def])
  · rw [inEvent_bay, State.forward_bay, hsession]
  · rw [inEvent_bay, State.forward_bay, hsession]
    rfl
  · rw [inEvent_bay, State.forward_bay, hsession, ← hclock]
    rfl
  · rw [inEvent_bay, State.forward_bay, hsession]
    exact hblocks
  · rw [inEvent_held, State.forward_held, hlist, hheld]
  · rw [inEvent_isPending, State.isPending_of_events (hforward .events (by simp)), hraised]

end Sys2Proof.Machine
end

section
/-! The session timers and the pending links run out (O47). -/

namespace Sys2Proof.Machine

section
variable {s : State} {b : BayNo} {c : Instr} {reason : EndReason}

theorem timerExpired_of_ranOut {duration : Nat} (h : Claims.ranOut s b duration) : s.timerExpired b duration = true := by
  obtain ⟨start, htimer, hpast⟩ := h
  have hdue : decide (duration ≤ elapsed s.now start) = true := decide_eq_true hpast
  rw [State.timerExpired, htimer]
  exact hdue

/-- The two expiries that end a session (R12, R13). -/
theorem exec_expiry (hp : s.powered = true)
    (h : (c = .silentCloseExpiry b ∧ (s.bay b).session.state = .silent ∧ Claims.ranOut s b s.mr.site.silentClose ∧
        reason = .silent) ∨
      (c = .closeHoldExpiry b ∧ (s.bay b).session.state = .closing ∧ Claims.ranOut s b s.mr.site.closeHold ∧
        (s.bay b).session.endReason = some reason)) :
    exec c s = .next (inEvent (fun _ => s.finalise b reason none) s) := by
  rcases h with ⟨rfl, hstate, hran, rfl⟩ | ⟨rfl, hstate, hran, hreason⟩
  · have hwork : s.silentCloseExpiry b = s.finalise b .silent none := by
      rw [State.silentCloseExpiry, hstate]
      exact if_pos (timerExpired_of_ranOut hran)
    rw [exec_powered (c := .silentCloseExpiry b) rfl hp, inEvent, hwork, inEvent]
  · have hwork : s.closeHoldExpiry b = s.finalise b reason none := by
      rw [State.closeHoldExpiry, hstate]
      refine (if_pos (timerExpired_of_ranOut hran)).trans ?_
      rw [hreason]
      rfl
    rw [exec_powered (c := .closeHoldExpiry b) rfl hp, inEvent, hwork, inEvent]

theorem blocks_eq (x : Session) : x.blocks =
    match x.figures with
    | some g => decide (g.state = .connected ∨ g.state = .requesting)
    | none => false := by
  unfold Session.blocks
  cases x.figures with
  | none => rfl
  | some g => exact plugged_eq

/-- A session that ends while 48 receipts wait, and the GRANT of its blocked plug (R14, R17, R18). -/
theorem finalise_holds (hfull : receiptSlots ≤ s.rq.receipts.length) :
    let v := s.finalise b reason none
    (v.bay b).session = { (s.bay b).session.ended s reason none with state := .held, blocked := (s.bay b).session.blocks } ∧
      v.held = s.held ++ [b] ∧ v.isPending .receiptHeld = true ∧
      ((s.bay b).session.blocked = true ∨ (s.bay b).session.blocks = false ∨ s.chargerOf b = none →
        v.li.down.queue = s.li.down.queue ∧ v.li.down.counters.drop = s.li.down.counters.drop) ∧
      (∀ pos e, (s.bay b).session.blocked = false → (s.bay b).session.blocks = true → s.chargerOf b = some (pos, e) →
        s.li.down.queue.length < queueSize ∨ (∃ q ∈ s.li.down.queue, q.origin = .grant b) →
        ∃ q ∈ v.li.down.queue, q.origin = .grant b ∧ q.frame.dest = e.address ∧ q.frame.source = s.own ∧
          q.frame.kind = kindGrant ∧ q.frame.payload.take 4 = [BitVec.ofNat 8 b.val, 0, 0, 0]) ∧
      s.changesOnly v {.session b, .held, .events, .queue .down, .drops .down} := by
  intro v
  have hholds : v = if (s.bay b).session.blocks && !(s.bay b).session.blocked then (s.holdBay b reason none).blockedGrant b
      else s.holdBay b reason none := s.finalise_full b reason none hfull
  have hframe := s.holdBay_frame b reason none
  have hqueue : (s.holdBay b reason none).li.down.queue = s.li.down.queue := hframe (.queue .down) (by simp)
  have hdrop : (s.holdBay b reason none).li.down.counters.drop = s.li.down.counters.drop := hframe (.drops .down) (by simp)
  have hcharger : (s.holdBay b reason none).chargerOf b = s.chargerOf b := by
    simp [State.chargerOf, State.stationFor, State.findStation, State.holdBay, State.holdEnded, State.endSession]
  have hown : (s.holdBay b reason none).own = s.own := congrArg SiteTable.ownAddress (hframe .site (by simp))
  have hheld : (s.holdBay b reason none).isPending .receiptHeld = true := by
    rw [State.holdBay, State.holdEnded, State.raise_isPending]
    simp
  refine ⟨s.finalise_session_full b reason none hfull, (s.finalise_full_held b reason none hfull).1, ?_, fun hquiet => ?_,
    fun pos e hwas hset hentry hroom => ?_, State.finalise_frame_full hfull b reason none⟩
  · rw [hholds]
    split
    · exact (State.isPending_of_events (State.blockedGrant_frame _ b .events (by simp)) _).trans hheld
    · exact hheld
  · have hsame : v.li.down = (s.holdBay b reason none).li.down := by
      rcases hquiet with hquiet | hquiet | hquiet
      · rw [hholds, hquiet, if_neg (by simp)]
      · rw [hholds, hquiet, if_neg (by simp)]
      · rw [hholds, State.blockedGrant, hcharger, hquiet, ite_self]
    rw [hsame]
    exact ⟨hqueue, hdrop⟩
  · have hgrant := blockedGrant_stands (hcharger.trans hentry) (by rw [hqueue]; exact hroom)
    rw [hown] at hgrant
    rw [hholds, hset, hwas]
    exact hgrant

end

/-- Settles O47: each expiry acts on the bay or the link that it names. -/
theorem sessionExpiries : Obligations.SessionExpiries := by
  unfold Obligations.SessionExpiries
  refine ⟨fun s b hp hstate hran => ?silence, fun s b c reason hp hexpiry hroom => ?built, fun s b c reason hp hexpiry hfull => ?held,
    fun s b e hp he hbay hdue hpast => ?link⟩
  case silence =>
    have hwork : s.silenceExpiry b = s.goSilent b := by
      unfold State.silenceExpiry
      rcases hstate with hstate | hstate <;> rw [hstate] <;> exact if_pos (timerExpired_of_ranOut hran)
    refine ⟨_, exec_powered (c := .silenceExpiry b) rfl hp, ?_, ?_, ?_⟩
    · rw [inEvent_bay, hwork, State.goSilent, State.raise_bay, State.modSession_session]
      rfl
    · rw [inEvent_isPending, hwork, State.goSilent, State.raise_isPending]
      simp
    · have hall := State.changesOnly_trans (hwork ▸ s.goSilent_frame b) (inEvent_after (fun t => t.silenceExpiry b) s)
      exact State.changesOnly_mono hall (by simp [raisedParts, Set.subset_def])
  case built =>
    obtain ⟨n, hreceipts, hnext, -, hformed, hoffered, hraised, hended, hframe⟩ := finalise_built (b := b) (reason := reason)
      (final := none) hroom
    have hexec := exec_expiry hp hexpiry
    generalize s.finalise b reason none = v at *
    refine ⟨_, n, hexec, by rw [inEvent_rq, hreceipts], by rw [inEvent_rq, hnext], hformed, hoffered.queued, ?_, ?_, ?_, ?_, ?_⟩
    · exact highRaised_of_same hraised rfl rfl (by rw [inEvent_isPending]) (by rw [inEvent_rq])
    · rw [inEvent_bay, hended]
      rfl
    · rw [inEvent_bay, hended]
      rfl
    · rw [inEvent_bay, hended]
      rfl
    · exact State.changesOnly_mono (State.changesOnly_trans hframe (inEvent_after (fun _ => v) s))
        (by simp [raisedParts, Set.subset_def])
  case held =>
    intro was plugged
    have hplugged : plugged = (s.bay b).session.blocks := (blocks_eq _).symm
    obtain ⟨hsession, hlist, hpending, hquiet, hgrant, hframe⟩ := finalise_holds (b := b) (reason := reason) hfull
    have hexec := exec_expiry hp hexpiry
    generalize s.finalise b reason none = v at *
    rw [hplugged]
    refine ⟨_, hexec, ?_, by rw [inEvent_held, hlist], by rw [inEvent_isPending, hpending], ?_, ?_, ?_⟩
    · rw [inEvent_bay, hsession]
      rfl
    · rw [inEvent_li_down]
      exact hquiet
    · rw [inEvent_li_down]
      exact hgrant
    · exact State.changesOnly_mono (State.changesOnly_trans hframe (inEvent_after (fun _ => v) s))
        (by simp [raisedParts, Set.subset_def])
  case link =>
    have hexpired : s.linkExpired b = true := by
      rw [State.linkExpired, List.any_eq_true]
      have hlate : decide (s.mr.site.linkLifetime ≤ elapsed s.now e.stored) = true := decide_eq_true hpast
      exact ⟨e, he, by rw [hlate, hdue, hbay, beq_self_eq_true]; rfl⟩
    have hwork : (if s.linkExpired b then s.expireLink b else s) = s.expireLink b := if_pos hexpired
    refine ⟨_, exec_powered (c := .pendingLinkExpiry b) rfl hp, ?_, ?_, ?_⟩
    · rw [inEvent_links, hwork]
      simp [State.expireLink, bne, beq_eq_decide]
    · rw [inEvent_isPending, hwork, State.expireLink, State.raise_isPending]
      simp
    · have hall := State.changesOnly_trans (hwork ▸ s.expireLink_frame b)
        (inEvent_after (fun t => if t.linkExpired b then t.expireLink b else t) s)
      exact State.changesOnly_mono hall (by simp [raisedParts, Set.subset_def])

end Sys2Proof.Machine
end

section
/-! RELEASE_RECEIPT (O40). -/

namespace Sys2Proof.Machine

/-! ### The slot of the released receipt (R19, R140) -/

section
variable {s : State} {b : BayNo} {rest : List BayNo}

/-- The state in which the receipt of the head held bay has been built. -/
def State.slotFilled (s : State) (b : BayNo) (rest : List BayNo) : State := ({ s with held := rest } : State).buildReceipt b

/-- A change of a bay's session leaves the receipts, the lines and the events as they are. -/
theorem handOver_kept : (s.handOver b rest).rq = (s.slotFilled b rest).rq ∧ (s.handOver b rest).li = (s.slotFilled b rest).li ∧
    (s.handOver b rest).mr = (s.slotFilled b rest).mr ∧ (s.handOver b rest).held = rest := by
  have hheld : (s.slotFilled b rest).held = rest := by simp [State.slotFilled]
  rcases s.handOver_cases b rest with ⟨f, -, -, -, h⟩ | ⟨-, h⟩ <;> rw [h]
  · exact ⟨rfl, rfl, rfl, hheld⟩
  · exact ⟨rfl, rfl, rfl, hheld⟩

/-- The receipt that fills the slot: its figures and its frames. -/
theorem handOver_built : ∃ n, (s.handOver b rest).rq = { s.rq with receipts := s.rq.receipts ++ [n], next := s.rq.next + 1 } ∧
    Claims.receiptOf s b (s.bay b).session n ∧ Offered s (Claims.receiptFrames s n) none (s.handOver b rest) ∧
    (s.handOver b rest).mr = s.mr := by
  obtain ⟨hrq, hli, hmr, -⟩ := handOver_kept (s := s) (b := b) (rest := rest)
  refine ⟨({ s with held := rest } : State).receiptOf b, ?_, receiptOf_formed rfl rfl rfl rfl, ?_, ?_⟩
  · rw [hrq]
    exact State.buildReceipt_rq _ b
  · rw [← receiptFrames_eq (s := s) (u := { s with held := rest }) rfl]
    exact Offered.of_frames (u := { s with
      held := rest, rq.receipts := s.rq.receipts ++ [({ s with held := rest } : State).receiptOf b], rq.next := s.rq.next + 1 })
      rfl (congrArg LineState.up hli)
  · rw [hmr, State.slotFilled, State.buildReceipt, State.offerAll_mr]

/-- A held bay whose plug is blocked opens a new session (R19). -/
theorem handOver_opens {g : Figures} (hfigures : (s.bay b).session.figures = some g) (henabled : (s.bay b).config.enabled = true)
    (hblocked : (s.bay b).session.blocked = true) : s.handOver b rest = (s.slotFilled b rest).openSession b g := by
  rcases s.handOver_cases b rest with ⟨f, hf, -, -, h⟩ | ⟨hnone, -⟩
  · obtain rfl := Option.some.inj (hfigures.symm.trans hf)
    exact h
  · exact absurd ⟨henabled, hblocked⟩ (hnone g hfigures)

theorem handOver_frees (h : (s.bay b).config.enabled = false ∨ (s.bay b).session.blocked = false) :
    ((s.handOver b rest).bay b).session = { (s.bay b).session with state := (s.bay b).restState, blocked := false } := by
  rcases s.handOver_cases b rest with ⟨f, -, henabled, hblocked, -⟩ | ⟨-, hfreed⟩
  · rcases h with h | h
    · rw [h] at henabled; cases henabled
    · rw [h] at hblocked; cases hblocked
  · rw [hfreed, State.modSession_session, State.buildReceipt_bay]
    rfl

end

/-- What the release of the oldest receipt leaves where a bay is held. -/
theorem releaseOldest_handed {s : State} {b : BayNo} {waiting : List BayNo} {oldest : Receipt} {others : List Receipt}
    (hheld : s.held = b :: waiting) (hreceipts : s.rq.receipts = oldest :: others) :
    s.releaseOldest.held = waiting ∧
      (∃ n, s.releaseOldest.rq = ⟨others ++ [n], s.rq.next + 1, decide (s.mr.site.highWater ≤ s.rq.receipts.length)⟩ ∧
        Claims.receiptOf s b (s.bay b).session n ∧ Offered s (Claims.receiptFrames s n) none s.releaseOldest) ∧
      Claims.highRaised s s.releaseOldest ∧
      (∀ g, (s.bay b).session.figures = some g → (s.bay b).config.enabled = true → (s.bay b).session.blocked = true →
        (s.releaseOldest.bay b).session.id = (s.bay b).session.id + 1 ∧
        (s.releaseOldest.bay b).session.state = (if g.state = .requesting ∧ 0 < g.requested then .active else .connected) ∧
        (s.releaseOldest.bay b).session.startRegister = some g.register ∧
        (s.releaseOldest.bay b).session.startUptime = some s.mu.uptime ∧
        (s.releaseOldest.bay b).session.blocked = false ∧ (s.releaseOldest.bay b).metering.energy = 0) ∧
      ((s.bay b).config.enabled = false ∨ (s.bay b).session.blocked = false → (s.releaseOldest.bay b).session =
        { (s.bay b).session with state := if (s.bay b).config.enabled then .vacant else .disabled, blocked := false }) ∧
      s.changesOnly s.releaseOldest
        {.receipts, .held, .links, .session b, .metering b, .events, .queue .up, .drops .up} := by
  have hreleased : s.releaseOldest = (s.droppedOldest.handOver b waiting).evalHigh := State.releaseOldest_held hheld
  have hdropped : s.droppedOldest.rq.receipts = others := by simp [State.droppedOldest, hreceipts]
  obtain ⟨n, hrq, hformed, hoffered, hmr⟩ := handOver_built (s := s.droppedOldest) (b := b) (rest := waiting)
  obtain ⟨-, -, -, hlist⟩ := handOver_kept (s := s.droppedOldest) (b := b) (rest := waiting)
  have hevents : (s.droppedOldest.handOver b waiting).isPending .receiptHigh = s.isPending .receiptHigh :=
    State.isPending_of_events (congrArg ManageState.events hmr) _
  rw [hreleased]
  refine ⟨by rw [State.evalHigh_held, hlist], ⟨n, ?rq, hformed, ?offered⟩, ?raised, fun g hfigures henabled hblocked => ?opens,
    fun hrest => ?frees, ?frame⟩
  case rq =>
    rw [State.evalHigh_rq, hrq, hmr, hdropped, hreceipts]
    simp [State.droppedOldest]
  case offered =>
    obtain ⟨hqueue, hdrop⟩ := hoffered
    exact ⟨by rw [State.evalHigh_li]; exact hqueue, by rw [State.evalHigh_li]; exact hdrop⟩
  case raised =>
    unfold Claims.highRaised
    rw [evalHigh_raised, hevents, hrq]
    rfl
  case opens =>
    have hopened := handOver_opens (s := s.droppedOldest) (rest := waiting) hfigures henabled hblocked
    have hfilled : (s.droppedOldest.slotFilled b waiting).bay b = s.bay b := by
      rw [State.slotFilled, State.buildReceipt_bay]
      rfl
    have huptime : (s.droppedOldest.slotFilled b waiting).now = s.mu.uptime := by
      simp [State.now, State.slotFilled, State.droppedOldest]
    rw [State.evalHigh_bay, hopened, State.openSession_session, openSession_metering]
    exact ⟨by rw [State.opened, hfilled], rfl, rfl, congrArg some huptime, rfl, rfl⟩
  case frees =>
    rw [State.evalHigh_bay]
    exact handOver_frees (s := s.droppedOldest) (rest := waiting) hrest
  case frame =>
    have hall := State.changesOnly_trans (State.changesOnly_trans (s.setReceipts_frame s.droppedOldest.rq)
      (State.handOver_frame (s := s.droppedOldest) b waiting)) (State.evalHigh_frame (s := s.droppedOldest.handOver b waiting))
    exact State.changesOnly_mono hall (by simp [Set.subset_def])

/-! ### The command (R139) -/

section
variable {s : State} {number : BitVec 32}

theorem commandRelease_eq (s : State) (tag : Byte) (number : BitVec 32) :
    commandRelease ([tag, 3, 7] ++ field32 number) s = s.release number := by
  have hbytes : readU (bytesOf 4 number.toNat) 0 4 = number.toNat := by
    simpa using readU_bytesOf [] [] (w := 4) (n := number.toNat) number.isLt
  have hread : readU (field32 number) 0 4 = number.toNat := hbytes
  refine (withArguments_enough (arguments := field32 number) s (by simp [field32])).trans ?_
  rw [hread, BitVec.ofNat_toNat, BitVec.setWidth_eq]

theorem release_other (h : ∀ r, s.rq.receipts.head? = some r → r.number ≠ number) :
    s.release number = (s, if ∃ r ∈ s.rq.receipts, r.number = number then .notOldest else .badIndex) := by
  unfold State.release
  cases hreceipts : s.rq.receipts with
  | nil => simp
  | cons oldest others =>
    have hne : oldest.number ≠ number := h oldest (by rw [hreceipts]; rfl)
    simp only [List.any_eq_true, beq_iff_eq, List.mem_cons, exists_eq_or_imp, hne, false_or, if_false]
    exact (apply_ite (Prod.mk s) _ _ _).symm

theorem release_oldest {oldest : Receipt} {others : List Receipt} (h : s.rq.receipts = oldest :: others)
    (hnumber : oldest.number = number) : s.release number = (s.releaseOldest, .ok) := by
  unfold State.release
  rw [h]
  exact if_pos hnumber

end

/-- Settles O40: the slot of the oldest receipt goes to the head held bay, and the high condition is evaluated. -/
theorem releaseHandsOn : Obligations.ReleaseHandsOn := by
  unfold Obligations.ReleaseHandsOn
  refine fun s source tag number rest h => ⟨fun hother => ?other, fun oldest others hreceipts hnumber => ?oldest⟩
  case other =>
    refine exec_checked_unaffected (c := .releaseReceipt) (work := commandRelease) rfl h rfl
      ((commandRelease_eq s tag number).trans (release_other hother)) ?_
    refine (answerOf_command tag 7 (field32 number) _ _).trans ?_
    split <;> rfl
  case oldest =>
    have hwork := checked_allowed (r := ⟨source, [tag, 3, 7] ++ field32 number⟩) h.2
      ((commandRelease_eq s tag number).trans (release_oldest hreceipts hnumber))
    have hpayload : answerOf ([tag, 3, 7] ++ field32 number) .ok s.releaseOldest.mr.plan = [tag, 3, 0, 7] :=
      answerOf_command tag 7 (field32 number) .ok _
    rw [hpayload] at hwork
    have hexec := exec_answered (c := .releaseReceipt) rfl h.1 rfl hwork
    refine ⟨_, hexec, by simp, fun hfree => ?free, fun b waiting hheld => ?held⟩
    case free =>
      have hreleased : s.releaseOldest = s.droppedOldest.evalHigh := State.releaseOldest_free hfree
      have hdropped : s.changesOnly s.droppedOldest {.receipts} := s.setReceipts_frame _
      have hframe : s.changesOnly s.releaseOldest {.receipts, .events} := by
        rw [hreleased]
        exact State.changesOnly_seq hdropped (State.evalHigh_frame (s := s.droppedOldest)) (by simp) (by simp)
      have hrq : s.releaseOldest.rq = { s.rq with
          receipts := others, high := decide (s.mr.site.highWater ≤ others.length) } := by
        rw [hreleased, State.evalHigh_rq]
        simp [State.droppedOldest, hreceipts]
      have hraised : Claims.highRaised s s.releaseOldest := by
        unfold Claims.highRaised
        rw [hreleased, evalHigh_raised]
        rfl
      have happends := s.releaseOldest.answered_appends source [tag, 3, 0, 7] rest
      have hanswered := s.releaseOldest.answered_frame source [tag, 3, 0, 7] rest
      rw [State.answerTo_of_site (hframe _ (by simp))] at happends
      generalize s.releaseOldest = u at *
      refine ⟨by rw [inEvent_rq, State.answered_rq, hrq], by rw [inEvent_rq, State.answered_rq, hrq],
        by rw [inEvent_rq, State.answered_rq, hrq], ?_,
        inEvent_gains (State.appends_of_same (hframe _ (by simp)) (hframe _ (by simp)) happends), ?_⟩
      · exact highRaised_of_same hraised rfl rfl (by rw [inEvent_isPending, State.answered_isPending])
          (by rw [inEvent_rq, State.answered_rq])
      · exact State.changesOnly_mono (State.changesOnly_trans (State.changesOnly_trans hframe hanswered)
          (inEvent_after (fun _ => u.answered source [tag, 3, 0, 7] rest) s)) (by simp [answeredParts])
    case held =>
      have hanswered := s.releaseOldest.answered_frame source [tag, 3, 0, 7] rest
      obtain ⟨hlist, ⟨n, hrq, hformed, hoffered⟩, hraised, hopens, hfrees, hframe⟩ := releaseOldest_handed hheld hreceipts
      have happends := s.releaseOldest.answered_appends source [tag, 3, 0, 7] rest
      rw [State.answerTo_of_site (hframe .site (by simp))] at happends
      generalize s.releaseOldest = u at *
      refine ⟨by rw [inEvent_held, State.answered_held, hlist], ⟨n, by rw [inEvent_rq, State.answered_rq, hrq], hformed,
        (hoffered.behind happends).queued⟩, by rw [inEvent_rq, State.answered_rq, hrq], by rw [inEvent_rq, State.answered_rq, hrq], ?_,
        ?_, ?_, ?_⟩
      · exact highRaised_of_same hraised rfl rfl (by rw [inEvent_isPending, State.answered_isPending])
          (by rw [inEvent_rq, State.answered_rq])
      · rw [inEvent_bay, State.answered_bay]
        exact hopens
      · rw [inEvent_bay, State.answered_bay]
        exact hfrees
      · exact State.changesOnly_mono (State.changesOnly_trans (State.changesOnly_trans hframe hanswered)
          (inEvent_after (fun _ => u.answered source [tag, 3, 0, 7] rest) s)) (by simp [answeredParts, Set.subset_def])

end Sys2Proof.Machine
end

section
/-! Own frames offered to the Down queue one after the other: what waits, what is taken and what is dropped. -/

namespace Sys2Proof.Machine

/-! ### The queue -/

theorem Claims.offered_cons (queue : List Queued) (frame : Queued) (frames : List Queued) :
    Claims.offered queue (frame :: frames) = Claims.offered ((enqueue queue frame).getD queue) frames := rfl

theorem Claims.offered_append (queue front back : List Queued) :
    Claims.offered queue (front ++ back) = Claims.offered (Claims.offered queue front) back := List.foldl_append ..

theorem enqueue_length_le {queue taken : List Queued} {frame : Queued} (h : enqueue queue frame = some taken) :
    queue.length ≤ taken.length := by
  rcases enqueue_cases queue frame with ⟨front, old, back, rfl, -, -, he⟩ | ⟨-, ⟨-, he⟩ | ⟨-, he⟩⟩ <;> rw [he] at h <;> cases h <;>
    simp

theorem enqueue_takes {queue taken : List Queued} {frame : Queued} (h : enqueue queue frame = some taken) : frame ∈ taken := by
  rcases enqueue_cases queue frame with ⟨front, old, back, -, -, -, he⟩ | ⟨-, ⟨-, he⟩ | ⟨-, he⟩⟩ <;> rw [he] at h <;> cases h <;>
    simp

theorem enqueue_full {queue : List Queued} {frame : Queued} (h : enqueue queue frame = none) : queueSize ≤ queue.length := by
  rcases enqueue_cases queue frame with ⟨front, old, back, -, -, -, he⟩ | ⟨-, ⟨-, he⟩ | ⟨hl, -⟩⟩
  · rw [he] at h; cases h
  · rw [he] at h; cases h
  · exact hl

/-- A waiting frame outlives an offer that does not replace it. -/
theorem enqueue_keeps {queue taken : List Queued} {frame x : Queued} (h : enqueue queue frame = some taken) (hx : x ∈ queue)
    (hr : replaces frame x = false) : x ∈ taken := by
  rcases enqueue_cases queue frame with ⟨front, old, back, rfl, -, ho, he⟩ | ⟨-, ⟨-, he⟩ | ⟨-, he⟩⟩ <;> rw [he] at h <;> cases h
  · have hne : x ≠ old := fun e => by rw [← e, hr] at ho; cases ho
    simp only [List.mem_append, List.mem_cons] at hx ⊢
    tauto
  · exact List.mem_append_left _ hx

theorem Claims.offered_length_le (queue frames : List Queued) : queue.length ≤ (Claims.offered queue frames).length := by
  induction frames generalizing queue with
  | nil => exact le_refl _
  | cons frame frames ih =>
    rw [Claims.offered_cons]
    cases h : enqueue queue frame with
    | none => exact ih queue
    | some taken => exact (enqueue_length_le h).trans (ih taken)

theorem Claims.offered_keeps {queue frames : List Queued} {x : Queued} (hx : x ∈ queue)
    (h : ∀ frame ∈ frames, replaces frame x = false) : x ∈ Claims.offered queue frames := by
  induction frames generalizing queue with
  | nil => exact hx
  | cons frame frames ih =>
    rw [Claims.offered_cons]
    refine ih ?_ fun f hf => h f (List.mem_cons_of_mem _ hf)
    cases he : enqueue queue frame with
    | none => exact hx
    | some taken => exact enqueue_keeps he hx (h frame List.mem_cons_self)

/-! ### Offers in turn -/

section
variable {α β : Type}

/-- A turn at the Down queue: `a` offers the frame it owes, a drop is counted, and its mark follows a frame that is taken. -/
structure OffersDown (owed : Option Queued) (mark : State → α → β) (taken : β) (a : α) (s t : State) : Prop where
  queue : t.li.down.queue = Claims.offered s.li.down.queue owed.toList
  drop : t.li.down.counters.drop =
    if owed.any fun frame => (enqueue s.li.down.queue frame).isNone then bump s.li.down.counters.drop
    else s.li.down.counters.drop
  marked : mark t a = if owed.any fun frame => (enqueue s.li.down.queue frame).isSome then taken else mark s a
  others : ∀ b, b ≠ a → mark t b = mark s b

/-- An offer to the Down queue is a turn, whatever then follows in the marks. -/
theorem OffersDown.of_offer {mark : State → α → β} {taken : β} {a : α} {s t : State} {frame : Queued}
    (hport : t.li.down = (s.offer .down frame).1.li.down)
    (hmarked : mark t a = if (s.offer .down frame).2 then taken else mark s a) (hothers : ∀ b, b ≠ a → mark t b = mark s b) :
    OffersDown (some frame) mark taken a s t := by
  rcases s.offer_cases .down frame with ⟨queue, htaken, hoffer⟩ | ⟨hlost, hoffer⟩ <;> rw [hoffer] at hport hmarked
  · have htaken : enqueue s.li.down.queue frame = some queue := htaken
    exact ⟨by rw [hport]; simp [Claims.offered, htaken]; rfl, by rw [hport]; simp [htaken]; rfl, by simpa [htaken] using hmarked, hothers⟩
  · have hlost : enqueue s.li.down.queue frame = none := hlost
    exact ⟨by rw [hport]; simp [Claims.offered, hlost]; rfl, by rw [hport]; simp [hlost]; rfl, by simpa [hlost] using hmarked, hothers⟩

/-- Nothing owed, nothing offered. -/
theorem OffersDown.of_none (mark : State → α → β) (taken : β) (a : α) (s : State) : OffersDown none mark taken a s s :=
  ⟨rfl, rfl, rfl, fun _ _ => rfl⟩

variable [DecidableEq α]

/-- What waits when `a`'s turn comes, of a list whose elements offer in turn what they owe. -/
def waitingAt (owed : α → Option Queued) (queue : List Queued) (l : List α) (a : α) : List Queued :=
  Claims.offered queue ((l.takeWhile fun x => decide (x ≠ a)).filterMap owed)

/-- The elements whose frame finds no room at their turn. -/
def lostAt (owed : α → Option Queued) (queue : List Queued) (l : List α) : List α :=
  l.filter fun a => (owed a).any fun frame => (enqueue (waitingAt owed queue l a) frame).isNone

variable {owed : α → Option Queued} {queue : List Queued} {a b : α} {l : List α}

theorem waitingAt_head : waitingAt owed queue (a :: l) a = queue := by simp [waitingAt, Claims.offered]

theorem waitingAt_tail (h : b ≠ a) :
    waitingAt owed queue (a :: l) b = waitingAt owed (Claims.offered queue (owed a).toList) l b := by
  have hne : decide (a ≠ b) = true := decide_eq_true h.symm
  rw [waitingAt, List.takeWhile_cons, if_pos hne, waitingAt, ← Claims.offered_append]
  cases ha : owed a <;> simp [ha]

theorem lostAt_cons (h : a ∉ l) : (lostAt owed queue (a :: l)).length =
    (if (owed a).any fun frame => (enqueue queue frame).isNone then 1 else 0) +
      (lostAt owed (Claims.offered queue (owed a).toList) l).length := by
  have htail : l.filter (fun b => (owed b).any fun frame => (enqueue (waitingAt owed queue (a :: l) b) frame).isNone) =
      lostAt owed (Claims.offered queue (owed a).toList) l :=
    List.filter_congr fun b hb => by
      rw [waitingAt_tail fun e : b = a => h (e ▸ hb)]
  rw [lostAt, List.filter_cons, waitingAt_head, htail]
  split
  · simp [Nat.add_comm]
  · simp

/-- The drops of a counter after some more. -/
theorem drops_add (d m n : Nat) : (if n = 0 then (if m = 0 then d else min 65535 (d + m))
    else min 65535 ((if m = 0 then d else min 65535 (d + m)) + n)) = if m + n = 0 then d else min 65535 (d + (m + n)) := by
  split <;> split <;> split <;> omega

/-- What a run of turns leaves: the frames in the queue as offered in turn, one drop for each that found no room, and the mark of
each element whose frame was taken. -/
theorem offers_in_turn {f : State → α → State} {mark : State → α → β} {taken first : α → β} {Inv : State → Prop}
    (hstep : ∀ w a, Inv w → mark w a = first a → OffersDown (owed a) mark (taken a) a w (f w a) ∧ Inv (f w a))
    (hnodup : l.Nodup) {s : State} (hs : Inv s) (hfirst : ∀ a ∈ l, mark s a = first a) :
    (l.foldl f s).li.down.queue = Claims.offered s.li.down.queue (l.filterMap owed) ∧
      (l.foldl f s).li.down.counters.drop =
        (if (lostAt owed s.li.down.queue l).length = 0 then s.li.down.counters.drop
          else min 65535 (s.li.down.counters.drop + (lostAt owed s.li.down.queue l).length)) ∧
      (∀ a ∈ l, mark (l.foldl f s) a =
        if (owed a).any fun frame => (enqueue (waitingAt owed s.li.down.queue l a) frame).isSome then taken a else first a) ∧
      (∀ a, a ∉ l → mark (l.foldl f s) a = mark s a) ∧ Inv (l.foldl f s) := by
  induction l generalizing s with
  | nil => exact ⟨rfl, by simp [lostAt], by simp, fun _ _ => rfl, hs⟩
  | cons a l ih =>
    obtain ⟨ha, hl⟩ := List.nodup_cons.mp hnodup
    obtain ⟨⟨hqueue, hdrop, hmarked, hothers⟩, hinv⟩ := hstep s a hs (hfirst a List.mem_cons_self)
    have hne : ∀ b ∈ l, b ≠ a := fun b hb e => ha (e ▸ hb)
    obtain ⟨hq, hd, hm, ho, hi⟩ := ih hl hinv fun b hb =>
      (hothers b (hne b hb)).trans (hfirst b (List.mem_cons_of_mem _ hb))
    rw [List.foldl_cons]
    refine ⟨?_, ?_, fun b hb => ?_, fun b hb => ?_, hi⟩
    · rw [hq, hqueue, ← Claims.offered_append]
      cases he : owed a <;> simp [he]
    · rw [hd, hdrop, hqueue, lostAt_cons ha, ← drops_add]
      congr 1
      · split <;> simp [bump]
      · split <;> simp [bump]
    · rcases List.mem_cons.mp hb with rfl | hb
      · rw [ho b ha, hmarked, waitingAt_head, hfirst b List.mem_cons_self]
      · rw [hm b hb, hqueue, waitingAt_tail (hne b hb)]
    · obtain ⟨hba, hbl⟩ := not_or.mp (fun h => hb (List.mem_cons.mpr h))
      rw [ho b hbl, hothers b hba]

end

/-! ### All the bays or strings -/

theorem finRange_before {n : Nat} (i : Fin n) :
    ((List.finRange n).takeWhile fun j => decide (j ≠ i)) = (List.finRange n).filter (· < i) := by
  induction n with
  | zero => exact i.elim0
  | succ n ih =>
    refine Fin.cases ?_ (fun i => ?_) i
    · rw [List.finRange_succ]
      simp
    · rw [List.finRange_succ, List.takeWhile_cons, List.filter_cons, List.takeWhile_map, List.filter_map]
      have h := ih i
      simp only [Function.comp_def, Fin.succ_lt_succ_iff, ne_eq, Fin.succ_inj, (Fin.succ_ne_zero i).symm, not_false_eq_true,
        decide_true, Fin.succ_pos] at h ⊢
      simpa using congrArg (List.map Fin.succ) h

theorem waitingAt_finRange {n : Nat} (owed : Fin n → Option Queued) (queue : List Queued) (i : Fin n) :
    waitingAt owed queue (List.finRange n) i =
      Claims.offered queue (((List.finRange n).filter (· < i)).filterMap owed) := by
  rw [waitingAt, finRange_before]

/-- A frame that is taken at its turn and that no later one replaces waits at the end. -/
theorem offered_stays {n : Nat} {owed : Fin n → Option Queued} {queue : List Queued} {i : Fin n} {frame : Queued}
    (howed : owed i = some frame) (htaken : (enqueue (waitingAt owed queue (List.finRange n) i) frame).isSome = true)
    (hlater : ∀ j x, j ≠ i → owed j = some x → replaces x frame = false) :
    frame ∈ Claims.offered queue ((List.finRange n).filterMap owed) := by
  obtain ⟨taken, htaken⟩ := Option.isSome_iff_exists.mp htaken
  have hsplit : List.finRange n = ((List.finRange n).takeWhile fun j => decide (j ≠ i)) ++
      i :: ((List.finRange n).dropWhile fun j => decide (j ≠ i)).tail := by
    have hcons : ((List.finRange n).dropWhile fun j => decide (j ≠ i)) =
        i :: ((List.finRange n).dropWhile fun j => decide (j ≠ i)).tail := by
      have hne : ((List.finRange n).dropWhile fun j => decide (j ≠ i)) ≠ [] := fun h => by
        simpa using List.dropWhile_eq_nil_iff.mp h i (List.mem_finRange i)
      have hhead := List.head_dropWhile_not (fun j => decide (j ≠ i)) hne
      simp only [decide_eq_false_iff_not, not_not] at hhead
      exact (List.cons_head_tail hne).symm.trans (by rw [hhead])
    conv_lhs => rw [← List.takeWhile_append_dropWhile (p := fun j => decide (j ≠ i)) (l := List.finRange n)]
    rw [← hcons]
  have hnodup := List.nodup_finRange n
  rw [hsplit] at hnodup ⊢
  have hback : i ∉ ((List.finRange n).dropWhile fun j => decide (j ≠ i)).tail :=
    (List.nodup_cons.mp (List.nodup_append.mp hnodup).2.1).1
  rw [List.filterMap_append, Claims.offered_append, List.filterMap_cons, howed, Claims.offered_cons]
  refine Claims.offered_keeps ?_ fun x hx => ?_
  · rw [show Claims.offered queue (List.filterMap owed ((List.finRange n).takeWhile fun j => decide (j ≠ i))) =
      waitingAt owed queue (List.finRange n) i from rfl, htaken]
    exact enqueue_takes htaken
  · obtain ⟨j, hj, hx⟩ := List.mem_filterMap.mp hx
    exact hlater j x (fun e => hback (e ▸ hj)) hx

/-- A frame that finds no room at its turn leaves a queue that is full at the end. -/
theorem offered_full {n : Nat} {owed : Fin n → Option Queued} {queue : List Queued} {i : Fin n} {frame : Queued}
    (hlost : enqueue (waitingAt owed queue (List.finRange n) i) frame = none) :
    queueSize ≤ (Claims.offered queue ((List.finRange n).filterMap owed)).length := by
  have hsplit := List.takeWhile_append_dropWhile (p := fun j => decide (j ≠ i)) (l := List.finRange n)
  conv_rhs => rw [← hsplit, List.filterMap_append, Claims.offered_append]
  exact (enqueue_full hlost).trans (Claims.offered_length_le _ _)

end Sys2Proof.Machine
end

section
/-! The canopy publication: K and caps, release marks, and the LIMIT that each string is owed (O53). -/

namespace Sys2Proof.Machine

/-! ### The LIMIT of one string -/

section
variable (s : State) (j : StringNo)

/-- The power of the LIMIT that a string is sent at its turn: its cap where R101 asks for it, else its rating where it is marked. -/
def State.powerDue : Option Nat :=
  let x := s.cc.strings[j]
  let capOwed := if 0 < s.cc.amount ∧ s.cc.table.strings[j].enabled = true ∧ x.cap ≠ x.sent.map (·.cap) then x.cap else none
  if s.stringEntry j = none then none
  else if capOwed ≠ none then capOwed
  else if x.release then some s.cc.table.strings[j].rating
  else none

/-- The LIMIT that a string is sent at its turn. -/
def State.limitDue : Option Queued :=
  match s.powerDue j, s.stringEntry j with
  | some power, some (_, e) => some ⟨⟨e.address, s.own, kindLimit, limitPayload power⟩, .limit⟩
  | _, _ => none

/-- A string after a LIMIT of the given power was taken for it. -/
def StringState.capSent (x : StringState) (power : Nat) (now : Uptime) : StringState :=
  { x with sent := some ⟨power, now⟩, release := false }

variable {s j}

theorem sendString_of_due {power : Nat} {pos : Position} {e : Station} (hdue : s.powerDue j = some power)
    (hentry : s.stringEntry j = some (pos, e)) : s.sendString j = s.sendCap j e.address power := by
  unfold State.powerDue at hdue
  unfold State.sendString
  rw [hentry] at hdue ⊢
  simp only [reduceCtorEq, if_false] at hdue
  simp only
  by_cases hon : 0 < s.cc.amount ∧ s.cc.table.strings[j].enabled = true
  · rw [if_pos hon]
    cases hcap : s.cc.strings[j].cap with
    | none =>
      simp only [hcap, ite_self, ne_eq, not_true_eq_false, if_false, Option.ite_none_right_eq_some, Option.some.injEq] at hdue
      simp only [hdue.1, if_true, hdue.2]
    | some cap =>
      rw [hcap] at hdue
      by_cases hsent : s.cc.strings[j].sent.map (·.cap) = some cap
      · simp only [hsent, ne_eq, not_true_eq_false, and_false, if_false, Option.ite_none_right_eq_some, Option.some.injEq] at hdue
        simp only [hsent, ne_eq, not_true_eq_false, if_false, hdue.1, if_true, hdue.2]
      · have hnew : some cap ≠ s.cc.strings[j].sent.map (·.cap) := fun e => hsent e.symm
        rw [if_pos (show 0 < s.cc.amount ∧ s.cc.table.strings[j].enabled = true ∧ _ from ⟨hon.1, hon.2, hnew⟩),
          if_pos (Option.some_ne_none cap)] at hdue
        cases hdue
        simp only [ne_eq, hsent, not_false_eq_true, if_true]
  · have hoff : ¬(0 < s.cc.amount ∧ s.cc.table.strings[j].enabled = true ∧
        s.cc.strings[j].cap ≠ s.cc.strings[j].sent.map (·.cap)) := fun h => hon ⟨h.1, h.2.1⟩
    rw [if_neg hoff] at hdue
    simp only [ne_eq, not_true_eq_false, if_false, Option.ite_none_right_eq_some, Option.some.injEq] at hdue
    simp only [if_neg hon, hdue.1, if_true, hdue.2]

theorem sendString_of_none (hdue : s.powerDue j = none) : s.sendString j = s := by
  unfold State.powerDue at hdue
  unfold State.sendString
  cases hentry : s.stringEntry j with
  | none => rfl
  | some entry =>
    rw [hentry] at hdue
    simp only [reduceCtorEq, if_false] at hdue
    have hcap : (if 0 < s.cc.amount ∧ s.cc.table.strings[j].enabled = true ∧
        s.cc.strings[j].cap ≠ s.cc.strings[j].sent.map (·.cap) then s.cc.strings[j].cap else none) = none := by
      by_contra hne
      rw [if_pos hne] at hdue
      exact hne hdue
    have hrelease : ¬s.cc.strings[j].release = true := fun h => by
      rw [hcap, if_neg (not_not.mpr rfl), if_pos h] at hdue
      cases hdue
    simp only
    split
    · rename_i cap howed
      have hon := (Option.ite_none_right_eq_some.mp howed).1
      have hx : s.cc.strings[j].cap = some cap := (Option.ite_none_right_eq_some.mp howed).2
      have hsent : s.cc.strings[j].sent.map (·.cap) = some cap := by
        by_contra hne
        rw [if_pos ⟨hon.1, hon.2, fun e => hne (e ▸ hx)⟩, hx] at hcap
        cases hcap
      rw [if_neg (not_not.mpr hsent), if_neg hrelease]
    · rw [if_neg hrelease]

/-- A string's turn at the Down queue. -/
theorem sendString_offers (s : State) (j : StringNo) :
    OffersDown (s.limitDue j) (fun w (i : StringNo) => w.cc.strings[i])
      (s.cc.strings[j].capSent ((s.powerDue j).getD 0) s.now) j s (s.sendString j) := by
  cases hdue : s.powerDue j with
  | none =>
    have hnone : s.limitDue j = none := by rw [State.limitDue, hdue]
    rw [sendString_of_none hdue, hnone]
    exact OffersDown.of_none _ _ j s
  | some power =>
    cases hentry : s.stringEntry j with
    | none => simp [State.powerDue, hentry] at hdue
    | some entry =>
      obtain ⟨pos, e⟩ := entry
      have hlimit : s.limitDue j = some ⟨s.ownFrame e.address kindLimit (limitPayload power), .limit⟩ := by
        rw [State.limitDue, hdue, hentry]
        rfl
      rw [sendString_of_due hdue hentry, hlimit]
      unfold State.sendCap
      dsimp only
      refine OffersDown.of_offer ?_ ?_ fun i hij => ?_
      · split <;> rfl
      · split
        · simp [StringState.capSent]
        · simp
      · have hne : (j : Nat) ≠ i := fun e => hij (Fin.ext e.symm)
        split
        · simp [Vector.getElem_set_ne, hne]
        · simp

end

/-! ### The turns of all strings -/

/-- What the LIMIT of a string rests on, besides the string's own part, and its turn leaves. -/
structure SameForLimits (s t : State) : Prop where
  amount : t.cc.amount = s.cc.amount
  table : t.cc.table = s.cc.table
  stations : t.fs.stations = s.fs.stations
  site : t.mr.site = s.mr.site
  uptime : t.mu.uptime = s.mu.uptime

theorem sameForLimits_sendString (s : State) (j : StringNo) : SameForLimits s (s.sendString j) := by
  have hframe := s.sendString_frame j
  exact ⟨(hframe .curtailment (by simp)).1, hframe .canopyTable (by simp),
    Vector.ext fun i hi => hframe (.station ⟨i, hi⟩) (by simp), hframe .site (by simp), hframe .uptime (by simp)⟩

theorem SameForLimits.trans {s t u : State} (h : SameForLimits s t) (h' : SameForLimits t u) : SameForLimits s u :=
  ⟨h'.amount.trans h.amount, h'.table.trans h.table, h'.stations.trans h.stations, h'.site.trans h.site, h'.uptime.trans h.uptime⟩

theorem stringEntry_of_stations {s t : State} (h : t.fs.stations = s.fs.stations) (j : StringNo) :
    t.stringEntry j = s.stringEntry j := by
  unfold State.stringEntry State.stationFor State.findStation
  rw [h]

theorem SameForLimits.stringEntry {s t : State} (h : SameForLimits s t) (j : StringNo) : t.stringEntry j = s.stringEntry j :=
  stringEntry_of_stations h.stations j

theorem SameForLimits.powerDue {s t : State} (h : SameForLimits s t) {j : StringNo}
    (hstring : t.cc.strings[j] = s.cc.strings[j]) : t.powerDue j = s.powerDue j := by
  unfold State.powerDue
  rw [hstring, h.amount, h.table, h.stringEntry]

theorem SameForLimits.limitDue {s t : State} (h : SameForLimits s t) {j : StringNo}
    (hstring : t.cc.strings[j] = s.cc.strings[j]) : t.limitDue j = s.limitDue j := by
  unfold State.limitDue State.own
  rw [h.powerDue hstring, h.stringEntry, h.site]

/-- The turns of all strings, from the state in which K, caps and marks are decided. -/
theorem sendStrings_turns (s : State) :
    let t := (List.finRange 8).foldl State.sendString s
    let lost := (lostAt s.limitDue s.li.down.queue (List.finRange 8)).length
    t.li.down.queue = Claims.offered s.li.down.queue ((List.finRange 8).filterMap s.limitDue) ∧
      t.li.down.counters.drop = (if lost = 0 then s.li.down.counters.drop else min 65535 (s.li.down.counters.drop + lost)) ∧
      (∀ j : StringNo, t.cc.strings[j] =
        if (s.limitDue j).any fun frame => (enqueue (waitingAt s.limitDue s.li.down.queue (List.finRange 8) j) frame).isSome then
          s.cc.strings[j].capSent ((s.powerDue j).getD 0) s.now
        else s.cc.strings[j]) ∧ SameForLimits s t := by
  have hturns := offers_in_turn (l := List.finRange 8) (f := State.sendString) (owed := s.limitDue)
    (mark := fun w (j : StringNo) => w.cc.strings[j]) (first := fun j => s.cc.strings[j])
    (taken := fun j => s.cc.strings[j].capSent ((s.powerDue j).getD 0) s.now) (Inv := SameForLimits s)
    (fun w j hw hj => ?_) (List.nodup_finRange 8) (s := s) ⟨rfl, rfl, rfl, rfl, rfl⟩ fun _ _ => rfl
  · obtain ⟨hqueue, hdrop, hmarks, -, hsame⟩ := hturns
    exact ⟨hqueue, hdrop, fun j => hmarks j (List.mem_finRange j), hsame⟩
  · have hturn := sendString_offers w j
    have hstring : w.cc.strings[j] = s.cc.strings[j] := hj
    have hnow : w.now = s.now := hw.uptime
    rw [hw.limitDue hstring, hw.powerDue hstring, hstring, hnow] at hturn
    exact ⟨hturn, hw.trans (sameForLimits_sendString w j)⟩

/-! ### The publication -/

section
variable (s : State) (p : CanopyPass)

/-- K, caps and release marks as a publication decides them, before any LIMIT is sent. -/
def State.canopyDecided : State :=
  ((s.publishCaps p).raiseIf (s.cc.amount == 0 && (s.publishCaps p).cc.amount != 0) .curtailActive).markReleases
    (s.cc.amount != 0 && (s.publishCaps p).cc.amount == 0) fun j => p.enabled[j]

theorem publishCanopy_eq : s.publishCanopy p =
    { (List.finRange 8).foldl State.sendString (s.canopyDecided p) with
      cc.timer := Countdown.load ((List.finRange 8).foldl State.sendString (s.canopyDecided p)).cc.table.period } := by
  have hamount (c : Bool) : ((s.publishCaps p).raiseIf c .curtailActive).cc.amount = (s.publishCaps p).cc.amount := by
    rw [State.raiseIf_cc]
  unfold State.publishCanopy State.canopyDecided
  dsimp only
  rw [hamount]

theorem canopyDecided_amount : (s.canopyDecided p).cc.amount =
    if s.cc.table.enabled then min p.amount (ratingSum s.cc.table s.cc.table.on) else 0 := by
  simp [State.canopyDecided, State.markReleases, State.publishCaps]

theorem canopyDecided_formed : ((s.canopyDecided p).cc.target, (s.canopyDecided p).cc.common) =
    p.formed.getD (s.cc.target, s.cc.common) := by
  simp [State.canopyDecided, State.markReleases, State.publishCaps]

theorem canopyDecided_cap (j : StringNo) : (s.canopyDecided p).cc.strings[j].cap =
    if (s.canopyDecided p).cc.amount = 0 ∨ s.cc.table.strings[j].enabled = false then none else p.caps[j] := by
  rw [canopyDecided_amount, State.canopyDecided, markReleases_cap]
  simp [State.publishCaps, CanopyTable.on]

theorem canopyDecided_sent (j : StringNo) : (s.canopyDecided p).cc.strings[j].sent = s.cc.strings[j].sent := by
  rw [State.canopyDecided, markReleases_sent]
  simp [State.publishCaps]

theorem canopyDecided_table : (s.canopyDecided p).cc.table = s.cc.table := by
  simp [State.canopyDecided, State.markReleases, State.publishCaps]

theorem canopyDecided_entry (j : StringNo) : (s.canopyDecided p).stringEntry j = s.stringEntry j := by
  refine stringEntry_of_stations ?_ j
  simp [State.canopyDecided, State.markReleases, State.publishCaps]

theorem canopyDecided_release {t : State} (hamount : t.cc.amount = (s.canopyDecided p).cc.amount) (j : StringNo) :
    (s.canopyDecided p).cc.strings[j].release = Claims.marked s t p j := by
  have hcaps : (s.publishCaps p).cc.amount = t.cc.amount := by
    rw [hamount, canopyDecided_amount]
    rfl
  have hentry (c : Bool) : ((s.publishCaps p).raiseIf c .curtailActive).stringEntry j = s.stringEntry j :=
    stringEntry_of_stations (by rw [State.raiseIf_fs]; rfl) j
  have hstring (c : Bool) : ((s.publishCaps p).raiseIf c .curtailActive).cc.strings[j] =
      { s.cc.strings[j] with
        cap := if t.cc.amount = 0 ∨ s.cc.table.on j = false then none else p.caps[j] } := by
    rw [State.raiseIf_cc, ← hcaps]
    simp [State.publishCaps]
  have htable : (s.publishCaps p).cc.table = s.cc.table := rfl
  have hsent : (∃ last, s.cc.strings[j].sent = some last ∧ last.cap ≠ s.cc.table.strings[j].rating) ↔
      s.cc.strings[j].sent.map (·.cap) ≠ none ∧ s.cc.strings[j].sent.map (·.cap) ≠ some s.cc.table.strings[j].rating := by
    cases s.cc.strings[j].sent <;> simp
  rw [Bool.eq_iff_iff, State.canopyDecided, markReleases_release, hentry, hstring, State.raiseIf_cc, htable, hcaps]
  simp only [Claims.marked, Bool.or_eq_true, decide_eq_true_eq, Bool.and_eq_true, bne_iff_ne, beq_iff_eq, Nat.pos_iff_ne_zero,
    and_assoc, or_assoc, hsent]

theorem canopyDecided_li : (s.canopyDecided p).li = s.li := by
  rw [State.canopyDecided]
  exact State.raiseIf_li _ _ _

theorem canopyDecided_site : (s.canopyDecided p).mr.site = s.mr.site := by
  rw [State.canopyDecided]
  exact State.raiseIf_mr_site _ _ _

theorem canopyDecided_mu : (s.canopyDecided p).mu = s.mu := by
  rw [State.canopyDecided]
  exact State.raiseIf_mu _ _ _

theorem canopyDecided_active (h : s.cc.amount = 0) (hamount : 0 < (s.canopyDecided p).cc.amount) :
    (s.canopyDecided p).isPending .curtailActive = true := by
  have hcaps : (s.publishCaps p).cc.amount = (s.canopyDecided p).cc.amount := by
    rw [canopyDecided_amount]
    rfl
  have hraised : (s.canopyDecided p).isPending .curtailActive =
      ((s.publishCaps p).raiseIf (s.cc.amount == 0 && (s.publishCaps p).cc.amount != 0) .curtailActive).isPending .curtailActive := rfl
  rw [hraised, State.raiseIf_isPending, hcaps]
  simp [h, Nat.pos_iff_ne_zero.mp hamount]

/-- What each string is owed in the end is what it was sent at its turn. -/
theorem canopyDecided_powerDue {t : State} (hamount : t.cc.amount = (s.canopyDecided p).cc.amount) {j : StringNo}
    (hcap : t.cc.strings[j].cap = (s.canopyDecided p).cc.strings[j].cap) :
    (s.canopyDecided p).powerDue j = Claims.powerOwed s t p j := by
  unfold State.powerDue Claims.powerOwed
  dsimp only
  rw [canopyDecided_entry, canopyDecided_sent, canopyDecided_table, canopyDecided_release s p hamount, hamount, hcap]

theorem canopyDecided_limitDue {t : State} (hamount : t.cc.amount = (s.canopyDecided p).cc.amount) {j : StringNo}
    (hcap : t.cc.strings[j].cap = (s.canopyDecided p).cc.strings[j].cap) :
    (s.canopyDecided p).limitDue j = Claims.limitOwed s t p j := by
  unfold State.limitDue Claims.limitOwed State.own
  rw [canopyDecided_powerDue s p hamount hcap, canopyDecided_entry, canopyDecided_site] <;> rfl

end

/-- What a canopy publication leaves. -/
structure CanopyPublished (s : State) (p : CanopyPass) (t : State) : Prop where
  pass : t.cc.pass = none
  timer : t.cc.timer.left = s.cc.table.period
  amount : t.cc.amount = if s.cc.table.enabled then min p.amount (ratingSum s.cc.table s.cc.table.on) else 0
  cap (j : StringNo) : t.cc.strings[j].cap =
    if t.cc.amount = 0 ∨ s.cc.table.strings[j].enabled = false then none else p.caps[j]
  formed : (t.cc.target, t.cc.common) = p.formed.getD (s.cc.target, s.cc.common)
  active : s.cc.amount = 0 → 0 < t.cc.amount → t.isPending .curtailActive = true
  queue : t.li.down.queue = Claims.offered s.li.down.queue ((List.finRange 8).filterMap (Claims.limitOwed s t p))
  drop : t.li.down.counters.drop =
    if (lostAt (Claims.limitOwed s t p) s.li.down.queue (List.finRange 8)).length = 0 then s.li.down.counters.drop
    else min 65535 (s.li.down.counters.drop + (lostAt (Claims.limitOwed s t p) s.li.down.queue (List.finRange 8)).length)
  sent (j : StringNo) :
    if (Claims.limitOwed s t p j).any fun frame =>
        (enqueue (waitingAt (Claims.limitOwed s t p) s.li.down.queue (List.finRange 8) j) frame).isSome then
      t.cc.strings[j].sent = some ⟨(Claims.powerOwed s t p j).getD 0, s.mu.uptime⟩ ∧ t.cc.strings[j].release = false
    else t.cc.strings[j].sent = s.cc.strings[j].sent ∧ t.cc.strings[j].release = Claims.marked s t p j
  frame : s.changesOnly t
    ({.curtailment, .canopyTimer, .canopyPass, .queue .down, .drops .down} ∪ Set.range Part.string ∪ raisedParts)

theorem sendStrings_keeps {P : State → Prop} {s : State} (h : ∀ w j, P w → P (w.sendString j)) (hs : P s) :
    P ((List.finRange 8).foldl State.sendString s) := foldl_keeps h _ hs

theorem publishCanopy_pass (s : State) (p : CanopyPass) : (s.publishCanopy p).cc.pass = none := by
  have hdecided : (s.canopyDecided p).cc.pass = none := by
    simp [State.canopyDecided, State.markReleases, State.publishCaps]
  have hsent := sendStrings_keeps (P := fun w => w.cc.pass = none)
    (fun w j hw => (w.sendString_frame j .canopyPass (by simp)).trans hw) hdecided
  rw [publishCanopy_eq]
  generalize (List.finRange 8).foldl State.sendString (s.canopyDecided p) = sent at hsent
  exact hsent

theorem publishCanopy_formed (s : State) (p : CanopyPass) :
    ((s.publishCanopy p).cc.target, (s.publishCanopy p).cc.common) = p.formed.getD (s.cc.target, s.cc.common) := by
  have hsent := sendStrings_keeps
    (P := fun w => (w.cc.target, w.cc.common) = p.formed.getD (s.cc.target, s.cc.common))
    (fun w j hw => by
      obtain ⟨-, htarget, hcommon⟩ := w.sendString_frame j .curtailment (by simp)
      rw [htarget, hcommon]
      exact hw) (canopyDecided_formed s p)
  rw [publishCanopy_eq]
  generalize (List.finRange 8).foldl State.sendString (s.canopyDecided p) = sent at hsent
  exact hsent

theorem publishCanopy_active (s : State) (p : CanopyPass) (h : s.cc.amount = 0) (hamount : 0 < (s.canopyDecided p).cc.amount) :
    (s.publishCanopy p).isPending .curtailActive = true := by
  have hsent := sendStrings_keeps (P := fun w => w.isPending .curtailActive = true)
    (fun w j hw => (State.isPending_of_events (w.sendString_frame j .events (by simp)) _).trans hw)
    (canopyDecided_active s p h hamount)
  rw [publishCanopy_eq]
  generalize (List.finRange 8).foldl State.sendString (s.canopyDecided p) = sent at hsent
  exact hsent

/-- A publication of the pass in flight, as its event leaves it. -/
theorem exec_canopyPublication {s : State} {p : CanopyPass} (hp : s.powered = true) (hpass : s.cc.pass = some p) :
    ∃ t, exec .canopyPublication s = .next t ∧ CanopyPublished s p t := by
  obtain ⟨hqueue, hdrop, hstrings, hsame⟩ := sendStrings_turns (s.canopyDecided p)
  have heq := publishCanopy_eq s p
  generalize (List.finRange 8).foldl State.sendString (s.canopyDecided p) = sent at hqueue hdrop hstrings hsame heq
  have hwork : (match s.cc.pass with | some p => s.publishCanopy p | none => s) = s.publishCanopy p := by rw [hpass]
  have hexec := exec_powered (c := .canopyPublication) (s := s) rfl hp
  have hafter := inEvent_after (fun t => match t.cc.pass with | some p => t.publishCanopy p | none => t) s
  have hcc : (inEvent (fun t => match t.cc.pass with | some p => t.publishCanopy p | none => t) s).cc =
      (s.publishCanopy p).cc := by rw [inEvent_cc, hwork]
  have hdown : (inEvent (fun t => match t.cc.pass with | some p => t.publishCanopy p | none => t) s).li.down =
      (s.publishCanopy p).li.down := by rw [inEvent_li_down, hwork]
  have hpending := inEvent_isPending (fun t => match t.cc.pass with | some p => t.publishCanopy p | none => t) s .curtailActive
  rw [hwork] at hafter hpending
  generalize inEvent _ s = t at hexec hafter hcc hdown hpending
  have hpassed : t.cc.pass = none := by rw [hcc, publishCanopy_pass]
  have hformed : (t.cc.target, t.cc.common) = p.formed.getD (s.cc.target, s.cc.common) := by rw [hcc, publishCanopy_formed]
  have hframe := State.changesOnly_trans (s.publishCanopy_frame p) hafter
  rw [heq] at hcc hdown
  have hamount : t.cc.amount = (s.canopyDecided p).cc.amount := by rw [hcc]; exact hsame.amount
  have hstring (j : StringNo) : t.cc.strings[j] = sent.cc.strings[j] := by rw [hcc]
  have hcap (j : StringNo) : t.cc.strings[j].cap = (s.canopyDecided p).cc.strings[j].cap := by
    rw [hstring, hstrings]
    split <;> rfl
  have hlimit : (s.canopyDecided p).limitDue = Claims.limitOwed s t p := funext fun j =>
    canopyDecided_limitDue s p hamount (hcap j)
  have hnow : (s.canopyDecided p).now = s.mu.uptime := congrArg (·.uptime) (canopyDecided_mu s p)
  simp only [canopyDecided_li, hlimit] at hqueue hdrop hstrings
  refine ⟨t, hexec, hpassed, ?_, hamount.trans (canopyDecided_amount s p), fun j => ?_, hformed, fun h hpos => ?_, ?_, ?_,
    fun j => ?_, ?_⟩
  · rw [hcc, show sent.cc.table = s.cc.table from hsame.table.trans (canopyDecided_table s p)]
    rfl
  · rw [hcap, canopyDecided_cap, hamount]
  · rw [hpending]
    exact publishCanopy_active s p h (hamount ▸ hpos)
  · rw [hdown]
    exact hqueue
  · rw [hdown]
    exact hdrop
  · rw [hstring, hstrings, canopyDecided_powerDue s p hamount (hcap j), hnow]
    split
    · exact ⟨rfl, rfl⟩
    · exact ⟨canopyDecided_sent s p j, canopyDecided_release s p hamount j⟩
  · refine State.changesOnly_mono hframe fun part hpart => ?_
    simp only [canopyParts, raisedParts, Set.mem_union, Set.mem_insert_iff, Set.mem_singleton_iff] at hpart ⊢
    tauto

section
variable {s t : State} {p : CanopyPass} {j : StringNo}

theorem limitOwed_eq {power : Nat} {pos : Position} {e : Station} (hentry : s.stringEntry j = some (pos, e))
    (hpower : Claims.powerOwed s t p j = some power) :
    Claims.limitOwed s t p j = some ⟨⟨e.address, s.own, kindLimit, limitPayload power⟩, .limit⟩ := by
  rw [Claims.limitOwed, hpower, hentry]

/-- A LIMIT is owed to the address of the string's entry. -/
theorem limitOwed_dest {frame : Queued} (h : Claims.limitOwed s t p j = some frame) :
    ∃ pos e, s.stringEntry j = some (pos, e) ∧ frame.frame.dest = e.address := by
  cases hpower : Claims.powerOwed s t p j with
  | none => simp [Claims.limitOwed, hpower] at h
  | some power =>
    cases hentry : s.stringEntry j with
    | none => simp [Claims.limitOwed, hpower, hentry] at h
    | some entry =>
      rw [limitOwed_eq hentry hpower] at h
      cases h
      exact ⟨entry.1, entry.2, rfl, rfl⟩

theorem limitOwed_none (hs : s.cc.amount = 0) (ht : t.cc.amount = 0) (hrelease : s.cc.strings[j].release = false)
    (hon : p.enabled[j] = true → s.cc.table.strings[j].enabled = true) : Claims.limitOwed s t p j = none := by
  have hmarked : Claims.marked s t p j = false := by
    have hdisabled : ¬(p.enabled[j] = true ∧ s.cc.table.strings[j].enabled = false) := fun ⟨hwas, hoff⟩ => by
      rw [hon hwas] at hoff
      cases hoff
    simp only [Claims.marked, hrelease, hs, Nat.lt_irrefl, false_and, decide_false, Bool.false_or, decide_eq_false_iff_not]
    exact fun ⟨hwas, hoff, _⟩ => hdisabled ⟨hwas, hoff⟩
  have hpower : Claims.powerOwed s t p j = none := by
    simp [Claims.powerOwed, ht, hmarked]
  rw [Claims.limitOwed, hpower]

end

/-- Settles O53. -/
theorem canopyIsPublished : Obligations.CanopyIsPublished := by
  unfold Obligations.CanopyIsPublished
  intro s p hp hpass table ratings
  obtain ⟨t, hexec, h⟩ := exec_canopyPublication hp hpass
  have hbefore (j : StringNo) := waitingAt_finRange (Claims.limitOwed s t p) s.li.down.queue j
  refine ⟨t, hexec, h.pass, h.timer, h.amount, h.cap, h.formed, h.active, fun j pos e power hentry hpower hdistinct => ?_,
    ⟨h.queue, fun j => ?_, ?_⟩, fun ht hs hrelease hon => ?_, h.frame⟩
  · have howed := limitOwed_eq hentry hpower
    have hsent := h.sent j
    rw [howed, hpower] at hsent
    rw [h.queue]
    cases htaken : enqueue (waitingAt (Claims.limitOwed s t p) s.li.down.queue (List.finRange 8) j)
        ⟨⟨e.address, s.own, kindLimit, limitPayload power⟩, .limit⟩ with
    | none =>
      rw [if_neg (by simp [htaken])] at hsent
      exact .inr ⟨offered_full htaken, hsent.1⟩
    | some taken =>
      rw [if_pos (by simp [htaken])] at hsent
      refine .inl ⟨offered_stays howed (by rw [htaken]; rfl) fun i x hij hx => ?_, hsent.1, hsent.2⟩
      obtain ⟨place, other, hother, hdest⟩ := limitOwed_dest hx
      have hne : e.address ≠ x.frame.dest := fun he => hij (hdistinct i place other hother (by rw [he, hdest]))
      refine Bool.eq_false_iff.mpr fun hr => ?_
      rcases (replaces_iff _ _).mp hr with ⟨b, -, hb⟩ | ⟨-, -, hb⟩
      · cases hb
      · exact hne hb
  · have hsent := h.sent j
    rw [hbefore] at hsent
    dsimp only
    split
    · rename_i htaken
      rw [if_pos htaken] at hsent
      refine ⟨?_, hsent.2⟩
      rw [hsent.1]
      cases hpower : Claims.powerOwed s t p j with
      | none => simp [Claims.limitOwed, hpower] at htaken
      | some power => rfl
    · rename_i htaken
      rw [if_neg htaken] at hsent
      exact hsent
  · have hdrop := h.drop
    simp only [lostAt, hbefore] at hdrop
    exact hdrop
  · rw [h.queue, List.filterMap_eq_nil_iff.mpr fun j _ => limitOwed_none hs ht (hrelease j) (hon j)]
    rfl

end Sys2Proof.Machine
end

section
/-! The GRANTs of a publication, bay by bay (R67, R68). -/

namespace Sys2Proof.Machine

/-! ### The GRANT of one bay -/

section
variable (p : AllocPass) (s : State) (b : BayNo)

/-- The GRANT that a bay is sent at its turn. -/
def State.grantDueFrame : Option Queued :=
  match p.lines[b].charger.bind (s.grantAddress b) with
  | some address =>
    if grantDue (s.bay b).alloc s.now p.grantRefresh then
      some ⟨s.ownFrame address kindGrant (s.grantPayload b (s.bay b).alloc.grant (s.bay b).alloc.outcome), .grant b⟩
    else none
  | none => none

/-- The allocation part of a bay whose GRANT was taken (R68). -/
def Alloc.grantSent (a : Alloc) (now : Uptime) : Alloc := { a with sent := some ⟨a.grant, a.outcome, now⟩ }

/-- A bay's turn at the Down queue. -/
theorem sendGrant_offers :
    OffersDown (s.grantDueFrame p b) (fun w (c : BayNo) => (w.bay c).alloc) ((s.bay b).alloc.grantSent s.now) b s
      (State.sendGrant p s b) := by
  have hbay (w : State) (q : Queued) (c : BayNo) : ((w.offer .down q).1.bay c) = w.bay c := by simp [State.bay]
  unfold State.grantDueFrame State.sendGrant
  dsimp only
  cases p.lines[b].charger.bind (s.grantAddress b) with
  | none => exact OffersDown.of_none _ _ b s
  | some address =>
    dsimp only
    cases grantDue (s.bay b).alloc s.now p.grantRefresh with
    | false => exact OffersDown.of_none _ _ b s
    | true =>
      simp only [if_true]
      refine OffersDown.of_offer ?_ ?_ fun c hc => ?_
      · split <;> rfl
      · split
        · simp [State.modAlloc, hbay, Alloc.grantSent]
        · rw [hbay]
      · split
        · rw [State.modAlloc, State.setBay_other _ _ hc, hbay]
        · rw [hbay]

end

/-! ### The turns of all bays -/

/-- What the GRANT of a bay rests on, besides the bay's allocation part, and its turn leaves. -/
structure SameForGrants (s t : State) : Prop where
  stations : t.fs.stations = s.fs.stations
  site : t.mr.site = s.mr.site
  uptime : t.mu.uptime = s.mu.uptime
  balance : t.ae.balance = s.ae.balance
  session (b : BayNo) : (t.bay b).session = (s.bay b).session

theorem chargerOf_of_stations {s t : State} (h : t.fs.stations = s.fs.stations) (b : BayNo) : t.chargerOf b = s.chargerOf b := by
  unfold State.chargerOf State.stationFor State.findStation
  rw [h]

theorem grantAddress_of_stations {s t : State} (h : t.fs.stations = s.fs.stations) (b : BayNo) (pos : Position) :
    t.grantAddress b pos = s.grantAddress b pos := by
  unfold State.grantAddress
  rw [h, chargerOf_of_stations h]

section
variable {p : AllocPass} {s t : State} {b : BayNo}

theorem SameForGrants.of_sendGrant (h : SameForGrants s t) (b : BayNo) : SameForGrants s (State.sendGrant p t b) := by
  have hframe := t.sendGrant_frame p b
  refine ⟨?_, (hframe .site (by simp)).trans h.site, (hframe .uptime (by simp)).trans h.uptime,
    (hframe .balance (by simp)).trans h.balance, fun c => (hframe (.session c) (by simp)).trans (h.session c)⟩
  rw [← h.stations]
  exact Vector.ext fun i hi => hframe (.station ⟨i, hi⟩) (by simp)

theorem SameForGrants.grantDueFrame (h : SameForGrants s t) (halloc : (t.bay b).alloc = (s.bay b).alloc) :
    t.grantDueFrame p b = s.grantDueFrame p b := by
  have haddress : t.grantAddress b = s.grantAddress b := funext fun pos => grantAddress_of_stations h.stations b pos
  unfold State.grantDueFrame State.ownFrame State.own State.grantPayload State.now
  rw [halloc, haddress, h.site, h.uptime, h.balance, h.session]

end

/-- The turns of all bays, from the state that holds the grant table just published. -/
theorem publishGrants_turns (p : AllocPass) (s : State) :
    let t := s.publishGrants p
    let lost := (lostAt (s.grantDueFrame p) s.li.down.queue (List.finRange 32)).length
    t.li.down.queue = Claims.offered s.li.down.queue ((List.finRange 32).filterMap (s.grantDueFrame p)) ∧
      t.li.down.counters.drop = (if lost = 0 then s.li.down.counters.drop else min 65535 (s.li.down.counters.drop + lost)) ∧
      (∀ b : BayNo, (t.bay b).alloc =
        if (s.grantDueFrame p b).any fun frame =>
            (enqueue (waitingAt (s.grantDueFrame p) s.li.down.queue (List.finRange 32) b) frame).isSome then
          (s.bay b).alloc.grantSent s.now
        else (s.bay b).alloc) ∧ SameForGrants s t := by
  have hturns := offers_in_turn (l := List.finRange 32) (f := State.sendGrant p) (owed := s.grantDueFrame p)
    (mark := fun w (b : BayNo) => (w.bay b).alloc) (first := fun b => (s.bay b).alloc)
    (taken := fun b => (s.bay b).alloc.grantSent s.now) (Inv := SameForGrants s)
    (fun w b hw hb => ?_) (List.nodup_finRange 32) (s := s) ⟨rfl, rfl, rfl, rfl, fun _ => rfl⟩ fun _ _ => rfl
  · obtain ⟨hqueue, hdrop, hmarks, -, hsame⟩ := hturns
    exact ⟨hqueue, hdrop, fun b => hmarks b (List.mem_finRange b), hsame⟩
  · have hturn := sendGrant_offers p w b
    have halloc : (w.bay b).alloc = (s.bay b).alloc := hb
    have hnow : w.now = s.now := hw.uptime
    rw [hw.grantDueFrame halloc, halloc, hnow] at hturn
    exact ⟨hturn, hw.of_sendGrant b⟩

/-! ### The grant table -/

section
variable (s : State) (p : AllocPass)

/-- The grant table, the balance record and the dwell timers of a publication, before any GRANT is sent. -/
def State.tablePublished : State := (s.publishTable p).publishDwells p

theorem tablePublished_frame :
    s.changesOnly (s.tablePublished p) ({.balance, .allocPass} ∪ Set.range .grant ∪ Set.range .dwell) := by
  unfold State.tablePublished State.publishDwells
  exact State.changesOnly_seq (s.publishTable_frame p) (State.setDwells_frame _ _) (by simp) (by simp)

theorem tablePublished_bay (b : BayNo) : (s.tablePublished p).bay b =
    { s.bay b with alloc := (s.bay b).alloc.publish p.restartGuard (s.row p b) } := by
  have hbays : (s.tablePublished p).bays = (s.publishTable p).bays := by
    simp only [State.tablePublished, State.publishDwells]
  rw [← s.publishTable_bay p b, State.bay, State.bay, hbays]

theorem tablePublished_balance : (s.tablePublished p).ae.balance = s.newBalance p := by
  simp only [State.tablePublished, State.publishDwells, State.publishTable]

theorem tablePublished_site : (s.tablePublished p).mr.site = s.mr.site :=
  tablePublished_frame s p .site (by simp)

theorem tablePublished_stations : (s.tablePublished p).fs.stations = s.fs.stations :=
  Vector.ext fun i hi => tablePublished_frame s p (.station ⟨i, hi⟩) (by simp)

theorem tablePublished_dwell (k : ClassNo) : (s.tablePublished p).ae.dwells[k] =
    if ∃ b : BayNo, p.lines[b].cls = k ∧ ((s.tablePublished p).bay b).alloc.outcome = .waitingBudget then
      { s.ae.dwells[k] with running := true }
    else
      { s.ae.dwells[k] with
        running := false
        timer := ⟨if s.mr.site.dwell[k] = 0 then 65536 else s.mr.site.dwell[k], false⟩ } := by
  have hwaits : (s.publishTable p).classWaits p k = true ↔
      ∃ b : BayNo, p.lines[b].cls = k ∧ ((s.tablePublished p).bay b).alloc.outcome = .waitingBudget := by
    simp only [State.classWaits, List.any_eq_true, List.mem_finRange, true_and, Bool.and_eq_true, beq_iff_eq,
      tablePublished_bay, s.publishTable_bay]
  have hdwells : (s.publishTable p).ae.dwells[k] = s.ae.dwells[k] := s.publishTable_frame p (.dwell k) (by simp)
  have hsite : (s.publishTable p).mr.site = s.mr.site := s.publishTable_frame p .site (by simp)
  have hdecided : (s.tablePublished p).ae.dwells[k] = (s.publishTable p).decideDwell p k := by
    simp only [State.tablePublished, State.publishDwells, Fin.getElem_fin, Vector.getElem_ofFn]
  rw [hdecided, State.decideDwell, hdwells, hsite]
  dsimp only
  by_cases hw : (s.publishTable p).classWaits p k = true
  · rw [if_pos hw, if_pos (hwaits.mp hw)]
  · rw [if_neg hw, if_neg fun h => hw (hwaits.mpr h)]
    rfl

/-- Whether a GRANT is due, in the terms of the statement. -/
theorem grantDue_eq (a : Alloc) (now : Uptime) (refresh : Nat) : grantDue a now refresh =
    (match a.sent with
    | none => true
    | some last => decide (last.grant ≠ a.grant ∨ last.outcome ≠ a.outcome ∨ refresh ≤ (now - last.sentAt).toNat)) := by
  unfold grantDue elapsed
  cases a.sent with
  | none => rfl
  | some last =>
    rw [Bool.eq_iff_iff]
    simp [or_assoc]

/-- What each bay is owed in the end is what it was sent at its turn. -/
theorem tablePublished_grantDue {t : State} {b : BayNo} (halloc : ∃ sent, (t.bay b).alloc =
      { ((s.tablePublished p).bay b).alloc with sent := sent })
    (hsession : (t.bay b).session = (s.bay b).session) (hbalance : t.ae.balance = s.newBalance p) :
    (s.tablePublished p).grantDueFrame p b = Claims.grantOwed s t p b := by
  have haddress : (s.tablePublished p).grantAddress b = s.grantAddress b :=
    funext fun pos => grantAddress_of_stations (tablePublished_stations s p) b pos
  obtain ⟨sent, halloc⟩ := halloc
  have hlast : ((s.tablePublished p).bay b).alloc.sent = (s.bay b).alloc.sent := by rw [tablePublished_bay]; rfl
  have hsame : ((s.tablePublished p).bay b).session = (s.bay b).session := by rw [tablePublished_bay]
  have hsite := tablePublished_site s p
  have hnow : (s.tablePublished p).now = s.mu.uptime := tablePublished_frame s p .uptime (by simp)
  unfold State.grantDueFrame Claims.grantOwed State.ownFrame State.own State.grantPayload
  rw [haddress, grantDue_eq, hlast, hsame, hsite, hnow, tablePublished_balance, halloc, hbalance]
  generalize (t.bay b).session = session at hsession ⊢
  subst hsession
  generalize ((s.tablePublished p).bay b).alloc = a
  generalize s.newBalance p = balance
  cases p.lines[b].charger.bind (s.grantAddress b) with
  | none => rfl
  | some address => cases (s.bay b).alloc.sent <;> rfl

end

end Sys2Proof.Machine
end

section
/-! The grant table and the balance record of a publication, and its BD pass, in the terms of the statement (O50). -/

namespace Sys2Proof.Machine

/-! ### The rows of R64 and the guards -/

section
variable {s : State} {p : AllocPass} {b : BayNo}

theorem publishedBasis_frozen (h : p.basis ≠ .settle) :
    s.publishedBasis p = .frozen ↔ p.basis = .frozen ∨ s.siu.freeze = true := by
  unfold State.publishedBasis
  cases hb : p.basis <;> cases s.siu.freeze <;> simp_all

theorem publishedBasis_eq (h : p.basis ≠ .settle) : s.publishedBasis p = if s.siu.freeze then .frozen else p.basis := by
  unfold State.publishedBasis
  cases hb : p.basis <;> simp_all

theorem row_settle (h : p.basis = .settle) : s.row p b = (0, .none) := if_pos h

theorem row_disabled (h : p.basis ≠ .settle) (hstate : (s.bay b).session.state = .disabled) : s.row p b = (0, .disabled) := by
  unfold State.row
  dsimp only
  rw [if_neg h, if_pos hstate]

theorem row_frozen (h : p.basis ≠ .settle) (hstate : (s.bay b).session.state ≠ .disabled)
    (hfrozen : p.basis = .frozen ∨ s.siu.freeze = true) : s.row p b = (0, .frozen) := by
  unfold State.row
  dsimp only
  rw [if_neg h, if_neg hstate, if_pos ((publishedBasis_frozen h).mpr hfrozen)]

theorem row_idle (h : p.basis ≠ .settle) (hstate : (s.bay b).session.state ≠ .disabled)
    (hfrozen : ¬(p.basis = .frozen ∨ s.siu.freeze = true))
    (hidle : p.lines[b].active = false ∨ (s.bay b).session.state ≠ .active) : s.row p b = (0, .none) := by
  unfold State.row
  dsimp only
  rw [if_neg h, if_neg hstate, if_neg fun hf => hfrozen ((publishedBasis_frozen h).mp hf), if_pos hidle]

theorem row_active (h : p.basis ≠ .settle) (hfrozen : ¬(p.basis = .frozen ∨ s.siu.freeze = true))
    (hline : p.lines[b].active = true) (hstate : (s.bay b).session.state = .active) :
    s.row p b = (p.lines[b].grant, p.lines[b].outcome) := by
  unfold State.row
  dsimp only
  rw [if_neg h, if_neg (by rw [hstate]; decide), if_neg fun hf => hfrozen ((publishedBasis_frozen h).mp hf),
    if_neg fun hidle => hidle.elim (fun h => by rw [hline] at h; cases h) fun h => h hstate]

end

theorem Alloc.publish_guard_loaded {a : Alloc} {guard : Nat} {row : Nat × GrantOutcome} (h : row.1 = 0) (hfell : 0 < a.grant) :
    (a.publish guard row).guard = ⟨guard, false⟩ := if_pos ⟨h, hfell⟩

theorem Alloc.publish_guard_kept {a : Alloc} {guard : Nat} {row : Nat × GrantOutcome} (h : 0 < row.1 ∨ a.grant = 0) :
    (a.publish guard row).guard = a.guard := if_neg fun ⟨h0, hfell⟩ => by omega

/-! ### The balance record (R65) -/

section
variable {s : State} {p : AllocPass}

theorem newBalance_settle (h : p.basis = .settle) :
    s.newBalance p = { Balance.zero with number := s.ae.balance.number + 1 } := if_pos h

/-- The figures of the balance record of a pass that is not SETTLE. -/
theorem newBalance_figures (h : p.basis ≠ .settle) (total : Nat) (htotal : s.grantedTotal p = total) :
    let n := s.newBalance p
    n.basis = (if s.siu.freeze then .frozen else p.basis) ∧ n.gridFresh = p.gridFresh ∧ n.shed = p.shed ∧ n.peak = p.peak ∧
      n.target = p.target ∧ n.trim = p.trim ∧ n.shop = p.shop ∧ n.solar = p.solar ∧ n.avail = p.avail ∧ n.offer = p.offer ∧
      n.granted = total ∧ n.budget = p.budget ∧ n.slack = p.budget - total ∧
      n.batteryCall = min p.offer ((total : Int) - p.avail).toNat ∧
      (n.totalSurplus : Int) = max 0 (p.avail - total) ∧
      n.solarSurplus = min n.totalSurplus ((p.solar : Int) - p.shop - total).toNat ∧
      n.solarSurplus + n.gridSurplus = n.totalSurplus ∧ n.unmet = s.unmetDemand p := by
  have hbalance : s.newBalance p =
      { basis := s.publishedBasis p, gridFresh := p.gridFresh, shed := p.shed, peak := p.peak
        target := p.target, trim := p.trim, shop := p.shop, solar := p.solar, avail := p.avail, offer := p.offer
        budget := p.budget, granted := total, slack := p.budget - total
        batteryCall := min p.offer ((total : Int) - p.avail).toNat
        totalSurplus := (p.avail - total).toNat
        solarSurplus := min (p.avail - total).toNat ((p.solar : Int) - p.shop - total).toNat
        gridSurplus := (p.avail - total).toNat - min (p.avail - total).toNat ((p.solar : Int) - p.shop - total).toNat
        unmet := s.unmetDemand p, number := s.ae.balance.number + 1 } := by
    unfold State.newBalance
    dsimp only
    rw [if_neg h, htotal]
  rw [hbalance]
  refine ⟨publishedBasis_eq h, rfl, rfl, rfl, rfl, rfl, rfl, rfl, rfl, rfl, rfl, rfl, rfl, rfl, ?_, rfl, ?_, rfl⟩
  · dsimp only
    rw [Int.toNat_eq_max]
    exact Int.max_comm _ _
  · dsimp only
    omega

theorem newBalance_number : (s.newBalance p).number = s.ae.balance.number + 1 := by
  unfold State.newBalance
  dsimp only
  split <;> rfl

theorem unmetDemand_eq (h : p.basis ≠ .settle) (total : Nat) (htotal : s.grantedTotal p = total) : s.unmetDemand p =
    if (if s.siu.freeze then Basis.frozen else p.basis) = .frozen then 0
    else ((List.finRange 32).map fun b : BayNo =>
      if p.lines[b].candidate = true ∧ (s.bay b).session.state = .active then p.lines[b].maxPower else 0).sum - total := by
  rw [State.unmetDemand, publishedBasis_eq h, htotal]
  simp only [Bool.and_eq_true, beq_iff_eq]

end

/-! ### The BD pass (R83 to R86) -/

section
variable (s : State)

/-- The setpoint that a BD pass sends after its evaluation has left `s`. -/
def State.passSetpoint : Option Int :=
  match s.bd.mode with
  | .manual | .island | .off => none
  | mode =>
    let power := setpoint mode s.bd.offerBc s.ae.balance s.bandInForce.cheap
    if setpointDue s.bd s.now power then some power else none

/-- The LIMIT that a BD pass sends after its evaluation has left `s`. -/
def State.setpointFrame : Option Queued :=
  match s.passSetpoint, s.batteryAddress with
  | some power, some address => some ⟨s.ownFrame address kindLimit (limitPayload power), .limit⟩
  | _, _ => none

theorem batteryPass_eq : s.batteryPass =
    match s.evaluate.passSetpoint with
    | some power => s.evaluate.sendSetpoint power
    | none => s.evaluate := by
  unfold State.batteryPass State.passSetpoint
  dsimp only
  cases s.evaluate.bd.mode with
  | manual | island | off => rfl
  | reserve | shave | full | topUp => dsimp only; split <;> rfl

theorem sendSetpoint_offers (power : Int) {address : Byte} (h : s.batteryAddress = some address) :
    OffersDown (some ⟨s.ownFrame address kindLimit (limitPayload power), .limit⟩) (fun w (_ : Unit) => w.bd.sent)
      (some ⟨power, s.now⟩) () s (s.sendSetpoint power) := by
  unfold State.sendSetpoint
  rw [h]
  refine OffersDown.of_offer ?_ ?_ fun c hc => absurd rfl hc
  · dsimp only
    split <;> rfl
  · dsimp only
    split
    · rfl
    · rw [State.offer_bd]

theorem batteryPass_offers : OffersDown s.evaluate.setpointFrame (fun w (_ : Unit) => w.bd.sent)
    (s.evaluate.passSetpoint.map fun power => ⟨power, s.evaluate.now⟩) () s.evaluate s.batteryPass := by
  rw [batteryPass_eq]
  unfold State.setpointFrame
  cases s.evaluate.passSetpoint with
  | none => exact OffersDown.of_none _ _ () s.evaluate
  | some power =>
    cases haddress : s.evaluate.batteryAddress with
    | none =>
      have hquiet : s.evaluate.sendSetpoint power = s.evaluate := by
        unfold State.sendSetpoint
        rw [haddress]
      dsimp only
      rw [hquiet]
      exact OffersDown.of_none _ _ () s.evaluate
    | some address => exact sendSetpoint_offers s.evaluate power haddress

theorem sendSetpoint_bd (power : Int) : (s.sendSetpoint power).bd = { s.bd with sent := (s.sendSetpoint power).bd.sent } := by
  unfold State.sendSetpoint
  split
  · rfl
  · dsimp only
    split <;> simp

/-- Beside the last setpoint sent, a BD pass leaves BD as its evaluation did. -/
theorem batteryPass_bd : s.batteryPass.bd = { s.evaluate.bd with sent := s.batteryPass.bd.sent } := by
  rw [batteryPass_eq]
  split
  · exact sendSetpoint_bd _ _
  · rfl

theorem batteryPass_isPending (e : Event) : s.batteryPass.isPending e = s.evaluate.isPending e := by
  rw [batteryPass_eq]
  split
  · exact State.isPending_of_events (State.sendSetpoint_frame _ _ .events (by simp)) e
  · rfl

end

/-- A state that an evaluation left, but for a setpoint sent in a mode that forms one. -/
structure SetpointSent (s t : State) : Prop where
  bd : t.bd = { s.bd with sent := t.bd.sent }
  idle : s.bd.mode = .off ∨ s.bd.mode = .island → t.bd.sent = s.bd.sent
  done : t.isPending .topUpDone = s.isPending .topUpDone
  changed : t.isPending .batteryMode = s.isPending .batteryMode

section
variable {s t t' : State} {x : BatteryFigures}

theorem Claims.evaluatedOn.of_sent (h : Claims.evaluatedOn s t x) (ht : SetpointSent t t') : Claims.evaluatedOn s t' x := by
  obtain ⟨hbd, hidle, hdone, hchanged⟩ := ht
  obtain ⟨m, hlast, hmemory, hrow, hmanual, hisland, htop, hflag, hbands, hmode⟩ := h
  generalize t'.bd.sent = sent at hbd hidle
  refine ⟨m, ?_, ?_, hrow, ?_, fun hc hf => ?_, ?_, ?_, ?_, ?_⟩ <;> simp only [hbd, hdone, hchanged]
  · exact hlast
  · exact hmemory
  · exact hmanual
  · obtain ⟨hm, hflag, hoffer, hcharge, hsent⟩ := hisland hc hf
    exact ⟨hm, hflag, hoffer, hcharge, (hidle (.inr hm)).trans hsent⟩
  · exact htop
  · exact hflag
  · exact hbands
  · exact hmode

theorem Claims.evaluatedStale.of_sent (h : Claims.evaluatedStale s t) (ht : SetpointSent t t') : Claims.evaluatedStale s t' := by
  obtain ⟨hbd, hidle, hdone, hchanged⟩ := ht
  obtain ⟨hmemory, hflag, hlast, hmanual, hauto, htop, hmode⟩ := h
  generalize t'.bd.sent = sent at hbd hidle
  refine ⟨?_, ?_, ?_, ?_, fun hc => ?_, ?_, ?_⟩ <;> simp only [hbd, hdone, hchanged]
  · exact hmemory
  · exact hflag
  · exact hlast
  · exact hmanual
  · obtain ⟨hm, hoffer, hcharge, hsent⟩ := hauto hc
    refine ⟨hm, hoffer, hcharge, (hidle ?_).trans hsent⟩
    rw [hm]
    cases s.siu.freeze <;> simp
  · exact htop
  · exact hmode

theorem passSetpoint_idle (h : t.bd.mode = .off ∨ t.bd.mode = .island) : t.passSetpoint = none := by
  rcases h with h | h <;> simp [State.passSetpoint, h]

theorem setpointSent_batteryPass (s : State) : SetpointSent s.evaluate s.batteryPass := by
  refine ⟨batteryPass_bd s, fun h => ?_, batteryPass_isPending s _, batteryPass_isPending s _⟩
  rw [batteryPass_eq, passSetpoint_idle h]

end

end Sys2Proof.Machine
end

section
/-! A publication as its event leaves it (O50). -/

namespace Sys2Proof.Machine

/-- The setpoint of a BD pass, in the terms of the statement. -/
theorem passSetpoint_owed {s e t : State} (hmode : t.bd.mode = e.bd.mode) (hoffer : t.bd.offerBc = e.bd.offerBc)
    (hbalance : t.ae.balance = e.ae.balance) (hband : e.bandInForce = s.bandInForce) (htable : e.bd.table = s.bd.table)
    (hsent : e.bd.sent = if e.bd.mode = .off ∨ e.bd.mode = .island then none else s.bd.sent) (hnow : e.now = s.mu.uptime) :
    e.passSetpoint = Claims.setpointOwed s t := by
  have hdue (power : Int) (h : ¬(e.bd.mode = .off ∨ e.bd.mode = .island)) : setpointDue e.bd e.now power =
      (match s.bd.sent with
      | none => true
      | some last => decide ((power ≠ last.power ∧ s.bd.table.step ≤ (power - last.power).natAbs) ∨
          s.bd.table.refresh ≤ (s.mu.uptime - last.sentAt).toNat)) := by
    rw [if_neg h] at hsent
    unfold setpointDue elapsed
    rw [hsent, htable, hnow]
    cases s.bd.sent with
    | none => rfl
    | some last =>
      rw [Bool.eq_iff_iff]
      simp
  unfold State.passSetpoint Claims.setpointOwed
  dsimp only
  rw [hmode, hoffer, hbalance, ← hband]
  cases hm : e.bd.mode with
  | manual | island | off => simp
  | shave | full | reserve | topUp =>
    simp only [hdue _ (by simp [hm]), setpoint]
    cases s.bd.sent <;> simp

section
variable (s : State) (p : AllocPass)

/-- A publication up to its BD pass. -/
def State.grantsPublished : State := (s.tablePublished p).publishGrants p

theorem grantsPublished_eq : s.grantsPublished p = (s.tablePublished p).publishGrants p := rfl

theorem publish_eq : s.publish p =
    { (s.grantsPublished p).batteryPass with
      ae.timer := Countdown.load (s.grantsPublished p).batteryPass.mr.site.allocPeriod } := rfl

theorem grantsPublished_frame : s.changesOnly (s.grantsPublished p)
    ({.balance, .allocPass, .queue .down, .drops .down} ∪ Set.range .grant ∪ Set.range .dwell) := by
  refine State.changesOnly_seq (tablePublished_frame s p) ((s.tablePublished p).publishGrants_frame p)
    (fun part hpart => ?_) fun part hpart => ?_
  all_goals
    simp only [Set.mem_union, Set.mem_insert_iff, Set.mem_singleton_iff] at hpart ⊢
    tauto

theorem bandInForce_of_same {s t : State} (hclock : t.mu.clock = s.mu.clock)
    (hprofiles : t.mu.profileA = s.mu.profileA ∧ t.mu.profileB = s.mu.profileB) (hsite : t.mr.site = s.mr.site) :
    t.bandRef = s.bandRef ∧ t.bandInForce = s.bandInForce := by
  have hprofile : t.profile = s.profile := funext fun name => by
    cases name
    · exact hprofiles.1
    · exact hprofiles.2
  have href : t.bandRef = s.bandRef := by
    unfold State.bandRef
    rw [hclock, hsite, hprofile]
  refine ⟨href, ?_⟩
  unfold State.bandInForce
  rw [href, hprofile]

theorem grantsPublished_figures : (s.grantsPublished p).batteryFigures = s.batteryFigures := by
  have hframe := grantsPublished_frame s p
  have hstations : (s.grantsPublished p).fs.stations = s.fs.stations :=
    Vector.ext fun i hi => hframe (.station ⟨i, hi⟩) (by simp)
  refine batteryFigures_congr ?_ (congrArg (·.holdTime) (hframe .site (by simp))) fun pos e _ => ?_
  · unfold State.stationFor State.findStation
    rw [hstations]
  · rw [show (s.grantsPublished p).siu.records[pos] = s.siu.records[pos] from hframe (.record pos) (by simp)]

theorem grantsPublished_address : (s.grantsPublished p).batteryAddress = s.batteryAddress := by
  have hstations : (s.grantsPublished p).fs.stations = s.fs.stations :=
    Vector.ext fun i hi => grantsPublished_frame s p (.station ⟨i, hi⟩) (by simp)
  unfold State.batteryAddress State.stationFor State.findStation
  rw [hstations]

theorem grantsPublished_bd : (s.grantsPublished p).bd = s.bd := by
  have hframe := grantsPublished_frame s p
  have htable : (s.grantsPublished p).bd.table = s.bd.table := hframe .batteryTable (by simp)
  have hrest : { (s.grantsPublished p).bd with table := s.bd.table } = s.bd := hframe .battery (by simp)
  rw [← htable] at hrest
  exact hrest

/-- What BD evaluates on after the GRANTs is what stood at the publication, the Down queue apart. -/
theorem sameForBattery_grantsPublished :
    SameForBattery (s.grantsPublished p) (s.setQueue .down (s.grantsPublished p).li.down.queue) := by
  have hframe := grantsPublished_frame s p
  have hevents : (s.grantsPublished p).mr.events = s.mr.events := hframe .events (by simp)
  exact ⟨(grantsPublished_bd s p).symm, (hframe .freeze (by simp)).symm, (State.isPending_of_events hevents _).symm,
    (State.isPending_of_events hevents _).symm, rfl⟩

end

/-- What a publication leaves. -/
structure PassPublished (s : State) (p : AllocPass) (t : State) : Prop where
  pass : t.ae.pass = none
  timer : t.ae.timer.left = s.mr.site.allocPeriod
  alloc (b : BayNo) : (t.bay b).alloc =
    if (Claims.grantOwed s t p b).any fun frame =>
        (enqueue (waitingAt (Claims.grantOwed s t p) s.li.down.queue (List.finRange 32) b) frame).isSome then
      ((s.bay b).alloc.publish p.restartGuard (s.row p b)).grantSent s.mu.uptime
    else (s.bay b).alloc.publish p.restartGuard (s.row p b)
  balance : t.ae.balance = s.newBalance p
  dwell (k : ClassNo) : t.ae.dwells[k] =
    if ∃ b : BayNo, p.lines[b].cls = k ∧ (t.bay b).alloc.outcome = .waitingBudget then
      { s.ae.dwells[k] with running := true }
    else
      { s.ae.dwells[k] with
        running := false
        timer := ⟨if s.mr.site.dwell[k] = 0 then 65536 else s.mr.site.dwell[k], false⟩ }
  frame : s.changesOnly t
    ({.balance, .allocTimer, .allocPass, .drops .down} ∪ Set.range Part.grant ∪ Set.range Part.dwell ∪ evaluatedParts)

/-- How the Down queue and BD stand after the GRANTs, the evaluation and the setpoint of a publication. -/
structure PassEvaluated (s : State) (p : AllocPass) (t e : State) : Prop where
  fresh : ∀ x, s.batteryFigures = some x → Claims.evaluatedOn s e x
  stale : s.batteryFigures = none → Claims.evaluatedStale s e
  mode : e.bd.mode = modeOf s.bd.table s.siu.freeze
    (s.batteryFigures.map fun f => nextMemory s.bd.table f.soc s.bd.memory)
    (topUpAfter s.bd.table s.siu.freeze s.batteryFigures s.bd.topUp).1
  manual : e.bd.manual = s.bd.manual
  sent : e.bd.sent = if e.bd.mode = .off ∨ e.bd.mode = .island then none else s.bd.sent
  queue : e.li.down.queue =
    if e.bd.mode ≠ s.bd.mode ∧ e.bd.mode.withdraws = true then
      (Claims.offered s.li.down.queue ((List.finRange 32).filterMap (Claims.grantOwed s t p))).filter fun q =>
        !decide (q.frame.kind = kindLimit ∧ s.batteryAddress = some q.frame.dest)
    else Claims.offered s.li.down.queue ((List.finRange 32).filterMap (Claims.grantOwed s t p))
  drop : e.li.down.counters.drop =
    if (lostAt (Claims.grantOwed s t p) s.li.down.queue (List.finRange 32)).length = 0 then s.li.down.counters.drop
    else min 65535 (s.li.down.counters.drop + (lostAt (Claims.grantOwed s t p) s.li.down.queue (List.finRange 32)).length)
  setpoint : e.passSetpoint = Claims.setpointOwed s t
  address : e.batteryAddress = s.batteryAddress
  own : e.own = s.own
  now : e.now = s.mu.uptime

/-- The allocation parts after the turns of all bays. -/
theorem grantsPublished_turns (s : State) (p : AllocPass) {t : State}
    (hbay : ∀ b, t.bay b = (s.grantsPublished p).bay b) (hbalance : t.ae.balance = (s.grantsPublished p).ae.balance) :
    (s.grantsPublished p).ae.balance = s.newBalance p ∧
      (∀ b : BayNo, (t.bay b).alloc =
        if (Claims.grantOwed s t p b).any fun frame =>
            (enqueue (waitingAt (Claims.grantOwed s t p) s.li.down.queue (List.finRange 32) b) frame).isSome then
          ((s.bay b).alloc.publish p.restartGuard (s.row p b)).grantSent s.mu.uptime
        else (s.bay b).alloc.publish p.restartGuard (s.row p b)) ∧
      (s.grantsPublished p).li.down.queue =
        Claims.offered s.li.down.queue ((List.finRange 32).filterMap (Claims.grantOwed s t p)) ∧
      (s.grantsPublished p).li.down.counters.drop =
        (if (lostAt (Claims.grantOwed s t p) s.li.down.queue (List.finRange 32)).length = 0 then s.li.down.counters.drop
          else min 65535
            (s.li.down.counters.drop + (lostAt (Claims.grantOwed s t p) s.li.down.queue (List.finRange 32)).length)) := by
  have hturns := publishGrants_turns p (s.tablePublished p)
  dsimp only at hturns
  rw [← grantsPublished_eq] at hturns
  obtain ⟨hqueue, hdrop, halloc, hsame⟩ := hturns
  have hframe := tablePublished_frame s p
  have htable : (s.tablePublished p).li.down.queue = s.li.down.queue := hframe (.queue .down) (by simp)
  have hdrops : (s.tablePublished p).li.down.counters.drop = s.li.down.counters.drop := hframe (.drops .down) (by simp)
  have hnow : (s.tablePublished p).now = s.mu.uptime := hframe .uptime (by simp)
  have hnew : (s.grantsPublished p).ae.balance = s.newBalance p := hsame.balance.trans (tablePublished_balance s p)
  have hbalance : t.ae.balance = s.newBalance p := hbalance.trans hnew
  have hsession (b : BayNo) : (t.bay b).session = (s.bay b).session := by
    rw [hbay, show ((s.grantsPublished p).bay b).session = _ from hsame.session b, tablePublished_bay]
  have hmarked (b : BayNo) := (congrArg Bay.alloc (hbay b)).trans (halloc b)
  have howed : (s.tablePublished p).grantDueFrame p = Claims.grantOwed s t p := funext fun b => by
    refine tablePublished_grantDue s p ?_ (hsession b) hbalance
    rw [hmarked]
    generalize ((s.tablePublished p).bay b).alloc = a
    split
    · exact ⟨_, rfl⟩
    · exact ⟨a.sent, rfl⟩
  rw [howed, htable, hdrops] at hdrop
  rw [howed, htable] at hqueue
  refine ⟨hnew, fun b => ?_, hqueue, hdrop⟩
  rw [hmarked, howed, htable, hnow, tablePublished_bay]

/-- The evaluation of a publication, as it stands before the setpoint is sent. -/
theorem grantsPublished_evaluated (s : State) (p : AllocPass) {t : State} (hbay : ∀ b, t.bay b = (s.grantsPublished p).bay b)
    (hbalance : t.ae.balance = (s.grantsPublished p).ae.balance)
    (hmode : t.bd.mode = (s.grantsPublished p).evaluate.bd.mode)
    (hoffer : t.bd.offerBc = (s.grantsPublished p).evaluate.bd.offerBc) :
    PassEvaluated s p t (s.grantsPublished p).evaluate := by
  obtain ⟨-, -, hqueue, hdrop⟩ := grantsPublished_turns s p hbay hbalance
  have hframe := grantsPublished_frame s p
  have hafter := (s.grantsPublished p).evaluate_frame
  have hfigures := grantsPublished_figures s p
  have hbd := grantsPublished_bd s p
  have hfreeze : (s.grantsPublished p).siu.freeze = s.siu.freeze := hframe .freeze (by simp)
  have hsame := sameForBattery_grantsPublished s p
  have haddress := grantsPublished_address s p
  obtain ⟨htable, -, -, hevaluated, -, hmanual⟩ := (s.grantsPublished p).evaluateWith_bd []
  have hsent := (s.grantsPublished p).evaluateWith_sent []
  have hleft := (s.grantsPublished p).evaluateWith_queue []
  have hsite : (s.grantsPublished p).evaluate.mr.site = s.mr.site :=
    (hafter .site (by simp)).trans (hframe .site (by simp))
  have hnow : (s.grantsPublished p).evaluate.now = s.mu.uptime := (hafter .uptime (by simp)).trans (hframe .uptime (by simp))
  have hband : (s.grantsPublished p).evaluate.bandInForce = s.bandInForce := by
    refine (bandInForce_of_same ((hafter .clock (by simp)).trans (hframe .clock (by simp))) ?_ hsite).2
    obtain ⟨ha, hb⟩ := hafter .profiles (by simp)
    obtain ⟨ha', hb'⟩ := hframe .profiles (by simp)
    exact ⟨ha.trans ha', hb.trans hb'⟩
  have hkept : (s.grantsPublished p).evaluate.ae.balance = (s.grantsPublished p).ae.balance := hafter .balance (by simp)
  rw [← State.evaluate] at htable hevaluated hmanual hsent hleft
  rw [hbd] at htable hevaluated hmanual hsent hleft
  rw [hfigures, hfreeze] at hevaluated
  rw [hqueue, haddress] at hleft
  refine ⟨fun x hx => ?_, fun hnone => ?_, hevaluated, hmanual, hsent, ?_, ?_, ?_, ?_, ?_, hnow⟩
  · have hon := evaluateWith_evaluatedOn (s.grantsPublished p) [] (hfigures.trans hx)
    have hfrom : Claims.evaluatedOn (s.setQueue .down (s.grantsPublished p).li.down.queue) (s.grantsPublished p).evaluate x :=
      Claims.evaluatedOn.of_same hon hsame (SameForBattery.refl _)
    exact hfrom
  · have hstale := evaluateWith_evaluatedStale (s.grantsPublished p) [] (hfigures.trans hnone)
    have hfrom : Claims.evaluatedStale (s.setQueue .down (s.grantsPublished p).li.down.queue) (s.grantsPublished p).evaluate :=
      Claims.evaluatedStale.of_same hstale hsame (SameForBattery.refl _)
    exact hfrom
  · rw [hleft]
    refine if_congr Iff.rfl (List.filter_congr fun q _ => ?_) rfl
    cases s.batteryAddress with
    | none => simp
    | some address => simp [eq_comm (a := address), Bool.decide_and, BEq.beq]
  · rw [show (s.grantsPublished p).evaluate.li.down.counters.drop = _ from hafter (.drops .down) (by simp)]
    exact hdrop
  · exact passSetpoint_owed hmode hoffer (hbalance.trans hkept.symm) hband htable hsent hnow
  · rw [evaluate_address, haddress]
  · exact congrArg (·.ownAddress) hsite

section
variable (s : State) (p : AllocPass)

theorem bay_ext {x y : Bay} (hconfig : x.config = y.config) (hsession : x.session = y.session)
    (hmetering : x.metering = y.metering) (halloc : x.alloc = y.alloc) : x = y := by
  cases x
  cases y
  simp_all

theorem publish_bay (b : BayNo) : (s.publish p).bay b = (s.grantsPublished p).bay b := by
  have hframe := (s.grantsPublished p).batteryPass_frame
  rw [publish_eq]
  generalize (s.grantsPublished p).batteryPass = w at hframe ⊢
  generalize s.grantsPublished p = v at hframe ⊢
  exact bay_ext (hframe (.config b) (by simp)) (hframe (.session b) (by simp)) (hframe (.metering b) (by simp))
    (hframe (.grant b) (by simp))

theorem publish_dwells (k : ClassNo) : (s.publish p).ae.dwells[k] = (s.tablePublished p).ae.dwells[k] := by
  have hpass : (s.grantsPublished p).batteryPass.ae.dwells[k] = (s.grantsPublished p).ae.dwells[k] :=
    (s.grantsPublished p).batteryPass_frame (.dwell k) (by simp)
  have hgrants : (s.grantsPublished p).ae.dwells[k] = (s.tablePublished p).ae.dwells[k] :=
    (s.tablePublished p).publishGrants_frame p (.dwell k) (by simp)
  rw [publish_eq]
  exact hpass.trans hgrants

theorem publish_balance : (s.publish p).ae.balance = (s.grantsPublished p).ae.balance := by
  rw [publish_eq]
  exact (s.grantsPublished p).batteryPass_frame .balance (by simp)

theorem publish_pass : (s.publish p).ae.pass = none := by
  have hpass : (s.grantsPublished p).batteryPass.ae.pass = (s.grantsPublished p).ae.pass :=
    (s.grantsPublished p).batteryPass_frame .allocPass (by simp)
  have hgrants : (s.grantsPublished p).ae.pass = (s.tablePublished p).ae.pass :=
    (s.tablePublished p).publishGrants_frame p .allocPass (by simp)
  rw [publish_eq]
  refine hpass.trans (hgrants.trans ?_)
  simp only [State.tablePublished, State.publishDwells, State.publishTable]

theorem publish_timer : (s.publish p).ae.timer.left = s.mr.site.allocPeriod := by
  have hpass : (s.grantsPublished p).batteryPass.mr.site = (s.grantsPublished p).mr.site :=
    (s.grantsPublished p).batteryPass_frame .site (by simp)
  rw [publish_eq, hpass, show (s.grantsPublished p).mr.site = s.mr.site from grantsPublished_frame s p .site (by simp)]
  rfl

end

/-- A publication of the pass in flight, as its event leaves it. -/
theorem exec_publication {s : State} {p : AllocPass} (hp : s.powered = true) (hpass : s.ae.pass = some p) :
    ∃ t e, exec .publication s = .next t ∧ PassPublished s p t ∧ PassEvaluated s p t e ∧ SetpointSent e t ∧
      OffersDown e.setpointFrame (fun w (_ : Unit) => w.bd.sent) (e.passSetpoint.map fun power => ⟨power, e.now⟩) () e t := by
  have hwork : (match s.ae.pass with | some p => s.publish p | none => s) = s.publish p := by rw [hpass]
  have hexec := exec_powered (c := .publication) (s := s) rfl hp
  have hafter := inEvent_after (fun t => match t.ae.pass with | some p => t.publish p | none => t) s
  rw [hwork] at hafter
  have hbd : (inEvent (fun t => match t.ae.pass with | some p => t.publish p | none => t) s).bd = (s.publish p).bd := by
    rw [inEvent_bd, hwork]
  have hae : (inEvent (fun t => match t.ae.pass with | some p => t.publish p | none => t) s).ae = (s.publish p).ae := by
    rw [inEvent_ae, hwork]
  have hbays (b : BayNo) : (inEvent (fun t => match t.ae.pass with | some p => t.publish p | none => t) s).bay b =
      (s.publish p).bay b := by rw [inEvent_bay, hwork]
  have hdown : (inEvent (fun t => match t.ae.pass with | some p => t.publish p | none => t) s).li.down =
      (s.publish p).li.down := by rw [inEvent_li_down, hwork]
  have hpending (e : Event) : (inEvent (fun t => match t.ae.pass with | some p => t.publish p | none => t) s).isPending e =
      (s.publish p).isPending e := by rw [inEvent_isPending, hwork]
  generalize inEvent _ s = t at hexec hafter hbd hae hbays hdown hpending
  have hbay (b : BayNo) : t.bay b = (s.grantsPublished p).bay b := (hbays b).trans (publish_bay s p b)
  have hbalance : t.ae.balance = (s.grantsPublished p).ae.balance := (congrArg (·.balance) hae).trans (publish_balance s p)
  obtain ⟨hnew, halloc, -, -⟩ := grantsPublished_turns s p hbay hbalance
  have hsent := setpointSent_batteryPass (s.grantsPublished p)
  have hoffers := batteryPass_offers (s.grantsPublished p)
  have hpublished : t.bd = (s.grantsPublished p).batteryPass.bd := by rw [hbd, publish_eq]
  have hmode : t.bd.mode = (s.grantsPublished p).evaluate.bd.mode := by rw [hpublished, hsent.bd]
  have hoffer : t.bd.offerBc = (s.grantsPublished p).evaluate.bd.offerBc := by rw [hpublished, hsent.bd]
  have hevaluated := grantsPublished_evaluated s p hbay hbalance hmode hoffer
  refine ⟨t, (s.grantsPublished p).evaluate, hexec, ⟨?_, ?_, halloc, hbalance.trans hnew, fun k => ?_, ?_⟩, hevaluated, ?_, ?_⟩
  · rw [hae, publish_pass]
  · rw [hae, publish_timer]
  · have houtcome (b : BayNo) : (t.bay b).alloc.outcome = ((s.tablePublished p).bay b).alloc.outcome := by
      rw [halloc, tablePublished_bay]
      split <;> rfl
    rw [hae, publish_dwells, tablePublished_dwell]
    simp only [houtcome]
  · refine State.changesOnly_mono (State.changesOnly_trans (s.publish_frame p) hafter) fun part hpart => ?_
    simp only [publishedParts, evaluatedParts, raisedParts, Set.mem_union, Set.mem_insert_iff, Set.mem_singleton_iff] at hpart ⊢
    tauto
  · refine ⟨?_, fun h => ?_, ?_, ?_⟩
    · rw [hpublished]
      exact hsent.bd
    · rw [hpublished]
      exact hsent.idle h
    · rw [hpending, publish_eq]
      exact hsent.done
    · rw [hpending, publish_eq]
      exact hsent.changed
  · have hport : t.li.down = (s.grantsPublished p).batteryPass.li.down := by rw [hdown, publish_eq]
    obtain ⟨hqueue, hdrop, hmarked, -⟩ := hoffers
    exact ⟨by rw [hport]; exact hqueue, by rw [hport]; exact hdrop, by rw [hpublished]; exact hmarked, fun c hc => absurd rfl hc⟩

end Sys2Proof.Machine
end

section
/-! The publication of an allocation pass (O50). -/

namespace Sys2Proof.Machine

section
variable {s t e : State} {p : AllocPass} {b : BayNo}

theorem grantOwed_some {frame : Queued} (h : Claims.grantOwed s t p b = some frame) :
    ∃ address payload, p.lines[b].charger.bind (s.grantAddress b) = some address ∧
      frame = ⟨⟨address, s.own, kindGrant, payload⟩, .grant b⟩ := by
  unfold Claims.grantOwed at h
  dsimp only at h
  cases haddress : p.lines[b].charger.bind (s.grantAddress b) with
  | none =>
    rw [haddress] at h
    cases h
  | some address =>
    rw [haddress] at h
    obtain ⟨-, hframe⟩ := Option.ite_none_right_eq_some.mp h
    exact ⟨address, _, rfl, (Option.some.inj hframe).symm⟩

theorem grantOwed_origin {frame : Queued} (h : Claims.grantOwed s t p b = some frame) :
    frame.origin = .grant b ∧ frame.frame.kind = kindGrant := by
  obtain ⟨_, _, -, rfl⟩ := grantOwed_some h
  exact ⟨rfl, rfl⟩

/-- A GRANT goes to the address of the CHARGER entry that the pass found. -/
theorem grantOwed_dest {frame : Queued} {pos : Position} {entry : Station} (hline : p.lines[b].charger = some pos)
    (hentry : s.fs.stations[pos] = some entry) (hrole : entry.role = .charger b)
    (h : Claims.grantOwed s t p b = some frame) : frame.frame.dest = entry.address := by
  have hfound : p.lines[b].charger.bind (s.grantAddress b) = some entry.address := by
    rw [hline, Option.bind_some, State.grantAddress, hentry]
    exact if_pos hrole
  obtain ⟨_, _, haddress, rfl⟩ := grantOwed_some h
  exact Option.some.inj (haddress.symm.trans hfound)

namespace PassPublished

theorem grant (h : PassPublished s p t) (b : BayNo) : (t.bay b).alloc.grant = (s.row p b).1 := by
  rw [h.alloc]
  split <;> rfl

theorem outcome (h : PassPublished s p t) (b : BayNo) : (t.bay b).alloc.outcome = (s.row p b).2 := by
  rw [h.alloc]
  split <;> rfl

theorem guard (h : PassPublished s p t) (b : BayNo) :
    (t.bay b).alloc.guard = ((s.bay b).alloc.publish p.restartGuard (s.row p b)).guard := by
  rw [h.alloc]
  split <;> rfl

theorem total (h : PassPublished s p t) : s.grantedTotal p =
    ((List.finRange 32).map fun b : BayNo => ((t.bay b).alloc.grant * p.volts * p.lines[b].phases.toNat + 9) / 10).sum := by
  simp only [State.grantedTotal, powerOf, h.grant]

/-- The rows of R64, and the guards of R59. -/
theorem rows (h : PassPublished s p t) (b : BayNo) :
    let frozen := p.basis = .frozen ∨ s.siu.freeze = true
    (p.basis = .settle → (t.bay b).alloc.grant = 0 ∧ (t.bay b).alloc.outcome = .none) ∧
    (p.basis ≠ .settle → (s.bay b).session.state = .disabled →
      (t.bay b).alloc.grant = 0 ∧ (t.bay b).alloc.outcome = .disabled) ∧
    (p.basis ≠ .settle → (s.bay b).session.state ≠ .disabled → frozen →
      (t.bay b).alloc.grant = 0 ∧ (t.bay b).alloc.outcome = .frozen) ∧
    (p.basis ≠ .settle → (s.bay b).session.state ≠ .disabled → ¬frozen →
      p.lines[b].active = false ∨ (s.bay b).session.state ≠ .active →
      (t.bay b).alloc.grant = 0 ∧ (t.bay b).alloc.outcome = .none) ∧
    (p.basis ≠ .settle → ¬frozen → p.lines[b].active = true → (s.bay b).session.state = .active →
      (t.bay b).alloc.grant = p.lines[b].grant ∧ (t.bay b).alloc.outcome = p.lines[b].outcome) ∧
    ((t.bay b).alloc.grant = 0 → 0 < (s.bay b).alloc.grant → (t.bay b).alloc.guard = ⟨p.restartGuard, false⟩) ∧
    (0 < (t.bay b).alloc.grant ∨ (s.bay b).alloc.grant = 0 → (t.bay b).alloc.guard = (s.bay b).alloc.guard) := by
  intro frozen
  rw [h.grant, h.outcome, h.guard]
  refine ⟨fun hb => ?_, fun hb hd => ?_, fun hb hd hf => ?_, fun hb hd hf hi => ?_, fun hb hf hl ha => ?_,
    Alloc.publish_guard_loaded, Alloc.publish_guard_kept⟩
  · rw [row_settle hb]
    exact ⟨rfl, rfl⟩
  · rw [row_disabled hb hd]
    exact ⟨rfl, rfl⟩
  · rw [row_frozen hb hd hf]
    exact ⟨rfl, rfl⟩
  · rw [row_idle hb hd hf hi]
    exact ⟨rfl, rfl⟩
  · rw [row_active hb hf hl ha]
    exact ⟨rfl, rfl⟩

end PassPublished

namespace PassEvaluated

theorem setpointFrame (h : PassEvaluated s p t e) : e.setpointFrame =
    match Claims.setpointOwed s t, s.batteryAddress with
    | some power, some address => some ⟨⟨address, s.own, kindLimit, limitPayload power⟩, .limit⟩
    | _, _ => none := by
  unfold State.setpointFrame
  rw [h.setpoint, h.address, ← h.own]
  cases Claims.setpointOwed s t <;> cases s.batteryAddress <;> rfl

/-- A GRANT that was taken still waits when the setpoint has been offered. -/
theorem grant_stays (h : PassEvaluated s p t e) {frame : Queued} (howed : Claims.grantOwed s t p b = some frame)
    (htaken : (enqueue (waitingAt (Claims.grantOwed s t p) s.li.down.queue (List.finRange 32) b) frame).isSome = true) :
    frame ∈ Claims.offered e.li.down.queue e.setpointFrame.toList := by
  obtain ⟨horigin, hkind⟩ := grantOwed_origin howed
  have hwaits := offered_stays howed htaken fun c x hc hx => by
    obtain ⟨hx, -⟩ := grantOwed_origin hx
    refine Bool.eq_false_iff.mpr fun hr => ?_
    rcases (replaces_iff _ _).mp hr with ⟨d, hd, hd'⟩ | ⟨hl, -, -⟩
    · rw [hx] at hd
      rw [horigin] at hd'
      cases hd
      cases hd'
      exact hc rfl
    · rw [hx] at hl
      cases hl
  have hkept : frame ∈ e.li.down.queue := by
    rw [h.queue]
    split
    · refine List.mem_filter.mpr ⟨hwaits, ?_⟩
      rw [hkind]
      simp [kindGrant, kindLimit]
    · exact hwaits
  refine Claims.offered_keeps hkept fun x hx => ?_
  refine Bool.eq_false_iff.mpr fun hr => ?_
  have hlimit : x.origin = .limit := by
    have hx := Option.mem_toList.mp hx
    rw [h.setpointFrame] at hx
    split at hx
    · cases hx
      rfl
    · cases hx
  rcases (replaces_iff _ _).mp hr with ⟨d, hd, -⟩ | ⟨-, hl, -⟩
  · rw [hlimit] at hd
    cases hd
  · rw [horigin] at hl
    cases hl

end PassEvaluated

theorem setpointOwed_active {power : Int} (h : Claims.setpointOwed s t = some power) :
    ¬(t.bd.mode = .off ∨ t.bd.mode = .island) := by
  rintro (hm | hm) <;> simp [Claims.setpointOwed, hm] at h

end

section
variable {s t e : State} {p : AllocPass}

/-- The setpoint of the BD pass in the Down queue, and the last setpoint sent (R86). -/
theorem setpoint_sent (h : PassEvaluated s p t e) (hsent : SetpointSent e t)
    (hoffers : OffersDown e.setpointFrame (fun w (_ : Unit) => w.bd.sent)
      (e.passSetpoint.map fun power => ⟨power, e.now⟩) () e t) :
    let setpointFrame : Option Queued :=
      match Claims.setpointOwed s t, s.batteryAddress with
      | some power, some address => some ⟨⟨address, s.own, kindLimit, limitPayload power⟩, .limit⟩
      | _, _ => none
    match setpointFrame, Claims.setpointOwed s t with
    | some frame, some power =>
      t.li.down.queue = Claims.offered e.li.down.queue [frame] ∧
        t.bd.sent = (if (enqueue e.li.down.queue frame).isSome then some ⟨power, s.mu.uptime⟩ else s.bd.sent)
    | _, _ =>
      t.li.down.queue = e.li.down.queue ∧ t.bd.sent = (if t.bd.mode = .off ∨ t.bd.mode = .island then none else s.bd.sent) := by
  obtain ⟨hqueue, -, hmarked, -⟩ := hoffers
  have hmode : t.bd.mode = e.bd.mode := congrArg (·.mode) hsent.bd
  have hkept := h.sent
  have hframe := h.setpointFrame
  have hset := h.setpoint
  have hnow := h.now
  have hactive (power : Int) (ho : Claims.setpointOwed s t = some power) : e.bd.sent = s.bd.sent := by
    rw [hkept, ← hmode, if_neg (setpointOwed_active ho)]
  rw [← hmode] at hkept
  intro setpointFrame
  have hmarked : t.bd.sent = if e.setpointFrame.any fun frame => (enqueue e.li.down.queue frame).isSome then
      e.passSetpoint.map fun power => ⟨power, e.now⟩ else e.bd.sent := hmarked
  cases howed : Claims.setpointOwed s t with
  | none =>
    rw [howed] at hframe
    rw [hframe] at hqueue hmarked
    simp only [setpointFrame, howed]
    exact ⟨hqueue, hmarked.trans hkept⟩
  | some power =>
    cases haddress : s.batteryAddress with
    | none =>
      rw [howed, haddress] at hframe
      rw [hframe] at hqueue hmarked
      simp only [setpointFrame, howed, haddress]
      exact ⟨hqueue, hmarked.trans hkept⟩
    | some address =>
      rw [howed, haddress] at hframe
      rw [hframe, hset, howed, hnow, hactive power howed] at hmarked
      rw [hframe] at hqueue
      simp only [setpointFrame, howed, haddress]
      exact ⟨hqueue, hmarked⟩

/-- The drops that GRANTs and setpoint leave together. -/
theorem setpoint_dropped (h : PassEvaluated s p t e) (d m : Nat) :
    let setpointFrame : Option Queued :=
      match Claims.setpointOwed s t, s.batteryAddress with
      | some power, some address => some ⟨⟨address, s.own, kindLimit, limitPayload power⟩, .limit⟩
      | _, _ => none
    let lost := if setpointFrame.any (fun frame => (enqueue e.li.down.queue frame).isNone) then 1 else 0
    (if e.setpointFrame.any fun frame => (enqueue e.li.down.queue frame).isNone then
        bump (if m = 0 then d else min 65535 (d + m))
      else if m = 0 then d else min 65535 (d + m)) =
      if m + lost = 0 then d else min 65535 (d + (m + lost)) := by
  intro setpointFrame lost
  have hframe : e.setpointFrame = setpointFrame := h.setpointFrame
  rw [hframe, ← drops_add]
  simp only [lost]
  split <;> simp [bump]

end

/-- Settles O50. -/
theorem passIsPublished : Obligations.PassIsPublished := by
  unfold Obligations.PassIsPublished
  intro s p hp hpass
  obtain ⟨t, e, hexec, hpublished, hevaluated, hsent, hoffers⟩ := exec_publication hp hpass
  have hbefore (b : BayNo) := waitingAt_finRange (Claims.grantOwed s t p) s.li.down.queue b
  have hmode : t.bd.mode = e.bd.mode := congrArg (·.mode) hsent.bd
  have hqueue := hevaluated.queue
  rw [← hmode] at hqueue
  refine ⟨t, hexec, hpublished.pass, hpublished.timer, hpublished.rows, ?_, fun hb => ?_, fun hb => ?_, fun k => ?_,
    fun b pos entry hline hentry hrole frame howed => grantOwed_dest hline hentry hrole howed, ⟨fun b => ?_, ?_, ?_⟩,
    fun x hx => Claims.evaluatedOn.of_sent (hevaluated.fresh x hx) hsent,
    fun hnone => Claims.evaluatedStale.of_sent (hevaluated.stale hnone) hsent,
    ?_, fun hc => ?_, fun hc hf => ?_, fun hc hf hnone => ?_, hpublished.frame⟩
  · rw [hpublished.balance, newBalance_number]
  · rw [hpublished.balance, newBalance_settle hb]
  · have hfigures := newBalance_figures hb _ hpublished.total
    rw [unmetDemand_eq hb _ hpublished.total, ← hpublished.balance] at hfigures
    obtain ⟨hbasis, hfigures⟩ := hfigures
    rw [← hbasis] at hfigures
    exact ⟨hbasis, hfigures⟩
  · have hdwell := hpublished.dwell k
    split
    · rename_i hwaits
      rw [hdwell, if_pos hwaits]
    · rename_i hwaits
      rw [hdwell, if_neg hwaits]
  · beta_reduce
    rw [← hbefore]
    have halloc := hpublished.alloc b
    cases howed : Claims.grantOwed s t p b with
    | none =>
      rw [howed] at halloc
      dsimp only
      rw [halloc]
      rfl
    | some frame =>
      rw [howed] at halloc
      dsimp only
      split
      · rename_i htaken
        rw [hoffers.queue]
        refine ⟨hevaluated.grant_stays howed htaken, ?_⟩
        rw [halloc, if_pos (by rw [Option.any_some, htaken])]
        rfl
      · rename_i hlost
        rw [halloc, if_neg (by rw [Option.any_some]; exact hlost)]
        rfl
  · beta_reduce
    rw [← hqueue]
    exact setpoint_sent hevaluated hsent hoffers
  · have hdrop := hoffers.drop
    rw [hevaluated.drop] at hdrop
    simp only [lostAt, hbefore] at hdrop
    beta_reduce
    rw [← hqueue, hdrop]
    exact setpoint_dropped hevaluated _ _
  · rw [hsent.bd]
    exact hevaluated.manual
  · rw [hmode, hevaluated.mode]
    simp [modeOf, hc]
  · rw [hmode, hevaluated.mode]
    simp [modeOf, hc, hf]
  · rw [hmode, hevaluated.mode]
    simp [modeOf, hc, hf, hnone]

end Sys2Proof.Machine
end

section
/-! A warm restart: the state its blocks leave together, and what is sent first (O42). -/

namespace Sys2Proof.Machine

section
variable (cause : RestartCause) (shedHigh islandHigh : Bool) (s : State)

/-- The stages of a warm restart before the blocks that follow the pins: manage part, lines, sessions. -/
def State.linesRestarted : State := ((s.restartManage cause).restartLine).restartSessions

@[simp] theorem linesRestarted_now : (s.linesRestarted cause).now = s.now := by
  simp [State.now, State.linesRestarted, State.restartSessions, State.restartLine, State.restartManage]

@[simp] theorem linesRestarted_siu : (s.linesRestarted cause).siu = s.siu := by
  simp [State.linesRestarted, State.restartSessions, State.restartLine, State.restartManage]

@[simp] theorem linesRestarted_mr : (s.linesRestarted cause).mr =
    { s.mr with
      requests := []
      restart := .idle
      resetArmed := match cause with | .resetPin => false | .answerDone | .answerLate => s.mr.resetArmed } := by
  simp [State.linesRestarted, State.restartSessions, State.restartLine, State.restartManage] <;> rfl

@[simp] theorem linesRestarted_li : (s.linesRestarted cause).li = ⟨s.li.rate, PortState.cold, PortState.cold⟩ := by
  simp [State.linesRestarted, State.restartSessions, State.restartLine, State.restartManage]

@[simp] theorem linesRestarted_fs :
    (s.linesRestarted cause).fs = ⟨s.fs.stations, Vector.replicate 64 0, 0, 0, 0, 0⟩ := by
  simp [State.linesRestarted, State.restartSessions, State.restartLine, State.restartManage]

theorem linesRestarted_bay (b : BayNo) : (s.linesRestarted cause).bay b =
    if (s.bay b).session.state.isOpen then
      { s.bay b with session := { (s.bay b).session with restarted := true, timer := some ⟨s.mu.uptime, false⟩ } }
    else s.bay b := by
  rw [State.linesRestarted, State.restartSessions, State.mapBays_bay]
  rfl

@[simp] theorem linesRestarted_bd : (s.linesRestarted cause).bd = s.bd := by
  simp [State.linesRestarted, State.restartSessions, State.restartLine, State.restartManage]

@[simp] theorem linesRestarted_cc : (s.linesRestarted cause).cc = s.cc := by
  simp [State.linesRestarted, State.restartSessions, State.restartLine, State.restartManage]

@[simp] theorem linesRestarted_rq : (s.linesRestarted cause).rq = s.rq := by
  simp [State.linesRestarted, State.restartSessions, State.restartLine, State.restartManage]

@[simp] theorem linesRestarted_mu : (s.linesRestarted cause).mu = s.mu := by
  simp [State.linesRestarted, State.restartSessions, State.restartLine, State.restartManage]

@[simp] theorem linesRestarted_rest : (s.linesRestarted cause).pending = s.pending ∧ (s.linesRestarted cause).powered = s.powered ∧
    (s.linesRestarted cause).links = s.links ∧ (s.linesRestarted cause).held = s.held := by
  simp [State.linesRestarted, State.restartSessions, State.restartLine, State.restartManage]

/-- The inputs as the pins form them at a restart. -/
def SiteTable.shedFormed (site : SiteTable) (high : Bool) : Input := Input.formed site.shedSense high
def SiteTable.islandFormed (site : SiteTable) (high : Bool) : Input := Input.formed site.islandSense high

/-! ### What a warm restart leaves, part by part -/

theorem warmWork_eq : State.warmWork cause shedHigh islandHigh s =
    (((((s.linesRestarted cause).restartSiu shedHigh islandHigh).restartAlloc).restartBattery).restartCanopy).restartReceipts := rfl

theorem warmWork_li : (State.warmWork cause shedHigh islandHigh s).li = ⟨s.li.rate, PortState.cold, PortState.cold⟩ := by
  simp [warmWork_eq, State.restartSiu, State.restartAlloc, State.restartBattery, State.restartCanopy, State.restartReceipts]

theorem warmWork_fs :
    (State.warmWork cause shedHigh islandHigh s).fs = ⟨s.fs.stations, Vector.replicate 64 0, 0, 0, 0, 0⟩ := by
  simp [warmWork_eq, State.restartSiu, State.restartAlloc, State.restartBattery, State.restartCanopy, State.restartReceipts]

theorem warmWork_siu : (State.warmWork cause shedHigh islandHigh s).siu =
    ⟨s.siu.records.map fun r => r.map fun _ => MeasRecord.never s.now, s.mr.site.shedFormed shedHigh,
      s.mr.site.islandFormed islandHigh, (s.mr.site.islandFormed islandHigh).active⟩ := by
  simp [warmWork_eq, State.restartSiu, State.restartAlloc, State.restartBattery, State.restartCanopy, State.restartReceipts,
    SiteTable.shedFormed, SiteTable.islandFormed]

theorem warmWork_bd : (State.warmWork cause shedHigh islandHigh s).bd =
    ⟨s.bd.table, restartMode s.bd.table.control (s.mr.site.islandFormed islandHigh).active, none, false, 0, 0, 0, none, none⟩ := by
  simp [warmWork_eq, State.restartSiu, State.restartAlloc, State.restartBattery, State.restartCanopy, State.restartReceipts,
    SiteTable.islandFormed]

theorem warmWork_cc : (State.warmWork cause shedHigh islandHigh s).cc =
    { table := s.cc.table
      amount := 0
      strings := Vector.ofFn fun j : StringNo => ⟨none, none, s.cc.strings[j].offRating s.cc.table.strings[j].rating⟩
      target := 0
      common := 0
      timer := Countdown.load s.cc.table.period
      pass := none } := by
  simp [warmWork_eq, State.restartSiu, State.restartAlloc, State.restartBattery, State.restartCanopy, State.restartReceipts]

theorem warmWork_mu : (State.warmWork cause shedHigh islandHigh s).mu = s.mu := by
  simp [warmWork_eq, State.restartSiu, State.restartAlloc, State.restartBattery, State.restartCanopy, State.restartReceipts]

theorem warmWork_rest : (State.warmWork cause shedHigh islandHigh s).pending = s.pending ∧
    (State.warmWork cause shedHigh islandHigh s).powered = s.powered ∧
    (State.warmWork cause shedHigh islandHigh s).links = s.links ∧ (State.warmWork cause shedHigh islandHigh s).held = s.held := by
  simp [warmWork_eq, State.restartSiu, State.restartAlloc, State.restartBattery, State.restartCanopy, State.restartReceipts]

theorem warmWork_rq : (State.warmWork cause shedHigh islandHigh s).rq =
    { s.rq with high := decide (s.mr.site.highWater ≤ s.rq.receipts.length) } := by
  simp [warmWork_eq, State.restartSiu, State.restartAlloc, State.restartBattery, State.restartCanopy, State.restartReceipts,
    State.evalHigh_rq]

/-- What the pins leave at a restart, beside the inputs and their events. -/
def State.pinsRestarted : State := (s.linesRestarted cause).restartSiu shedHigh islandHigh

theorem pinsRestarted_bay (b : BayNo) : (s.pinsRestarted cause shedHigh islandHigh).bay b = (s.linesRestarted cause).bay b := by
  have hbays : (s.pinsRestarted cause shedHigh islandHigh).bays = (s.linesRestarted cause).bays := by
    simp [State.pinsRestarted, State.restartSiu]
  rw [State.bay, hbays, State.bay]

theorem warmWork_bay (b : BayNo) : (State.warmWork cause shedHigh islandHigh s).bay b =
    { (s.linesRestarted cause).bay b with alloc := ⟨.none, 0, none, Countdown.load 0⟩ } := by
  have hbays : (State.warmWork cause shedHigh islandHigh s).bays =
      ((s.pinsRestarted cause shedHigh islandHigh).mapBays fun _ x =>
        { x with alloc := ⟨.none, 0, none, Countdown.load 0⟩ }).bays := by
    simp [warmWork_eq, State.pinsRestarted, State.restartAlloc, State.restartBattery, State.restartCanopy, State.restartReceipts]
  rw [State.bay, hbays]
  refine (State.mapBays_bay _ _ b).trans ?_
  rw [pinsRestarted_bay]

theorem rebuilt_eq (w : State) (k : ClassNo)
    (hw : ∀ b, (w.bay b).session.state = (s.bay b).session.state ∧ (w.bay b).config = (s.bay b).config) :
    w.rebuilt k = (List.finRange 32).filter fun b =>
      decide ((s.bay b).session.state = .active ∧ (s.bay b).config.cls = k) := by
  refine List.filter_congr fun b _ => ?_
  rw [State.belongs, (hw b).1, (hw b).2, Bool.eq_iff_iff]
  simp

theorem warmWork_ae : (State.warmWork cause shedHigh islandHigh s).ae =
    { lists := Vector.ofFn fun k : ClassNo => (List.finRange 32).filter fun b =>
        decide ((s.bay b).session.state = .active ∧ (s.bay b).config.cls = k)
      dwells := Vector.ofFn fun k : ClassNo => ⟨Countdown.load (s.mr.site.dwellOf k), false, false⟩
      trim := 0
      balance := Balance.zero
      timer := Countdown.load s.mr.site.allocPeriod
      settling := true
      settleStart := s.now
      pass := none } := by
  have hae : (State.warmWork cause shedHigh islandHigh s).ae = (s.pinsRestarted cause shedHigh islandHigh).restartAlloc.ae := by
    simp [warmWork_eq, State.pinsRestarted, State.restartBattery, State.restartCanopy, State.restartReceipts]
  have hsite : (s.pinsRestarted cause shedHigh islandHigh).mr.site = s.mr.site := by
    simp [State.pinsRestarted, State.restartSiu]
  have hmu : (s.pinsRestarted cause shedHigh islandHigh).mu = s.mu := by
    simp [State.pinsRestarted, State.restartSiu]
  have hlists := fun k => rebuilt_eq s ((s.pinsRestarted cause shedHigh islandHigh).mapBays fun _ x =>
    { x with alloc := ⟨.none, 0, none, Countdown.load 0⟩ }) k fun b => by
      rw [State.mapBays_bay, pinsRestarted_bay, linesRestarted_bay]
      split <;> exact ⟨rfl, rfl⟩
  rw [hae, State.restartAlloc]
  simp only [hsite, State.now, State.mapBays_mu, hmu, funext hlists]

/-! ### Its events -/

theorem clearPending_isPending (e : Event) : s.clearPending.isPending e = false :=
  isPending_of_clear rfl e

theorem linesRestarted_isPending (e : Event) : (s.linesRestarted cause).isPending e = s.isPending e :=
  State.isPending_of_events (by simp) e

theorem restartSiu_isPending (e : Event) : (s.restartSiu shedHigh islandHigh).isPending e =
    (s.isPending e || ((s.siu.shed.active || (s.mr.site.shedFormed shedHigh).active) && decide (.shedChange = e)) ||
      ((s.mr.site.islandFormed islandHigh).active && decide (.islandOn = e))) := by
  rw [State.restartSiu]
  rw [State.raiseIf_isPending, State.raiseIf_isPending]
  rfl

theorem restartAlloc_isPending (e : Event) : s.restartAlloc.isPending e = s.isPending e :=
  State.isPending_of_events (by simp [State.restartAlloc]) e

theorem restartBattery_isPending (e : Event) : s.restartBattery.isPending e =
    (s.isPending e || (restartMode s.bd.table.control s.siu.freeze != s.bd.mode && decide (.batteryMode = e))) := by
  rw [State.restartBattery]
  rw [State.raiseIf_isPending]
  rfl

theorem restartCanopy_isPending (e : Event) : s.restartCanopy.isPending e = s.isPending e := rfl

theorem restartReceipts_isPending (e : Event) : s.restartReceipts.isPending e =
    (s.isPending e || (decide (s.mr.site.highWater ≤ s.rq.receipts.length) && decide (.receiptHigh = e))) := by
  rw [State.restartReceipts, State.evalHigh]
  rw [State.raiseIf_isPending, Bool.not_false, Bool.and_true]
  rfl

theorem warmWork_isPending (e : Event) : (State.warmWork cause shedHigh islandHigh s).isPending e =
    (s.isPending e ||
      ((s.siu.shed.active || (s.mr.site.shedFormed shedHigh).active) && decide (.shedChange = e)) ||
      ((s.mr.site.islandFormed islandHigh).active && decide (.islandOn = e)) ||
      (restartMode s.bd.table.control (s.mr.site.islandFormed islandHigh).active != s.bd.mode && decide (.batteryMode = e)) ||
      (decide (s.mr.site.highWater ≤ s.rq.receipts.length) && decide (.receiptHigh = e))) := by
  rw [warmWork_eq, restartReceipts_isPending, restartCanopy_isPending, restartBattery_isPending, restartAlloc_isPending,
    restartSiu_isPending, linesRestarted_isPending]
  simp [State.restartSiu, State.restartAlloc, State.restartBattery, State.restartCanopy, SiteTable.islandFormed]

/-- What the pins, BD and the high condition do not touch of the manage part. -/
theorem warmWork_mr : (State.warmWork cause shedHigh islandHigh s).mr.site = s.mr.site ∧
    (State.warmWork cause shedHigh islandHigh s).mr.requests = [] ∧
    (State.warmWork cause shedHigh islandHigh s).mr.mask = s.mr.mask ∧
    (State.warmWork cause shedHigh islandHigh s).mr.plan = s.mr.plan ∧
    (State.warmWork cause shedHigh islandHigh s).mr.restart = .idle ∧
    (cause = .resetPin → (State.warmWork cause shedHigh islandHigh s).mr.resetArmed = false) := by
  have hcause : cause = .resetPin → (match cause with
      | .resetPin => false | .answerDone | .answerLate => s.mr.resetArmed) = false := by
    rintro rfl
    rfl
  simpa [warmWork_eq, State.restartSiu, State.restartAlloc, State.restartBattery, State.restartCanopy, State.restartReceipts,
    State.evalHigh] using hcause

end

/-! ### The restart as a whole -/

theorem exec_warmRestart {s : State} {cause : RestartCause} {shedHigh islandHigh : Bool} (hp : s.powered = true)
    (hdue : (cause = .resetPin ∧ s.mr.resetArmed = true) ∨ (cause = .answerDone ∧ s.mr.restart = .due) ∨
      (cause = .answerLate ∧ s.mr.restart ≠ .idle)) :
    exec (.warmRestart cause shedHigh islandHigh) s =
      .next (inEvent (State.warmWork cause shedHigh islandHigh) s.clearPending) := by
  have htaken : (s.powered && s.restartDue cause) = true := by
    rcases hdue with ⟨rfl, h⟩ | ⟨rfl, h⟩ | ⟨rfl, h⟩ <;> simp [State.restartDue, hp, h]
  rw [show exec (.warmRestart cause shedHigh islandHigh) s = execWarmRestart cause shedHigh islandHigh s from rfl,
    execWarmRestart, if_pos htaken]

/-- What a warm restart leaves, each part from the state before it. -/
structure WarmRestarted (cause : RestartCause) (shedHigh islandHigh : Bool) (s t : State) : Prop where
  line (p : Port) : (t.port p).waiting = true ∧ (t.port p).sending = none ∧ (t.port p).counters = PortCounters.zero
  rate : t.li.rate = s.li.rate
  down : t.li.down.queue = []
  up : t.li.up.queue = if t.unmasked ≠ 0 then
    [⟨⟨s.mr.site.alertDest, s.own, kindStatus, t.statusPayload⟩, .status⟩] else []
  screening : t.fs = ⟨s.fs.stations, Vector.replicate 64 0, 0, 0, 0, 0⟩
  inputs : t.siu = ⟨s.siu.records.map fun r => r.map fun _ => MeasRecord.never s.now, s.mr.site.shedFormed shedHigh,
      s.mr.site.islandFormed islandHigh, (s.mr.site.islandFormed islandHigh).active⟩
  bay (b : BayNo) : t.bay b =
    { (if (s.bay b).session.state.isOpen then
        { s.bay b with session := { (s.bay b).session with restarted := true, timer := some ⟨s.mu.uptime, false⟩ } }
      else s.bay b) with alloc := ⟨.none, 0, none, Countdown.load 0⟩ }
  allocation : t.ae =
    { lists := Vector.ofFn fun k : ClassNo => (List.finRange 32).filter fun b =>
        decide ((s.bay b).session.state = .active ∧ (s.bay b).config.cls = k)
      dwells := Vector.ofFn fun k : ClassNo => ⟨Countdown.load (s.mr.site.dwellOf k), false, false⟩
      trim := 0
      balance := Balance.zero
      timer := Countdown.load s.mr.site.allocPeriod
      settling := true
      settleStart := s.now
      pass := none }
  battery : t.bd =
    ⟨s.bd.table, restartMode s.bd.table.control (s.mr.site.islandFormed islandHigh).active, none, false, 0, 0, 0, none, none⟩
  canopy : t.cc =
    { table := s.cc.table
      amount := 0
      strings := Vector.ofFn fun j : StringNo => ⟨none, none, s.cc.strings[j].offRating s.cc.table.strings[j].rating⟩
      target := 0
      common := 0
      timer := Countdown.load s.cc.table.period
      pass := none }
  metering : t.mu = s.mu
  receipts : t.rq = { s.rq with high := decide (s.mr.site.highWater ≤ s.rq.receipts.length) }
  rest : t.pending = s.pending ∧ t.powered = s.powered ∧ t.links = s.links ∧ t.held = s.held
  manage : t.mr.site = s.mr.site ∧ t.mr.requests = [] ∧ t.mr.mask = s.mr.mask ∧ t.mr.plan = s.mr.plan ∧ t.mr.restart = .idle ∧
    (cause = .resetPin → t.mr.resetArmed = false)
  events (e : Event) : t.isPending e =
    (((s.siu.shed.active || (s.mr.site.shedFormed shedHigh).active) && decide (.shedChange = e)) ||
      ((s.mr.site.islandFormed islandHigh).active && decide (.islandOn = e)) ||
      (restartMode s.bd.table.control (s.mr.site.islandFormed islandHigh).active != s.bd.mode && decide (.batteryMode = e)) ||
      (decide (s.mr.site.highWater ≤ s.rq.receipts.length) && decide (.receiptHigh = e)))

theorem warmRestarted (cause : RestartCause) (shedHigh islandHigh : Bool) (s : State) :
    WarmRestarted cause shedHigh islandHigh s (inEvent (State.warmWork cause shedHigh islandHigh) s.clearPending) := by
  have hli := warmWork_li cause shedHigh islandHigh s.clearPending
  obtain ⟨hcommands, hpower, hlinks, hheld⟩ := warmWork_rest cause shedHigh islandHigh s.clearPending
  obtain ⟨hqueue, hsent⟩ := inEvent_firstStatus (s := s.clearPending) (work := State.warmWork cause shedHigh islandHigh)
    (by simp [State.unmasked, State.clearPending]) (by rw [hli]; rfl)
  have hmr := warmWork_mr cause shedHigh islandHigh s.clearPending
  have hsite := hmr.1
  refine ⟨fun p => ?_, (hsent .rate (by simp)).trans (by rw [hli]; rfl), by rw [inEvent_li_down, hli]; rfl, ?_,
    by rw [inEvent_fs, warmWork_fs]; rfl, by rw [inEvent_siu, warmWork_siu]; rfl, fun b => ?_,
    by rw [inEvent_ae, warmWork_ae]; rfl, by rw [inEvent_bd, warmWork_bd]; rfl, by rw [inEvent_cc, warmWork_cc]; rfl,
    by rw [inEvent_mu, warmWork_mu]; rfl, by rw [inEvent_rq, warmWork_rq]; rfl,
    ⟨by rw [inEvent_pending, hcommands]; rfl, (hsent .power (by simp)).trans hpower, by rw [inEvent_links, hlinks]; rfl,
      by rw [inEvent_held, hheld]; rfl⟩, by rw [inEvent_mr]; exact hmr, fun e => ?_⟩
  · have hcold : (State.warmWork cause shedHigh islandHigh s.clearPending).port p = PortState.cold := by
      cases p <;> simp [State.port, hli]
    rw [inEvent_waiting, inEvent_sending, hcold]
    refine ⟨rfl, rfl, ?_⟩
    have hline := hsent (.counters p) (by simp)
    have hdrops := hsent (.drops p) (by simp)
    simp only [State.same, hcold] at hline hdrops
    generalize ((inEvent (State.warmWork cause shedHigh islandHigh) s.clearPending).port p).counters = counters at *
    cases counters
    simp_all [PortCounters.line, PortState.cold, PortCounters.zero]
  · rw [hqueue, State.own, hsite]
    rfl
  · rw [inEvent_bay, warmWork_bay, linesRestarted_bay]
    rfl
  · rw [inEvent_isPending, warmWork_isPending, clearPending_isPending, Bool.false_or]
    rfl

/-- What a warm restart leaves as it was. -/
theorem warmRestarted_kept {cause : RestartCause} {shedHigh islandHigh : Bool} {s t : State} {part : Part}
    (h : WarmRestarted cause shedHigh islandHigh s t)
    (hpart : (∃ b, part = .config b ∨ part = .metering b) ∨ (∃ pos, part = .station pos) ∨
      part ∈ ([.commands, .power, .rate, .links, .held, .batteryTable, .canopyTable, .uptime, .clock, .profiles, .lastTick,
        .site, .mask, .plan] : List Part)) : s.same t part := by
  obtain ⟨hcommands, hpower, hlinks, hheld⟩ := h.rest
  obtain ⟨hsite, -, hmask, hplan, -, -⟩ := h.manage
  rcases hpart with ⟨b, rfl | rfl⟩ | ⟨pos, rfl⟩ | hlist
  · rw [State.same, h.bay]
    split <;> rfl
  · rw [State.same, h.bay]
    split <;> rfl
  · rw [State.same, h.screening]
  · simp only [List.mem_cons, List.not_mem_nil, or_false] at hlist
    rcases hlist with rfl | rfl | rfl | rfl | rfl | rfl | rfl | rfl | rfl | rfl | rfl | rfl | rfl | rfl <;>
      simp only [State.same, h.rate, h.battery, h.canopy, h.metering, hcommands, hpower, hlinks, hheld, hsite, hmask, hplan,
        and_self]

/-- Settles O42. -/
theorem warmRestartState : Obligations.WarmRestartState := by
  unfold Obligations.WarmRestartState
  intro s cause shedHigh islandHigh hp hdue
  have h := warmRestarted cause shedHigh islandHigh s
  refine ⟨_, exec_warmRestart hp hdue, ?_⟩
  generalize inEvent (State.warmWork cause shedHigh islandHigh) s.clearPending = t at h ⊢
  obtain ⟨hline, hrate, hdown, hup, hfs, hsiu, hbay, hae, hbd, hcc, hmu, hrq, ⟨hcommands, hpower, hlinks, hheld⟩,
    ⟨hsite, hrequests, hmask, hplan, hidle, harmed⟩, hevents⟩ := h
  have hqueue (p : Port) : (t.port p).queue = if p = .up ∧ t.unmasked ≠ 0 then
      [⟨⟨s.mr.site.alertDest, s.own, kindStatus, t.statusPayload⟩, .status⟩] else [] := by
    cases p with
    | down => exact hdown.trans (if_neg (by simp)).symm
    | up => exact hup.trans (if_congr (by simp) rfl rfl)
  refine ⟨hidle, hrequests, harmed, fun p => ⟨(hline p).1, (hline p).2.1, ?_, ?_, hqueue p⟩, ?_⟩
  · rw [(hline p).2.2]
    rfl
  · rw [(hline p).2.2]
    rfl
  rw [hfs, hsiu, hae, hbd, hcc, hrq]
  refine ⟨rfl, rfl, rfl, rfl, fun pos => ⟨by simp, by simp; rfl⟩, Input.formed_fits _ _, rfl, rfl, Input.formed_fits _ _, rfl, rfl,
    rfl, fun b => ⟨?_, fun ho => ?_, fun ho => ?_⟩, fun k => by simp, fun k => ⟨by simp, by simp, ?_⟩, rfl, rfl, rfl, rfl, rfl, rfl,
    rfl, rfl, rfl, rfl, rfl, rfl, rfl, ?_, rfl, rfl, rfl, rfl, rfl, fun j => ⟨by simp, by simp, ?_⟩, rfl, rfl, rfl,
    fun e he => ?_, ⟨?_, ?_, ?_, ?_⟩, fun part hpart => ?_⟩
  · rw [hbay]
    rfl
  · rw [hbay, if_pos ho]
  · rw [hbay, if_neg (by rw [ho]; decide)]
  · simp [Countdown.load, SiteTable.dwellOf]
  · unfold restartMode
    cases s.bd.table.control <;> simp
  · rw [← StringState.offRating_iff]
    simp
  · rw [hevents] at he
    simp only [Bool.or_eq_true, Bool.and_eq_true, decide_eq_true_eq] at he
    rcases he with ((⟨-, rfl⟩ | ⟨-, rfl⟩) | ⟨-, rfl⟩) | ⟨-, rfl⟩ <;> simp
  · rw [hevents]
    simp
  · rw [hevents]
    simp
  · rw [hevents]
    simp
  · rw [hevents]
    simp
  · exact warmRestarted_kept ⟨hline, hrate, hdown, hup, hfs, hsiu, hbay, hae, hbd, hcc, hmu, hrq, ⟨hcommands, hpower, hlinks, hheld⟩,
      ⟨hsite, hrequests, hmask, hplan, hidle, harmed⟩, hevents⟩ hpart

end Sys2Proof.Machine
end

section
/-! The STATUS frames that wait in the Up queue: no work adds one, only the end of an event does (O23). -/

namespace Sys2Proof.Machine

/-- At most `n` STATUS frames wait in the Up queue. -/
def StatusWithin (n : Nat) (s : State) : Prop := (s.li.up.queue.countP fun q => q.origin == .status) ≤ n

theorem enqueue_status {queue taken : List Queued} {new : Queued} (h : enqueue queue new = some taken)
    (hnew : new.origin ≠ .status) :
    (taken.countP fun q => q.origin == .status) ≤ queue.countP fun q => q.origin == .status := by
  have hquiet : (new.origin == .status) = false := by simpa using hnew
  rcases enqueue_cases queue new with ⟨front, old, back, rfl, -, -, he⟩ | ⟨-, ⟨-, he⟩ | ⟨-, he⟩⟩ <;> rw [he] at h <;> cases h
  · simp only [List.countP_append, List.countP_cons, hquiet, Bool.false_eq_true, if_false]
    omega
  · simp [List.countP_append, hquiet]

section
variable {n : Nat} {s t : State}

theorem StatusWithin.kept {parts : Set Part} (h : StatusWithin n s) (hframe : s.changesOnly t parts)
    (hq : Part.queue .up ∉ parts) : StatusWithin n t := by
  have hqueue : t.li.up.queue = s.li.up.queue := hframe (.queue .up) hq
  rwa [StatusWithin, hqueue]

theorem StatusWithin.offer (h : StatusWithin n s) (p : Port) {q : Queued} (hq : q.origin ≠ .status) :
    StatusWithin n (s.offer p q).1 := by
  cases p with
  | down => exact h.kept (s.offer_frame .down q) (by simp)
  | up =>
    rcases s.offer_cases .up q with ⟨l, henqueue, e⟩ | ⟨-, e⟩ <;> rw [e]
    · exact (enqueue_status henqueue hq).trans h
    · exact h.kept (s.countDrops_frame .up 1) (by simp)

theorem StatusWithin.offerAll (h : StatusWithin n s) {news : List Queued} (hnews : ∀ q ∈ news, q.origin ≠ .status) :
    StatusWithin n (s.offerAll .up news) := by
  unfold State.offerAll
  split
  · have hnone : (news.countP fun q => q.origin == .status) = 0 :=
      List.countP_eq_zero.mpr fun q hq => by simpa using hnews q hq
    have hqueue : (s.setQueue .up ((s.port .up).queue ++ news)).li.up.queue = s.li.up.queue ++ news := rfl
    rw [StatusWithin, hqueue, List.countP_append, hnone]
    exact h
  · exact h.kept (s.countDrops_frame .up _) (by simp)

theorem StatusWithin.forward (h : StatusWithin n s) (p : Port) (f : Frame) : StatusWithin n (s.forward p f) :=
  h.offer p (by simp)

theorem StatusWithin.answer (h : StatusWithin n s) (dest : Byte) (payload : List Byte) : StatusWithin n (s.answer dest payload) :=
  h.offer .up (by simp [State.answerFrame])

/-! ### Sessions and receipts -/

theorem StatusWithin.buildReceipt (h : StatusWithin n s) (b : BayNo) : StatusWithin n (s.buildReceipt b) := by
  have htail : StatusWithin n { s with rq.receipts := s.rq.receipts ++ [s.receiptOf b], rq.next := s.rq.next + 1 } := h
  refine htail.offerAll fun q hq => ?_
  obtain ⟨p, -, rfl⟩ := List.mem_map.mp hq
  simp

theorem StatusWithin.evalHigh (h : StatusWithin n s) : StatusWithin n s.evalHigh := h.kept s.evalHigh_frame (by simp)

theorem StatusWithin.modSession (h : StatusWithin n s) (b : BayNo) (f : Session → Session) : StatusWithin n (s.modSession b f) :=
  h.kept (s.modSession_frame b f) (by simp)

theorem StatusWithin.openSession (h : StatusWithin n s) (b : BayNo) (f : Figures) : StatusWithin n (s.openSession b f) :=
  h.kept (s.openSession_frame b f) (by simp)

theorem StatusWithin.blockedGrant (h : StatusWithin n s) (b : BayNo) : StatusWithin n (s.blockedGrant b) := by
  unfold State.blockedGrant
  split
  · exact h.offer .down (by simp)
  · exact h

theorem StatusWithin.finalise (h : StatusWithin n s) (b : BayNo) (reason : EndReason) (final : Option Register) :
    StatusWithin n (s.finalise b reason final) := by
  have hended : StatusWithin n (s.endSession b reason final) := h.modSession b _
  by_cases hroom : s.rq.receipts.length < receiptSlots
  · rw [State.finalise_room b reason final hroom]
    exact (hended.buildReceipt b).evalHigh.modSession b _
  · rw [State.finalise_full b reason final (Nat.le_of_not_lt hroom)]
    have hheld : StatusWithin n (s.holdBay b reason final) :=
      ((hended.modSession b _).kept (State.setHeld_frame _ _) (by simp)).kept (State.raise_frame _ _) (by simp)
    split
    · exact hheld.blockedGrant b
    · exact hheld

theorem StatusWithin.demand (h : StatusWithin n s) (b : BayNo) (f : Figures) : StatusWithin n (s.demand b f) := by
  have htaken : StatusWithin n (s.modSession b fun x => { x with figures := some f }) := h.modSession b _
  unfold State.demand
  dsimp only
  split
  · split
    · exact htaken.openSession b f
    · exact htaken
  · exact htaken
  iterate 3
    unfold State.demandRunning
    split
    iterate 3 exact htaken.modSession b _
    iterate 3 exact htaken.finalise b _ _
  · unfold State.demandClosing
    dsimp only
    split
    iterate 3 exact htaken
    iterate 3 exact htaken.finalise b _ _
  · unfold State.demandHeld
    dsimp only
    split
    · exact (htaken.modSession b _).blockedGrant b
    · exact htaken.modSession b _

theorem StatusWithin.handOver (h : StatusWithin n s) (b : BayNo) (rest : List BayNo) : StatusWithin n (s.handOver b rest) := by
  have hset : StatusWithin n { s with held := rest } := h
  have hbuilt := hset.buildReceipt b
  rcases s.handOver_cases b rest with ⟨f, -, -, -, e⟩ | ⟨-, e⟩ <;> rw [e]
  · exact hbuilt.openSession b f
  · exact hbuilt.modSession b _

theorem StatusWithin.releaseOldest (h : StatusWithin n s) : StatusWithin n s.releaseOldest := by
  have hdropped : StatusWithin n s.droppedOldest := h
  cases hheld : s.held with
  | nil =>
    rw [State.releaseOldest_free hheld]
    exact hdropped.evalHigh
  | cons b rest =>
    rw [State.releaseOldest_held hheld]
    exact (hdropped.handOver b rest).evalHigh

theorem StatusWithin.release (h : StatusWithin n s) (number : BitVec 32) : StatusWithin n (s.release number).1 := by
  unfold State.release
  split
  · exact h
  · split
    · exact h.releaseOldest
    · split <;> exact h

/-! ### Frames -/

theorem StatusWithin.receive (h : StatusWithin n s) {p : Port} {row : FrameRow} {r : Reception} {work : Frame → State → State}
    (hwork : ∀ f u, StatusWithin n u → StatusWithin n (work f u)) : StatusWithin n (s.receive p row r work) := by
  rcases s.receive_cases p row r work with ⟨f, -, -, -, e⟩ | ⟨-, e⟩ <;> rw [e]
  · exact hwork f _ (h.kept (s.countReceived_frame p) (by simp))
  · exact h

variable {f : Frame}

theorem StatusWithin.forwardSample (h : StatusWithin n s) (pos : Position) (e : Station) :
    StatusWithin n (s.forwardSample pos e f) := by
  have hcount : StatusWithin n { s with fs.counts := s.fs.counts.set pos ((s.fs.counts[pos] + 1) % e.divider) } := h
  unfold State.forwardSample
  dsimp only
  split
  · exact hcount.forward .up f
  · exact hcount

theorem StatusWithin.sampleFrame (h : StatusWithin n s) : StatusWithin n (State.sampleFrame f s) := by
  unfold State.sampleFrame
  split
  · exact (h.kept (State.tapSample_frame _ _ _ _) (by simp)).forwardSample _ _
  · exact h

theorem StatusWithin.demandFrame (h : StatusWithin n s) : StatusWithin n (State.demandFrame f s) := by
  unfold State.demandFrame
  dsimp only
  split
  · split
    · exact (h.demand _ _).forward .up f
    · exact h.forward .up f
  · exact h.forward .up f

theorem StatusWithin.linkFrame (h : StatusWithin n s) : StatusWithin n (State.linkFrame f s) := by
  unfold State.linkFrame
  split
  · exact h.kept s.countOwnDrop_frame (by simp)
  · exact (h.kept (State.takeLink_frame _ _ _ _) (by simp)).offer .up (by simp)

theorem StatusWithin.manageFrame (h : StatusWithin n s) : StatusWithin n (State.manageFrame f s) := by
  unfold State.manageFrame
  split
  · exact h
  · exact h.answer _ _

theorem StatusWithin.forwardUpFrame (h : StatusWithin n s) : StatusWithin n (State.forwardUpFrame f s) := by
  have hcounted : StatusWithin n { s with fs.unknownStation := bump s.fs.unknownStation } := h
  unfold State.forwardUpFrame
  split
  · exact hcounted.forward .up f
  · split
    · exact h.forwardSample _ _
    · exact h.forward .up f

theorem StatusWithin.startTransmission (h : StatusWithin n s) (p : Port) : StatusWithin n (s.startTransmission p) := by
  unfold State.startTransmission
  split
  next q rest _ hq =>
    cases p with
    | down => exact h
    | up =>
      have hq : s.li.up.queue = q :: rest := hq
      have hrest : (s.setPort .up { s.port .up with queue := rest, sending := some q }).li.up.queue = rest := rfl
      rw [StatusWithin, hq, List.countP_cons] at h
      rw [StatusWithin, hrest]
      omega
  next => exact h

/-! ### Requests -/

theorem StatusWithin.serve (h : StatusWithin n s) {row : Service} {work : Request → State → State}
    (hwork : ∀ r, StatusWithin n (work r s)) : StatusWithin n (s.serve row work) := by
  rcases State.serve_cases row work s with ⟨r, rest, -, -, -, e⟩ | e <;> rw [e]
  · exact hwork r
  · exact h

theorem StatusWithin.checked (h : StatusWithin n s) {work : List Byte → State → State × Status}
    (hwork : ∀ p, StatusWithin n (work p s).1) (r : Request) : StatusWithin n (checked work r s) := by
  rcases checked_cases work r s with ⟨-, e⟩ | ⟨-, e⟩ <;> rw [e]
  · exact (hwork _).answer _ _
  · exact h.answer _ _

theorem StatusWithin.serveChecked (h : StatusWithin n s) {row : Service} {work : List Byte → State → State × Status}
    (hwork : ∀ p, StatusWithin n (work p s).1) : StatusWithin n (s.serve row (Machine.checked work)) :=
  h.serve fun r => h.checked hwork r

theorem StatusWithin.restartWork (h : StatusWithin n s) (r : Request) : StatusWithin n (restartWork r s) := by
  unfold Machine.restartWork
  split
  · exact StatusWithin.kept (h.offer .up (by simp [State.answerFrame])) (State.setRestart_frame _ _) (by simp)
  · exact h.answer _ _

theorem StatusWithin.unknownWork (h : StatusWithin n s) (r : Request) : StatusWithin n (unknownWork r s) := by
  unfold Machine.unknownWork
  split
  · exact h.checked (fun _ => h) r
  · exact h.answer _ _

theorem StatusWithin.badTableWork (h : StatusWithin n s) (r : Request) : StatusWithin n (badTableWork r s) := by
  unfold Machine.badTableWork
  split
  · exact h.answer _ _
  · exact h.checked (fun _ => h) r

theorem StatusWithin.withArguments (h : StatusWithin n s) {k : Nat} {work : List Byte → State → State × Status}
    (hwork : ∀ a, StatusWithin n (work a s).1) (p : List Byte) : StatusWithin n (Machine.withArguments k work p s).1 := by
  unfold Machine.withArguments
  split
  · exact h
  · exact hwork _

theorem StatusWithin.workOf_service (h : StatusWithin n s) {c : Instr} {work : State → State} (hc : workOf c = some work)
    (hserves : servesRequest c = true) : StatusWithin n (work s) := by
  cases c with
  | read => cases hc; exact h.serve fun r => h.answer _ _
  | siteWrite => cases hc; exact h.serveChecked fun p => h.kept (s.writeSite_frame p) (by simp [writtenParts, siteParts, inputParts, staleParts])
  | stationWrite => cases hc; exact h.serveChecked fun p => h.kept (s.writeStation_frame p) (by simp)
  | bayWrite => cases hc; exact h.serveChecked fun p => h.kept (s.writeBay_frame p) (by simp [writtenParts])
  | tariffWrite => cases hc; exact h.serveChecked fun p => h.kept (s.writeTariff_frame p) (by simp [writtenParts])
  | batteryWrite => cases hc; exact h.serveChecked fun p => h.kept (s.writeBattery_frame p) (by simp [writtenParts])
  | canopyWrite => cases hc; exact h.serveChecked fun p => h.kept (s.writeCanopy_frame p) (by simp [writtenParts])
  | eventMaskWrite => cases hc; exact h.serveChecked fun p => h.kept (s.writeEventMask_frame p) (by simp)
  | setClock =>
    cases hc
    exact h.serveChecked fun p => h.withArguments (fun a => h.kept (s.setSiteClock_frame _ _) (by simp)) p
  | restart => cases hc; exact h.serve fun r => h.restartWork r
  | resume => cases hc; exact h.serveChecked fun _ => h.kept s.resume_frame (by simp)
  | shedClear => cases hc; exact h.serveChecked fun _ => h.kept s.shedClear_frame (by simp)
  | topUp => cases hc; exact h.serveChecked fun _ => h.kept s.topUp_frame (by simp)
  | forceClose =>
    cases hc
    exact h.serveChecked fun p => h.withArguments (fun a => h.kept (s.forceClose_frame _) (by simp)) p
  | releaseReceipt => cases hc; exact h.serveChecked fun p => h.withArguments (fun a => h.release _) p
  | clearEvents =>
    cases hc
    exact h.serveChecked fun p => h.withArguments (fun a => h.kept (s.clearEvents_frame _) (by simp)) p
  | clearCounters => cases hc; exact h.serveChecked fun _ => h.kept s.zeroCounters_frame (by simp [counterParts])
  | unknownCommand => cases hc; exact h.serve fun r => h.unknownWork r
  | badTableWrite => cases hc; exact h.serve fun r => h.badTableWork r
  | _ => cases hserves

/-- No work of a command adds a STATUS frame to the Up queue. -/
theorem StatusWithin.workOf (h : StatusWithin n s) {c : Instr} {work : State → State} (hc : workOf c = some work) :
    StatusWithin n (work s) := by
  by_cases hserves : servesRequest c = true
  · exact h.workOf_service hc hserves
  cases c with
  | sampleFrame r => cases hc; exact h.receive fun f u hu => hu.sampleFrame
  | demandFrame r => cases hc; exact h.receive fun f u hu => hu.demandFrame
  | linkFrame r => cases hc; exact h.receive fun f u hu => hu.linkFrame
  | manageFrame r => cases hc; exact h.receive fun f u hu => hu.manageFrame
  | forwardUp r => cases hc; exact h.receive fun f u hu => hu.forwardUpFrame
  | transmitStart p => cases hc; exact h.startTransmission p
  | silentCloseExpiry b =>
    cases hc
    dsimp only
    unfold State.silentCloseExpiry
    split
    · split
      · exact h.finalise b _ _
      · exact h
    all_goals exact h
  | closeHoldExpiry b =>
    cases hc
    dsimp only
    unfold State.closeHoldExpiry
    split
    · split
      · exact h.finalise b _ _
      · exact h
    all_goals exact h
  | warmRestart | supplyLoss | coldReset => cases hc
  | frameError | upLimitScreen | forwardDown | ownAddressDrop | ownSourceDiscard | shedPinLevel | islandPinLevel | meteringTick
  | measureAgeTick | recordStale | silenceExpiry | pendingLinkExpiry | allocationPassStart | publication | guardExpiry
  | dwellExpiry | canopyPassStart | canopyPublication | frameTransmitEnd | receiverIdlePeriod | resetPinReturnHigh =>
    exact h.kept (workOf_frame hc s) (by simp [workParts, timerParts, passParts, publishedParts, canopyParts])
  | _ => exact absurd rfl hserves

end

/-! ### The end of an event (R173, R174) -/

theorem alert_iff {s : State} (hp : s.powered = true) : s.alert = true ↔ s.unmasked ≠ 0 := by
  simp [State.alert, hp]

/-- A STATUS frame that is offered reports the state, at the tail of the Up queue or lost to a full one. -/
theorem sendStatus_tail (s : State) :
    s.sendStatus.li.up.queue.getLast? =
        some ⟨⟨s.mr.site.alertDest, s.own, kindStatus, s.statusPayload⟩, .status⟩ ∨
      queueSize ≤ s.sendStatus.li.up.queue.length := by
  by_cases hroom : (s.port .up).queue.length < queueSize
  · left
    rw [State.sendStatus, State.offer_room (fun x _ => replaces_status rfl) hroom]
    have hqueue (q : List Queued) : (s.setQueue .up q).li.up.queue = q := rfl
    rw [hqueue, List.getLast?_concat]
    rfl
  · right
    rw [State.sendStatus, State.offer_full (fun x _ => replaces_status rfl) (Nat.le_of_not_lt hroom)]
    exact Nat.le_of_not_lt hroom

/-- No command but the supply's changes whether the part runs. -/
theorem work_powered {c : Instr} {work : State → State} (hc : workOf c = some work) (s : State) :
    (work s).powered = s.powered := by
  refine workOf_frame hc s .power ?_
  cases c with
  | warmRestart | supplyLoss | coldReset => cases hc
  | _ =>
    simp [workParts, demandParts, writtenParts, siteParts, inputParts, staleParts, answeredParts, releasedParts, counterParts,
      timerParts, finalisedParts, passParts, publishedParts, canopyParts]

/-- Settles O23: only the end of an event adds a STATUS frame, and only where the unmasked pending set has left empty. -/
theorem statusFrameOnFirstEvent : Obligations.StatusFrameOnFirstEvent := by
  unfold Obligations.StatusFrameOnFirstEvent
  intro c s t hp hsupply hwarm hcold hexec
  cases hwork : workOf c with
  | none =>
    cases c with
    | warmRestart cause h i => exact absurd rfl (hwarm cause h i)
    | supplyLoss => exact absurd rfl hsupply
    | coldReset a b h i => exact absurd rfl (hcold a b h i)
    | _ => cases hwork
  | some work =>
    rw [exec_powered hwork hp] at hexec
    obtain rfl : inEvent work s = t := by simpa using hexec
    have hworked := StatusWithin.workOf (n := s.li.up.queue.countP fun q => q.origin == .status) (s := s) (le_refl _) hwork
    have hran : (work s).powered = true := (work_powered hwork s).trans hp
    rcases inEvent_cases work s with ⟨hquiet, e⟩ | ⟨hclear, hraised, e⟩ <;> rw [e]
    · refine ⟨fun hbefore hafter => ?_, fun _ => hworked⟩
      have hclear : s.unmasked = 0 := by
        by_contra hne
        rw [(alert_iff hp).mpr hne] at hbefore
        cases hbefore
      exact absurd ⟨hclear, (alert_iff hran).mp hafter⟩ hquiet
    · have hpowered : (work s).sendStatus.powered = true := (State.sendStatus_powered _).trans hran
      have hunmasked : (work s).sendStatus.unmasked = (work s).unmasked := by simp [State.unmasked]
      have halert : (work s).sendStatus.alert = true := (alert_iff hpowered).mpr (by rw [hunmasked]; exact hraised)
      have hsilent : s.alert = false := by
        rw [Bool.eq_false_iff, Ne, alert_iff hp, not_not]
        exact hclear
      refine ⟨fun _ _ => ?_, fun h => ?_⟩
      · have hreport := sendStatus_tail (work s)
        rw [hunmasked, State.own, State.sendStatus_mr, State.lineByte, State.sendStatus_siu]
        exact hreport
      · rw [hsilent, halert] at h
        simp at h

end Sys2Proof.Machine
end

section
/-! Fields read from a record: at their offsets, behind other fields, in a list of entries, and beside a byte that was replaced. -/

namespace Sys2Proof.Machine

/-! ### Where a field stands -/

theorem readU_front {front : List Byte} (back : List Byte) {off w : Nat} (h : off + w ≤ front.length) :
    readU (front ++ back) off w = readU front off w := by
  have hslice : slice (front ++ back) off w = slice front off w := by
    rw [slice, slice, List.drop_append_of_le_length (by omega), List.take_append_of_le_length (by simp; omega)]
  rw [readU, readU, hslice]

theorem readU_behind {front : List Byte} (back : List Byte) {off : Nat} (w : Nat) (h : front.length ≤ off) :
    readU (front ++ back) off w = readU back (off - front.length) w := by
  have hslice : slice (front ++ back) off w = slice back (off - front.length) w := by
    rw [slice, slice, List.drop_append, List.drop_eq_nil_of_le h, List.nil_append]
  rw [readU, readU, hslice]

theorem readU_cons (b : Byte) (back : List Byte) {off : Nat} (w : Nat) (h : 1 ≤ off) :
    readU (b :: back) off w = readU back (off - 1) w := readU_behind (front := [b]) back w h

theorem readU_fieldU {w n : Nat} (h : n < 256 ^ w) : readU (fieldU w n) 0 w = n := by
  have hread := readU_bytesOf [] [] h
  rw [List.append_nil, List.nil_append] at hread
  rw [fieldU, if_pos h]
  exact hread

theorem readU_fieldU_append {w n : Nat} (back : List Byte) (h : n < 256 ^ w) : readU (fieldU w n ++ back) 0 w = n := by
  rw [readU_front back (by simp), readU_fieldU h]

theorem readByte_cons (b : Byte) (back : List Byte) : readByte (b :: back) 0 = b := readByte_at [] back b

theorem readByte_front {front : List Byte} (back : List Byte) {off : Nat} (h : off < front.length) :
    readByte (front ++ back) off = readByte front off := by
  rw [readByte, readByte, readU_front back h]

theorem readByte_behind {front : List Byte} (back : List Byte) {off : Nat} (h : front.length ≤ off) :
    readByte (front ++ back) off = readByte back (off - front.length) := by
  rw [readByte, readByte, readU_behind back 1 h]

theorem readByte_cons_succ (b : Byte) (back : List Byte) {off : Nat} (h : 1 ≤ off) :
    readByte (b :: back) off = readByte back (off - 1) := readByte_behind (front := [b]) back h

theorem readByte_getElem {p : List Byte} {off : Nat} (h : off < p.length) : readByte p off = p[off] := by
  have hsplit : p = p.take off ++ p[off] :: p.drop (off + 1) := by
    rw [List.cons_getElem_drop_succ, List.take_append_drop]
  have hread := readByte_at (p.take off) (p.drop (off + 1)) p[off]
  rw [← hsplit, List.length_take, Nat.min_eq_left h.le] at hread
  exact hread

/-! ### A field of an entry in a list of entries -/

theorem readU_flatten {entries : List (List Byte)} {k : Nat} (hlength : ∀ e ∈ entries, e.length = k) {i : Nat}
    (hi : i < entries.length) {o w : Nat} (how : o + w ≤ k) (back : List Byte) :
    readU (entries.flatten ++ back) (k * i + o) w = readU entries[i] o w := by
  induction entries generalizing i with
  | nil => cases hi
  | cons e entries ih =>
    have he : e.length = k := hlength e List.mem_cons_self
    rw [List.flatten_cons, List.append_assoc]
    cases i with
    | zero =>
      rw [Nat.mul_zero, Nat.zero_add, readU_front _ (by omega)]
      rfl
    | succ i =>
      have hoff : k * (i + 1) + o - k = k * i + o := by rw [Nat.mul_succ]; omega
      rw [readU_behind _ w (by rw [he, Nat.mul_succ]; omega), he, hoff]
      exact ih (fun x hx => hlength x (List.mem_cons_of_mem _ hx)) (by simpa using hi)

/-! ### A byte replaced -/

theorem readU_set (p : List Byte) (k : Nat) (code : Byte) {off w : Nat} (h : k < off ∨ off + w ≤ k) :
    readU (p.set k code) off w = readU p off w := by
  have hslice : slice (p.set k code) off w = slice p off w := by
    refine List.ext_getElem? fun i => ?_
    rw [slice, slice, List.getElem?_take, List.getElem?_take]
    split
    · rw [List.getElem?_drop, List.getElem?_drop, List.getElem?_set_ne (by omega)]
    · rfl
  rw [readU, readU, hslice]

theorem readByte_set_self {p : List Byte} {k : Nat} (code : Byte) (h : k < p.length) : readByte (p.set k code) k = code := by
  rw [readByte_getElem (by simpa using h), List.getElem_set_self]

theorem readByte_set (p : List Byte) {k off : Nat} (code : Byte) (h : k ≠ off) : readByte (p.set k code) off = readByte p off := by
  rw [readByte, readByte, readU_set p k code (by omega)]

end Sys2Proof.Machine
end

section
/-! The SITE record read back field by field (O34). -/

namespace Sys2Proof.Machine

/-- The fields of a site table, each read from its place in a record (10.6). -/
structure SiteRead (t : SiteTable) (p : List Byte) : Prop where
  own : readByte p 0 = t.ownAddress
  managers (i : Fin 4) : readByte p (1 + i.val) = t.managers[i]
  alert : readByte p 5 = t.alertDest
  receipt : readByte p 6 = t.receiptDest
  mask : readByte p 7 = fieldMaskByte t
  tolerance : readU p 8 2 = t.registerTolerance
  highWater : readU p 10 1 = t.highWater
  silence : readU p 11 1 = t.silenceTimeout
  closeHold : readU p 12 2 = t.closeHold
  silentClose : readU p 14 2 = t.silentClose
  linkLifetime : readU p 16 2 = t.linkLifetime
  holdTime : readU p 18 1 = t.holdTime
  shop : readU p 19 4 = t.assumedShop
  shedSense : readByte p 23 = t.shedSense.code
  islandSense : readByte p 24 = t.islandSense.code
  allocPeriod : readU p 25 1 = t.allocPeriod
  volts : readU p 26 2 = t.volts
  importLimit : readU p 28 4 = t.importLimit
  peak : readU p 32 4 = t.peakTarget
  shed : readU p 36 4 = t.shedTarget
  fallback : readU p 40 4 = t.fallbackTarget
  margin : readU p 44 4 = t.margin
  decay : readU p 48 4 = t.trimDecay
  floor : readU p 52 1 = t.shedFloor
  budget : readU p 53 4 = t.fallbackBudget
  guard : readU p 57 2 = t.restartGuard
  dwell (k : Fin 8) : readU p (59 + 2 * k.val) 2 = t.dwell[k]
  refresh : readU p 75 1 = t.grantRefresh
  settle : readU p 76 1 = t.settleTimeout
  weekend : readByte p 77 = t.weekend.setWidth 8

section
variable {t : SiteTable}

/-- The first 25 bytes of a SITE record: addresses, the receipt fields and the sessions' times. -/
def siteHead (t : SiteTable) : List Byte :=
  [t.ownAddress] ++ (t.managers.toList ++ ([t.alertDest, t.receiptDest, fieldMaskByte t] ++ (fieldU 2 t.registerTolerance ++
    (fieldU 1 t.highWater ++ (fieldU 1 t.silenceTimeout ++ (fieldU 2 t.closeHold ++ (fieldU 2 t.silentClose ++
      (fieldU 2 t.linkLifetime ++ (fieldU 1 t.holdTime ++ (fieldU 4 t.assumedShop ++
        [t.shedSense.code, t.islandSense.code]))))))))))

/-- The next 34 bytes: the allocation's figures. -/
def siteMiddle (t : SiteTable) : List Byte :=
  fieldU 1 t.allocPeriod ++ (fieldU 2 t.volts ++ (fieldU 4 t.importLimit ++ (fieldU 4 t.peakTarget ++ (fieldU 4 t.shedTarget ++
    (fieldU 4 t.fallbackTarget ++ (fieldU 4 t.margin ++ (fieldU 4 t.trimDecay ++ (fieldU 1 t.shedFloor ++
      (fieldU 4 t.fallbackBudget ++ fieldU 2 t.restartGuard)))))))))

/-- The last 19 bytes: the dwell times and what follows them. -/
def siteTail (t : SiteTable) : List Byte :=
  (t.dwell.toList.map (fieldU 2)).flatten ++ (fieldU 1 t.grantRefresh ++ (fieldU 1 t.settleTimeout ++ [t.weekend.setWidth 8]))

theorem siteRecord_eq : siteRecord t = siteHead t ++ (siteMiddle t ++ siteTail t) := by
  unfold siteRecord siteHead siteMiddle siteTail
  simp only [List.append_assoc]

theorem siteHead_length : (siteHead t).length = 25 := by simp [siteHead]

theorem siteMiddle_length : (siteMiddle t).length = 34 := by simp [siteMiddle]

theorem dwellBytes_length (l : List Nat) : ((l.map (fieldU 2)).flatten).length = 2 * l.length := by
  induction l with
  | nil => rfl
  | cons n l ih => simp [ih]; omega

theorem readU_siteHead {off w : Nat} (h : off + w ≤ 25) : readU (siteRecord t) off w = readU (siteHead t) off w := by
  rw [siteRecord_eq, readU_front _ (by rw [siteHead_length]; exact h)]

theorem readU_siteMiddle {off w : Nat} (hlow : 25 ≤ off) (h : off + w ≤ 59) :
    readU (siteRecord t) off w = readU (siteMiddle t) (off - 25) w := by
  rw [siteRecord_eq, readU_behind _ _ (by rw [siteHead_length]; exact hlow), siteHead_length,
    readU_front _ (by rw [siteMiddle_length]; omega)]

theorem readU_siteTail {off : Nat} (w : Nat) (hlow : 59 ≤ off) :
    readU (siteRecord t) off w = readU (siteTail t) (off - 59) w := by
  rw [siteRecord_eq, readU_behind _ _ (by rw [siteHead_length]; omega), siteHead_length,
    readU_behind _ _ (by rw [siteMiddle_length]; omega), siteMiddle_length, Nat.sub_sub]

theorem siteHead_figures (h : Claims.siteFits t) : readU (siteHead t) 8 2 = t.registerTolerance ∧
    readU (siteHead t) 10 1 = t.highWater ∧ readU (siteHead t) 11 1 = t.silenceTimeout ∧
    readU (siteHead t) 12 2 = t.closeHold ∧ readU (siteHead t) 14 2 = t.silentClose ∧
    readU (siteHead t) 16 2 = t.linkLifetime ∧ readU (siteHead t) 18 1 = t.holdTime ∧ readU (siteHead t) 19 4 = t.assumedShop := by
  obtain ⟨hbyte, hword, hlong⟩ := h
  simp only [List.forall_mem_cons, List.cons_append] at hbyte hword hlong
  refine ⟨?_, ?_, ?_, ?_, ?_, ?_, ?_, ?_⟩ <;>
    simp (disch := simp) only [siteHead, readU_behind, List.length_cons, List.length_nil, Vector.length_toList, fieldU_length,
      Nat.zero_add, Nat.reduceSub, Nat.reduceAdd] <;>
    exact readU_fieldU_append _ (by omega)

theorem siteMiddle_figures (h : Claims.siteFits t) : readU (siteMiddle t) 0 1 = t.allocPeriod ∧
    readU (siteMiddle t) 1 2 = t.volts ∧ readU (siteMiddle t) 3 4 = t.importLimit ∧ readU (siteMiddle t) 7 4 = t.peakTarget ∧
    readU (siteMiddle t) 11 4 = t.shedTarget ∧ readU (siteMiddle t) 15 4 = t.fallbackTarget ∧
    readU (siteMiddle t) 19 4 = t.margin ∧ readU (siteMiddle t) 23 4 = t.trimDecay ∧ readU (siteMiddle t) 27 1 = t.shedFloor ∧
    readU (siteMiddle t) 28 4 = t.fallbackBudget ∧ readU (siteMiddle t) 32 2 = t.restartGuard := by
  obtain ⟨hbyte, hword, hlong⟩ := h
  simp only [List.forall_mem_cons, List.cons_append] at hbyte hword hlong
  refine ⟨readU_fieldU_append _ (by omega), ?_, ?_, ?_, ?_, ?_, ?_, ?_, ?_, ?_, ?last⟩
  case last =>
    simp (disch := simp) only [siteMiddle, readU_behind, fieldU_length, Nat.reduceSub]
    exact readU_fieldU (by omega)
  all_goals
    simp (disch := simp) only [siteMiddle, readU_behind, fieldU_length, Nat.reduceSub]
    exact readU_fieldU_append _ (by omega)

theorem siteTail_figures (h : Claims.siteFits t) : (∀ k : Fin 8, readU (siteTail t) (2 * k.val) 2 = t.dwell[k]) ∧
    readU (siteTail t) 16 1 = t.grantRefresh ∧ readU (siteTail t) 17 1 = t.settleTimeout ∧
    readByte (siteTail t) 18 = t.weekend.setWidth 8 := by
  obtain ⟨hbyte, hword, hlong⟩ := h
  simp only [List.forall_mem_cons] at hbyte
  have hdwell : ((t.dwell.toList.map (fieldU 2)).flatten).length = 16 := by
    rw [dwellBytes_length, Vector.length_toList]
  refine ⟨fun k => ?_, ?_, ?_, ?_⟩
  · have hk : k.val < (t.dwell.toList.map (fieldU 2)).length := by simp
    have hread := readU_flatten (entries := t.dwell.toList.map (fieldU 2)) (k := 2) (by simp) hk (o := 0) (w := 2) (by omega)
      (fieldU 1 t.grantRefresh ++ (fieldU 1 t.settleTimeout ++ [t.weekend.setWidth 8]))
    have hfits : t.dwell[k] < 65536 := hword _ (by simp)
    rw [Nat.add_zero] at hread
    rw [siteTail, hread, List.getElem_map, Vector.getElem_toList]
    exact readU_fieldU hfits
  · rw [siteTail, readU_behind _ _ (by rw [hdwell]), hdwell]
    exact readU_fieldU_append _ (by omega)
  · rw [siteTail, readU_behind _ _ (by rw [hdwell]; omega), hdwell, readU_behind _ _ (by simp), fieldU_length]
    exact readU_fieldU_append _ (by omega)
  · rw [siteTail, readByte_behind _ (by rw [hdwell]; omega), hdwell, readByte_behind _ (by simp), fieldU_length,
      readByte_behind _ (by simp), fieldU_length]
    exact readByte_cons _ _

theorem siteHead_bytes : readByte (siteHead t) 0 = t.ownAddress ∧ (∀ i : Fin 4, readByte (siteHead t) (1 + i.val) = t.managers[i]) ∧
    readByte (siteHead t) 5 = t.alertDest ∧ readByte (siteHead t) 6 = t.receiptDest ∧
    readByte (siteHead t) 7 = fieldMaskByte t ∧ readByte (siteHead t) 23 = t.shedSense.code ∧
    readByte (siteHead t) 24 = t.islandSense.code := by
  refine ⟨readByte_cons _ _, fun i => ?_, ?_, ?_, ?_, ?_, ?_⟩
  · rw [siteHead, readByte_behind _ (by simp), List.length_singleton, Nat.add_sub_cancel_left, readByte_front _ (by simp),
      readByte_getElem (by simp), Vector.getElem_toList]
    rfl
  all_goals
    simp (disch := simp) only [siteHead, readByte_behind, List.length_cons, List.length_nil, Vector.length_toList, fieldU_length,
      Nat.zero_add, Nat.reduceSub, Nat.reduceAdd]
    simp [readByte_cons, readByte_cons_succ]

theorem readByte_siteHead {off : Nat} (h : off < 25) : readByte (siteRecord t) off = readByte (siteHead t) off := by
  rw [readByte, readByte, readU_siteHead (by omega)]

/-- A SITE record holds every field of its table at its place. -/
theorem siteRead (h : Claims.siteFits t) : SiteRead t (siteRecord t) := by
  obtain ⟨hown, hmanagers, halert, hreceipt, hmask, hshed, hisland⟩ := siteHead_bytes (t := t)
  obtain ⟨h8, h10, h11, h12, h14, h16, h18, h19⟩ := siteHead_figures h
  obtain ⟨h25, h26, h28, h32, h36, h40, h44, h48, h52, h53, h57⟩ := siteMiddle_figures h
  obtain ⟨hdwell, h75, h76, h77⟩ := siteTail_figures h
  refine ⟨?_, fun i => ?_, ?_, ?_, ?_, ?_, ?_, ?_, ?_, ?_, ?_, ?_, ?_, ?_, ?_, ?_, ?_, ?_, ?_, ?_, ?_, ?_, ?_, ?_, ?_, ?_,
    fun k => ?_, ?_, ?_, ?_⟩
  · rw [readByte_siteHead (by omega), hown]
  · rw [readByte_siteHead (by omega), hmanagers]
  · rw [readByte_siteHead (by omega), halert]
  · rw [readByte_siteHead (by omega), hreceipt]
  · rw [readByte_siteHead (by omega), hmask]
  · rw [readU_siteHead (by omega), h8]
  · rw [readU_siteHead (by omega), h10]
  · rw [readU_siteHead (by omega), h11]
  · rw [readU_siteHead (by omega), h12]
  · rw [readU_siteHead (by omega), h14]
  · rw [readU_siteHead (by omega), h16]
  · rw [readU_siteHead (by omega), h18]
  · rw [readU_siteHead (by omega), h19]
  · rw [readByte_siteHead (by omega), hshed]
  · rw [readByte_siteHead (by omega), hisland]
  · rw [readU_siteMiddle (by omega) (by omega), h25]
  · rw [readU_siteMiddle (by omega) (by omega), h26]
  · rw [readU_siteMiddle (by omega) (by omega), h28]
  · rw [readU_siteMiddle (by omega) (by omega), h32]
  · rw [readU_siteMiddle (by omega) (by omega), h36]
  · rw [readU_siteMiddle (by omega) (by omega), h40]
  · rw [readU_siteMiddle (by omega) (by omega), h44]
  · rw [readU_siteMiddle (by omega) (by omega), h48]
  · rw [readU_siteMiddle (by omega) (by omega), h52]
  · rw [readU_siteMiddle (by omega) (by omega), h53]
  · rw [readU_siteMiddle (by omega) (by omega), h57]
  · rw [readU_siteTail _ (by omega), Nat.add_sub_cancel_left, hdwell]
  · rw [readU_siteTail _ (by omega), h75]
  · rw [readU_siteTail _ (by omega), h76]
  · rw [readByte, readU_siteTail _ (by omega)]
    exact h77

end

/-! ### The record taken -/

theorem fieldMaskByte_bits (t : SiteTable) : (fieldMaskByte t).getLsbD 1 = t.maskChargerWh ∧
    (fieldMaskByte t).getLsbD 2 = t.maskPeak ∧ (fieldMaskByte t).getLsbD 3 = t.maskWait ∧
    (fieldMaskByte t).getLsbD 4 = t.maskShed ∧ (fieldMaskByte t).getLsbD 5 = t.maskBands := by
  unfold fieldMaskByte
  generalize t.maskChargerWh = a, t.maskPeak = b, t.maskWait = c, t.maskShed = d, t.maskBands = e
  revert a b c d e
  decide

theorem takeCode_sense (x held : Sense) : takeCode (senseOf x.code) held = (x, false) := by cases x <;> rfl

theorem takeNat_one (lo hi n : Nat) : (takeNat lo hi n).1 = max lo (min hi n) := rfl

theorem takeAddress_eq (b : Byte) : takeAddress b = (if b = 0xFF then 0xFE else b, decide (b = 0xFF)) := by
  unfold takeAddress
  split
  next h => rw [h]; rfl
  next h =>
    have hne : b ≠ 0xFF := h
    rw [if_neg hne, decide_eq_false hne]

/-- Whether taking a site table changes nothing of it. -/
theorem siteTaken_eq_iff (t : SiteTable) : Claims.siteTaken t = t ↔
    t.ownAddress ≠ 0xFF ∧ max 1 (min 48 t.highWater) = t.highWater ∧ max 2 (min 60 t.silenceTimeout) = t.silenceTimeout ∧
      max 5 (min 300 t.closeHold) = t.closeHold ∧ max 30 (min 3600 t.silentClose) = t.silentClose ∧
      max 60 (min 7200 t.linkLifetime) = t.linkLifetime ∧ max 1 (min 60 t.holdTime) = t.holdTime ∧
      min 2000000 t.assumedShop = t.assumedShop ∧ max 1 (min 10 t.allocPeriod) = t.allocPeriod ∧
      max 100 (min 277 t.volts) = t.volts ∧ min 2000000 t.importLimit = t.importLimit ∧
      min 2000000 t.peakTarget = t.peakTarget ∧ min 2000000 t.shedTarget = t.shedTarget ∧
      min 2000000 t.fallbackTarget = t.fallbackTarget ∧ min 100000 t.margin = t.margin ∧ min 50000 t.trimDecay = t.trimDecay ∧
      min 7 t.shedFloor = t.shedFloor ∧ min 2000000 t.fallbackBudget = t.fallbackBudget ∧
      min 600 t.restartGuard = t.restartGuard ∧ max 2 (min 60 t.grantRefresh) = t.grantRefresh ∧
      max 2 (min 60 t.settleTimeout) = t.settleTimeout := by
  have hown : (if t.ownAddress = 0xFF then 0xFE else t.ownAddress) = t.ownAddress ↔ t.ownAddress ≠ 0xFF := by
    split
    next h => rw [h]; decide
    next h => exact ⟨fun _ => h, fun _ => rfl⟩
  rw [← hown]
  cases t
  unfold Claims.siteTaken
  simp only [SiteTable.mk.injEq, true_and, and_true]

/-- What a SITE write takes of a table that its record carries, and whether anything was changed. -/
theorem takeSite_of_read (old : SiteTable) {t : SiteTable} {p : List Byte} (h : SiteRead t p) :
    (takeSite old p).1 = Claims.siteTaken t ∧ ((takeSite old p).2 = true ↔ Claims.siteTaken t ≠ t) := by
  obtain ⟨hown, hmanagers, halert, hreceipt, hmask, htolerance, hhigh, hsilence, hclose, hsilent, hlink, hhold, hshop, hshed,
    hisland, hperiod, hvolts, himport, hpeak, hshedTarget, hfallback, hmargin, hdecay, hfloor, hbudget, hguard, hdwell, hrefresh,
    hsettle, hweekend⟩ := h
  obtain ⟨m1, m2, m3, m4, m5⟩ := fieldMaskByte_bits t
  have hmanagersAll : (Vector.ofFn fun i : Fin 4 => readByte p (1 + i.val)) = t.managers :=
    Vector.ext fun i hi => by
      rw [Vector.getElem_ofFn]
      exact hmanagers ⟨i, hi⟩
  have hdwellAll : (Vector.ofFn fun k : Fin 8 => readU p (59 + 2 * k.val) 2) = t.dwell :=
    Vector.ext fun i hi => by
      rw [Vector.getElem_ofFn]
      exact hdwell ⟨i, hi⟩
  have hweek : (t.weekend.setWidth 8).setWidth 7 = t.weekend := by simp
  have hvalue : (takeSite old p).1 = Claims.siteTaken t := by
    unfold takeSite Claims.siteTaken
    dsimp only
    rw [hown, hmanagersAll, halert, hreceipt, hmask, m1, m2, m3, m4, m5, htolerance, hhigh, hsilence, hclose, hsilent, hlink, hhold,
      hshop, hshed, hisland, hperiod, hvolts, himport, hpeak, hshedTarget, hfallback, hmargin, hdecay, hfloor, hbudget, hguard,
      hdwellAll, hrefresh, hsettle, hweekend, hweek, takeCode_sense, takeCode_sense, takeAddress_eq]
    simp only [takeNat_one, Nat.zero_max]
  refine ⟨hvalue, ?_⟩
  rw [← not_iff_not, Bool.not_eq_true, not_not, siteTaken_eq_iff]
  unfold takeSite
  dsimp only
  rw [hown, hhigh, hsilence, hclose, hsilent, hlink, hhold, hshop, hshed, hisland, hperiod, hvolts, himport, hpeak, hshedTarget,
    hfallback, hmargin, hdecay, hfloor, hbudget, hguard, hrefresh, hsettle, takeCode_sense, takeCode_sense, takeAddress_eq]
  simp only [takeNat, Nat.zero_max, List.any_cons, List.any_nil, id_eq, Bool.or_eq_false_iff, decide_eq_false_iff_not, not_not,
    true_and, and_true, ne_eq]

end Sys2Proof.Machine
end

section
/-! The BATTERY and CANOPY records read back field by field (O34). -/

namespace Sys2Proof.Machine

/-! ### BATTERY -/

/-- The fields of a battery table, each read from its place in a record (10.6). -/
structure BatteryRead (t : BatteryTable) (p : List Byte) : Prop where
  charge : readU p 0 4 = t.chargeRating
  discharge : readU p 4 4 = t.dischargeRating
  reserveEnter : readU p 8 2 = t.reserveEnter
  reserveExit : readU p 10 2 = t.reserveExit
  fullStop : readU p 12 2 = t.fullStop
  fullResume : readU p 14 2 = t.fullResume
  target : readU p 16 2 = t.topUpTarget
  control : readByte p 18 = t.control.code
  step : readU p 19 2 = t.step
  refresh : readU p 21 1 = t.refresh

theorem batteryRead {t : BatteryTable} (hcharge : t.chargeRating < 4294967296) (hdischarge : t.dischargeRating < 4294967296)
    (hrefresh : t.refresh < 256)
    (hwords : ∀ n ∈ [t.reserveEnter, t.reserveExit, t.fullStop, t.fullResume, t.topUpTarget, t.step], n < 65536) :
    BatteryRead t (batteryRecord t) := by
  simp only [List.forall_mem_cons] at hwords
  unfold batteryRecord
  simp only [List.append_assoc]
  refine ⟨readU_fieldU_append _ (by omega), ?_, ?_, ?_, ?_, ?_, ?_, ?control, ?_, ?refresh⟩
  case control =>
    simp (disch := simp) only [readByte_behind, fieldU_length, Nat.reduceSub]
    exact readByte_cons _ _
  case refresh =>
    simp (disch := simp) only [readU_behind, List.length_cons, List.length_nil, fieldU_length, Nat.zero_add, Nat.reduceSub]
    exact readU_fieldU (by omega)
  all_goals
    simp (disch := simp) only [readU_behind, List.length_cons, List.length_nil, fieldU_length, Nat.zero_add, Nat.reduceSub]
    exact readU_fieldU_append _ (by omega)

theorem takeCode_control (x held : Control) : takeCode (controlOf x.code) held = (x, false) := by cases x <;> rfl

theorem batteryTaken_eq_iff (t : BatteryTable) : Claims.batteryTaken t = t ↔
    min 500000 t.chargeRating = t.chargeRating ∧ min 500000 t.dischargeRating = t.dischargeRating ∧
      min 1000 t.reserveEnter = t.reserveEnter ∧ min 1000 t.reserveExit = t.reserveExit ∧ min 1000 t.fullStop = t.fullStop ∧
      min 1000 t.fullResume = t.fullResume ∧ min 1000 t.topUpTarget = t.topUpTarget ∧ min 10000 t.step = t.step ∧
      max 2 (min 60 t.refresh) = t.refresh := by
  cases t
  unfold Claims.batteryTaken
  simp only [BatteryTable.mk.injEq, true_and]

/-- What a BATTERY write takes of a table that its record carries, and whether anything was changed. -/
theorem takeBattery_of_read (old : BatteryTable) {t : BatteryTable} {p : List Byte} (h : BatteryRead t p) :
    (takeBattery old p).1 = Claims.batteryTaken t ∧ ((takeBattery old p).2 = true ↔ Claims.batteryTaken t ≠ t) := by
  obtain ⟨hcharge, hdischarge, henter, hexit, hstop, hresume, htarget, hcontrol, hstep, hrefresh⟩ := h
  have htaken : takeBattery old p = (Claims.batteryTaken t,
      [decide (min 500000 t.chargeRating ≠ t.chargeRating), decide (min 500000 t.dischargeRating ≠ t.dischargeRating),
        decide (min 1000 t.reserveEnter ≠ t.reserveEnter), decide (min 1000 t.reserveExit ≠ t.reserveExit),
        decide (min 1000 t.fullStop ≠ t.fullStop), decide (min 1000 t.fullResume ≠ t.fullResume),
        decide (min 1000 t.topUpTarget ≠ t.topUpTarget), false, decide (min 10000 t.step ≠ t.step),
        decide (max 2 (min 60 t.refresh) ≠ t.refresh)].any id) := by
    unfold takeBattery Claims.batteryTaken
    dsimp only
    rw [hcharge, hdischarge, henter, hexit, hstop, hresume, htarget, hcontrol, hstep, hrefresh, takeCode_control]
    simp only [takeNat, Nat.zero_max]
  rw [htaken]
  refine ⟨rfl, ?_⟩
  rw [← not_iff_not, Bool.not_eq_true, not_not, batteryTaken_eq_iff]
  simp only [List.any_cons, List.any_nil, id_eq, Bool.or_eq_false_iff, decide_eq_false_iff_not, not_not, true_and, and_true,
    ne_eq]

/-! ### CANOPY -/

/-- The bytes of a string in a CANOPY record. -/
def stringBytes (c : StringConfig) : List Byte := fieldB c.enabled :: (fieldU 4 c.rating ++ fieldU 4 c.floor)

/-- The 82 written bytes of a CANOPY record. -/
def canopyBytes (t : CanopyTable) : List Byte :=
  [fieldB t.enabled] ++ (fieldU 4 t.limit ++ (fieldU 4 t.deadband ++ (fieldU 1 t.period ++
    (t.strings.toList.map stringBytes).flatten)))

theorem stringBytes_length (c : StringConfig) : (stringBytes c).length = 9 := by simp [stringBytes]

theorem stringsBytes_length (l : List StringConfig) : ((l.map stringBytes).flatten).length = 9 * l.length := by
  induction l with
  | nil => rfl
  | cons c l ih =>
    rw [List.map_cons, List.flatten_cons, List.length_append, stringBytes_length, ih, List.length_cons]
    omega

theorem canopyBytes_length (t : CanopyTable) : (canopyBytes t).length = 82 := by
  have hstrings : ((t.strings.toList.map stringBytes).flatten).length = 72 := by
    rw [stringsBytes_length, Vector.length_toList]
  rw [canopyBytes, List.length_append, List.length_append, List.length_append, List.length_append, hstrings]
  simp

theorem canopyRecord_taken (s : State) : s.canopyRecord.take 82 = canopyBytes s.cc.table := by
  have hsplit : s.canopyRecord = canopyBytes s.cc.table ++
      (List.finRange 8).map fun j => match s.stringEntry j with | some (_, e) => e.address | none => 0xFF := by
    unfold State.canopyRecord canopyBytes
    simp only [List.append_assoc] <;> rfl
  rw [hsplit, List.take_append_of_le_length (by rw [canopyBytes_length]), List.take_of_length_le (by rw [canopyBytes_length])]

/-- The fields of a canopy table, each read from its place in a record (10.6). -/
structure CanopyRead (t : CanopyTable) (p : List Byte) : Prop where
  enabled : readByte p 0 = fieldB t.enabled
  limit : readU p 1 4 = t.limit
  deadband : readU p 5 4 = t.deadband
  period : readU p 9 1 = t.period
  stringEnabled (j : Fin 8) : readByte p (10 + 9 * j.val) = fieldB t.strings[j].enabled
  rating (j : Fin 8) : readU p (10 + 9 * j.val + 1) 4 = t.strings[j].rating
  floor (j : Fin 8) : readU p (10 + 9 * j.val + 5) 4 = t.strings[j].floor

theorem readU_canopyString (t : CanopyTable) (j : Fin 8) {o w : Nat} (h : o + w ≤ 9) :
    readU (canopyBytes t) (10 + 9 * j.val + o) w = readU (stringBytes t.strings[j]) o w := by
  have hj : j.val < (t.strings.toList.map stringBytes).length := by simp
  have hlength : ∀ e ∈ t.strings.toList.map stringBytes, e.length = 9 := by
    intro e he
    obtain ⟨c, -, rfl⟩ := List.mem_map.mp he
    exact stringBytes_length c
  have hread := readU_flatten hlength hj h []
  rw [List.append_nil, List.getElem_map, Vector.getElem_toList] at hread
  have hoff : 10 + 9 * j.val + o - 1 - 4 - 4 - 1 = 9 * j.val + o := by omega
  rw [canopyBytes, readU_behind _ _ (by simp; omega), readU_behind _ _ (by simp; omega), readU_behind _ _ (by simp; omega),
    readU_behind _ _ (by simp; omega), List.length_singleton, fieldU_length, fieldU_length, fieldU_length, hoff]
  exact hread

theorem canopyRead {t : CanopyTable} (hlimit : t.limit < 4294967296) (hdeadband : t.deadband < 4294967296)
    (hperiod : t.period < 256)
    (hstrings : ∀ j : StringNo, t.strings[j].rating < 4294967296 ∧ t.strings[j].floor < 4294967296) :
    CanopyRead t (canopyBytes t) := by
  refine ⟨readByte_cons _ _, ?_, ?_, ?_, fun j => ?_, fun j => ?_, fun j => ?_⟩
  · rw [canopyBytes, readU_behind _ _ (by simp), List.length_singleton, Nat.sub_self]
    exact readU_fieldU_append _ (by omega)
  · rw [canopyBytes, readU_behind _ _ (by simp), readU_behind _ _ (by simp), fieldU_length]
    exact readU_fieldU_append _ (by omega)
  · rw [canopyBytes, readU_behind _ _ (by simp), readU_behind _ _ (by simp), readU_behind _ _ (by simp), fieldU_length,
      fieldU_length]
    exact readU_fieldU_append _ (by omega)
  · have hread := readU_canopyString t j (o := 0) (w := 1) (by omega)
    rw [Nat.add_zero] at hread
    rw [readByte, hread]
    exact readByte_cons _ _
  · obtain ⟨hrating, -⟩ := hstrings j
    rw [readU_canopyString t j (by omega), stringBytes, readU_cons _ _ _ (by omega)]
    exact readU_fieldU_append _ (by omega)
  · obtain ⟨-, hfloor⟩ := hstrings j
    rw [readU_canopyString t j (by omega), stringBytes, readU_cons _ _ _ (by omega), readU_behind _ _ (by simp), fieldU_length]
    exact readU_fieldU (by omega)

theorem takeCode_yesNo (x held : Bool) : takeCode (yesNoOf (fieldB x)) held = (x, false) := by cases x <;> rfl

/-- A string of a canopy table as a write takes it. -/
def StringConfig.written (c : StringConfig) : StringConfig :=
  { c with rating := min 500000 c.rating, floor := min (min 500000 c.rating) c.floor }

theorem StringConfig.written_eq_iff (c : StringConfig) : c.written = c ↔
    min 500000 c.rating = c.rating ∧ min (min 500000 c.rating) c.floor = c.floor := by
  cases c
  simp only [StringConfig.written, StringConfig.mk.injEq, true_and]

theorem canopyTaken_eq_iff (t : CanopyTable) : Claims.canopyTaken t = t ↔
    min 1000000 t.limit = t.limit ∧ min 100000 t.deadband = t.deadband ∧ max 2 (min 60 t.period) = t.period ∧
      ∀ j : Fin 8, t.strings[j].written = t.strings[j] := by
  have hstrings : t.strings.map StringConfig.written = t.strings ↔ ∀ j : Fin 8, t.strings[j].written = t.strings[j] := by
    refine ⟨fun h j => ?_, fun h => Vector.ext fun i hi => ?_⟩
    · have hj := congrArg (fun v : Vector StringConfig 8 => v[j]) h
      simpa using hj
    · rw [Vector.getElem_map]
      exact h ⟨i, hi⟩
  rw [← hstrings]
  cases t
  unfold Claims.canopyTaken
  simp only [CanopyTable.mk.injEq, true_and]
  rfl

/-- What a CANOPY write takes of a table that its record carries, and whether anything was changed. -/
theorem takeCanopy_of_read (old : CanopyTable) {t : CanopyTable} {p : List Byte} (h : CanopyRead t p) :
    (takeCanopy old p).1 = Claims.canopyTaken t ∧ ((takeCanopy old p).2 = true ↔ Claims.canopyTaken t ≠ t) := by
  obtain ⟨henabled, hlimit, hdeadband, hperiod, hon, hrating, hfloor⟩ := h
  have hstring (j : Fin 8) : takeString old.strings[j] p (10 + 9 * j.val) =
      (t.strings[j].written, decide (t.strings[j].written ≠ t.strings[j])) := by
    have hflag : decide (t.strings[j].written ≠ t.strings[j]) =
        (decide (min 500000 t.strings[j].rating ≠ t.strings[j].rating) ||
          decide (min (min 500000 t.strings[j].rating) t.strings[j].floor ≠ t.strings[j].floor)) := by
      rw [Bool.eq_iff_iff, decide_eq_true_eq, Ne, StringConfig.written_eq_iff, not_and_or, Bool.or_eq_true, decide_eq_true_eq,
        decide_eq_true_eq]
    unfold takeString
    dsimp only
    rw [hon, hrating, hfloor, takeCode_yesNo, hflag]
    simp only [takeNat, Nat.zero_max, Bool.false_or]
    rfl
  have htaken : takeCanopy old p = (Claims.canopyTaken t,
      decide (min 1000000 t.limit ≠ t.limit) || decide (min 100000 t.deadband ≠ t.deadband) ||
        decide (max 2 (min 60 t.period) ≠ t.period) ||
        (List.finRange 8).any fun j : Fin 8 => decide (t.strings[j].written ≠ t.strings[j])) := by
    unfold takeCanopy Claims.canopyTaken
    dsimp only
    have hvector : (Vector.ofFn fun j : Fin 8 => t.strings[j].written) = t.strings.map StringConfig.written :=
      Vector.ext fun i hi => by rw [Vector.getElem_ofFn, Vector.getElem_map]; rfl
    simp only [hstring, henabled, hlimit, hdeadband, hperiod, takeCode_yesNo, takeNat, Nat.zero_max, Bool.false_or, hvector]
    rfl
  rw [htaken]
  refine ⟨rfl, ?_⟩
  rw [← not_iff_not, Bool.not_eq_true, not_not, canopyTaken_eq_iff]
  simp only [Bool.or_eq_false_iff, decide_eq_false_iff_not, not_not, ne_eq, List.any_eq_false, List.mem_finRange, forall_const,
    decide_eq_true_eq, and_assoc]

end Sys2Proof.Machine
end

section
/-! The STATION and BAY records read back (O34). -/

namespace Sys2Proof.Machine

/-! ### STATION -/

theorem readU_four (a b c d : Byte) : readU [a, b, c, d] 3 1 = d.toNat := by
  simp [readU, slice, natOfBytes]

theorem takeNat_changed (lo hi n : Nat) (h : lo ≤ hi) : (takeNat lo hi n).2 = true ↔ n < lo ∨ hi < n := by
  simp only [takeNat, decide_eq_true_eq]
  omega

section
variable {old : Option Station} {address code index divider : Byte}

/-- A role that names no station leaves the position empty. -/
theorem takeStation_none (h : takeRole (takeRoleCode old code).1 index = none) :
    takeStation old [address, code, index, divider] = (none, (takeRoleCode old code).2) := by
  have hcode : readByte [address, code, index, divider] 1 = code := readByte_getElem (by simp)
  have hindex : readByte [address, code, index, divider] 2 = index := readByte_getElem (by simp)
  unfold takeStation
  dsimp only
  rw [hcode, hindex, h]

/-- A role that names a station is taken with the address and the divider in their ranges. -/
theorem takeStation_some {role : Role × Bool} (h : takeRole (takeRoleCode old code).1 index = some role) :
    takeStation old [address, code, index, divider] =
      (some ⟨if address = 0xFF then 0xFE else address, role.1, max 1 (min 16 divider.toNat)⟩,
        (takeRoleCode old code).2 || role.2 || decide (address = 0xFF) || (takeNat 1 16 divider.toNat).2) := by
  have haddress : readByte [address, code, index, divider] 0 = address := readByte_getElem (by simp)
  have hcode : readByte [address, code, index, divider] 1 = code := readByte_getElem (by simp)
  have hindex : readByte [address, code, index, divider] 2 = index := readByte_getElem (by simp)
  unfold takeStation
  dsimp only
  rw [hcode, hindex, h, haddress, readU_four, takeAddress_eq] <;> rfl

/-- The role of a defined code, and whether its index was changed. -/
theorem takeRole_eq (index : Byte) (h : code.toNat ≤ 5) :
    takeRole code index = (Claims.roleWritten code index).map fun role =>
      (role, decide ((code = 1 ∧ 31 < index.toNat) ∨ (code = 4 ∧ 7 < index.toNat))) := by
  have hmoved (hi : Nat) : (takeNat 0 hi index.toNat).2 = decide (hi < index.toNat) := by
    rw [Bool.eq_iff_iff, takeNat_changed _ _ _ (Nat.zero_le _), decide_eq_true_eq]
    omega
  have hcode : code = BitVec.ofNat 8 code.toNat := by simp
  generalize code.toNat = n at h hcode
  subst hcode
  interval_cases n
  · rfl
  · have hbay : (Fin.ofNat 32 (takeNat 0 31 index.toNat).1) = ⟨min 31 index.toNat, by omega⟩ :=
      Fin.ext (by simp only [takeNat, Fin.ofNat, Nat.zero_max]; exact Nat.mod_eq_of_lt (by omega))
    show some (Role.charger (Fin.ofNat 32 (takeNat 0 31 index.toNat).1), (takeNat 0 31 index.toNat).2) = _
    rw [hbay, hmoved]
    simp [Claims.roleWritten]
  · rfl
  · rfl
  · have hstring : (Fin.ofNat 8 (takeNat 0 7 index.toNat).1) = ⟨min 7 index.toNat, by omega⟩ :=
      Fin.ext (by simp only [takeNat, Fin.ofNat, Nat.zero_max]; exact Nat.mod_eq_of_lt (by omega))
    show some (Role.pvString (Fin.ofNat 8 (takeNat 0 7 index.toNat).1), (takeNat 0 7 index.toNat).2) = _
    rw [hstring, hmoved]
    simp [Claims.roleWritten]
  · rfl

theorem roleWritten_eq_none (h : code.toNat ≤ 5) : Claims.roleWritten code index = none ↔ code = 0 := by
  have hcode : code = BitVec.ofNat 8 code.toNat := by simp
  generalize code.toNat = n at h hcode
  subst hcode
  interval_cases n <;> simp [Claims.roleWritten]

theorem takeRoleCode_defined (old : Option Station) (h : code.toNat ≤ 5) : takeRoleCode old code = (code, false) := if_pos h

theorem Role.code_le (role : Role) : role.code.toNat ≤ 5 := by cases role <;> simp [Role.code]

theorem takeRole_charger : ∀ b : BayNo, takeRole 1 (byteOf b.val) = some (.charger b, false) := by decide

theorem takeRole_pvString : ∀ j : StringNo, takeRole 4 (byteOf j.val) = some (.pvString j, false) := by decide

/-- A STATION record of a defined role code is taken with each field at the nearer end of its range. -/
theorem takeStation_defined (old : Option Station) (address index divider : Byte) (h : code.toNat ≤ 5) :
    (takeStation old [address, code, index, divider]).1 =
      (Claims.roleWritten code index).map
        (fun role => ⟨if address = 0xFF then 0xFE else address, role, max 1 (min 16 divider.toNat)⟩) ∧
      ((takeStation old [address, code, index, divider]).2 = true ↔
        code ≠ 0 ∧ (address = 0xFF ∨ divider = 0 ∨ 16 < divider.toNat ∨ (code = 1 ∧ 31 < index.toNat) ∨
          (code = 4 ∧ 7 < index.toNat))) := by
  have hcode := takeRoleCode_defined old h
  have hrole := takeRole_eq index h
  have hempty := roleWritten_eq_none (index := index) h
  cases hwritten : Claims.roleWritten code index with
  | none =>
    have hzero : code = 0 := hempty.mp hwritten
    rw [hwritten] at hrole
    rw [takeStation_none (by rw [hcode, hrole]; rfl), hcode]
    exact ⟨rfl, by simp [hzero]⟩
  | some role =>
    have hsome : code ≠ 0 := fun hzero => by
      rw [hempty.mpr hzero] at hwritten
      cases hwritten
    have hdivider : divider = 0 ↔ divider.toNat < 1 := by
      rw [Nat.lt_one_iff, ← BitVec.toNat_inj]
      rfl
    rw [hwritten] at hrole
    rw [takeStation_some (by rw [hcode, hrole]; rfl), hcode]
    refine ⟨rfl, ?_⟩
    simp only [Bool.false_or, Bool.or_eq_true, takeNat_changed 1 16 _ (by omega), decide_eq_true_eq, hdivider, hsome, ne_eq,
      not_false_eq_true, true_and]
    tauto

/-- An undefined role code is taken as the role held before (log entry 36). -/
theorem takeStation_undefined (old : Option Station) (address index divider : Byte) (h : 5 < code.toNat) :
    takeStation old [address, code, index, divider] =
      ((takeStation old [address, (old.map fun e => e.role.code).getD 0, index, divider]).1, true) := by
  have hcode : takeRoleCode old code = ((old.map fun e => e.role.code).getD 0, true) := if_neg (by omega)
  have hheld : ((old.map fun e : Station => e.role.code).getD 0).toNat ≤ 5 := by
    cases old with
    | none => decide
    | some e =>
      exact Role.code_le e.role
  have hdefined := takeRoleCode_defined old hheld
  generalize (old.map fun e : Station => e.role.code).getD 0 = held at hcode hdefined
  cases hrole : takeRole held index with
  | none => rw [takeStation_none (by rw [hcode, hrole]), takeStation_none (by rw [hdefined, hrole]), hcode]
  | some role =>
    rw [takeStation_some (by rw [hcode, hrole]), takeStation_some (by rw [hdefined, hrole]), hcode]
    simp only [Bool.true_or]

/-- A STATION record reads back as its entry. -/
theorem takeStation_record (old : Option Station) {e : Station} (haddress : e.address ≠ 0xFF) (hlow : 1 ≤ e.divider)
    (hhigh : e.divider ≤ 16) : takeStation old (stationRecord (some e)) = (some e, false) := by
  obtain ⟨address, role, divider⟩ := e
  dsimp only at haddress hlow hhigh
  have hdivider : (byteOf divider).toNat = divider := by
    rw [byteOf, BitVec.toNat_ofNat]
    exact Nat.mod_eq_of_lt (by omega)
  have hrole : takeRole (takeRoleCode old role.code).1 (byteOf role.index) = some (role, false) := by
    rw [takeRoleCode_defined old (Role.code_le role)]
    cases role with
    | charger b => exact takeRole_charger b
    | pvString j => exact takeRole_pvString j
    | gridMeter | shopMeter | battery => rfl
  have hcode : (takeRoleCode old role.code).2 = false := by rw [takeRoleCode_defined old (Role.code_le role)]
  have hunchanged : (takeNat 1 16 divider).2 = false := by
    rw [← Bool.not_eq_true, takeNat_changed _ _ _ (by omega)]
    omega
  have htaken : max 1 (min 16 divider) = divider := by omega
  unfold stationRecord
  rw [takeStation_some hrole, hdivider, hcode, hunchanged, htaken, if_neg haddress, decide_eq_false haddress]
  rfl

end

theorem takeStation_empty (old : Option Station) : takeStation old (stationRecord none) = (none, false) := rfl

/-! ### BAY -/

/-- A BAY record reads back as its configuration. -/
theorem takeBay_bayRecord (old : BayConfig) {c : BayConfig} (h : c.cap ≤ 800) : takeBay old (bayRecord c) = (c, false) := by
  obtain ⟨enabled, cls, cap⟩ := c
  have hcls : (byteOf cls.val).toNat = cls.val := by
    rw [byteOf, BitVec.toNat_ofNat]
    exact Nat.mod_eq_of_lt (by omega)
  have hfits : cap < 65536 := Nat.lt_of_le_of_lt h (by omega)
  have hfield : fieldU 2 cap = bytesOf 2 cap := if_pos hfits
  have hread := takeBay_record old enabled (byteOf cls.val) hfits
  have hcap : min 800 cap = cap := Nat.min_eq_right h
  have hclass : min 7 cls.val = cls.val := by omega
  rw [bayRecord, hfield]
  refine hread.trans (Prod.ext ?_ (decide_eq_false ?_))
  · simp only [hcls, hclass, hcap]
  · rw [hcls]
    have hc : cap ≤ 800 := h
    omega

end Sys2Proof.Machine
end

section
/-! The TARIFF record read back (O34). -/

namespace Sys2Proof.Machine

/-- The bytes of a band in a TARIFF record. -/
def bandBytes (b : Band) : List Byte := fieldU 2 b.start ++ (fieldU 2 b.gridPrice ++ (fieldU 2 b.greenPrice ++ [bandFlags b]))

theorem bandBytes_length (b : Band) : (bandBytes b).length = 7 := by simp [bandBytes]

theorem bandFlags_bits (b : Band) : (bandFlags b).getLsbD 0 = b.peak ∧ (bandFlags b).getLsbD 1 = b.cheap := by
  unfold bandFlags
  generalize b.peak = x, b.cheap = y
  revert x y
  decide

theorem tariffRecord_eq (p : Profile) :
    tariffRecord p = fieldU 1 p.bands.length ++ (p.bands.map bandBytes).flatten := by
  unfold tariffRecord bandBytes
  simp only [List.append_assoc]

theorem tariffRecord_length (p : Profile) : (tariffRecord p).length = 1 + 7 * p.bands.length := by
  have hbands (l : List Band) : ((l.map bandBytes).flatten).length = 7 * l.length := by
    induction l with
    | nil => rfl
    | cons b l ih =>
      rw [List.map_cons, List.flatten_cons, List.length_append, bandBytes_length, ih, List.length_cons]
      omega
  rw [tariffRecord_eq, List.length_append, fieldU_length, hbands]

/-- A field of a band stands at its place in the record. -/
theorem readU_tariffBand (p : Profile) {i : Nat} (hi : i < p.bands.length) {o w : Nat} (h : o + w ≤ 7) :
    readU (tariffRecord p) (1 + 7 * i + o) w = readU (bandBytes p.bands[i]) o w := by
  have hlength : ∀ e ∈ p.bands.map bandBytes, e.length = 7 := by
    intro e he
    obtain ⟨b, -, rfl⟩ := List.mem_map.mp he
    exact bandBytes_length b
  have hread := readU_flatten hlength (by rwa [List.length_map] : i < (p.bands.map bandBytes).length) h []
  have hoff : 1 + 7 * i + o - 1 = 7 * i + o := by omega
  rw [List.append_nil, List.getElem_map] at hread
  rw [tariffRecord_eq, readU_behind _ _ (by rw [fieldU_length]; omega), fieldU_length, hoff]
  exact hread

/-- The band at a position of a TARIFF record is that of the profile, its start taken into its range. -/
theorem takeBand_record {p : Profile} {i : Nat} (hi : i < p.bands.length) (hstart : p.bands[i].start < 65536)
    (hgrid : p.bands[i].gridPrice < 65536) (hgreen : p.bands[i].greenPrice < 65536) :
    takeBand (tariffRecord p) i = (Claims.bandTaken p.bands[i], decide (1439 < p.bands[i].start)) := by
  have h0 : readU (tariffRecord p) (1 + 7 * i) 2 = p.bands[i].start := by
    have hread := readU_tariffBand p hi (o := 0) (w := 2) (by omega)
    rw [Nat.add_zero] at hread
    rw [hread]
    exact readU_fieldU_append _ hstart
  have h2 : readU (tariffRecord p) (1 + 7 * i + 2) 2 = p.bands[i].gridPrice := by
    rw [readU_tariffBand p hi (by omega), bandBytes, readU_behind _ _ (by simp), fieldU_length]
    exact readU_fieldU_append _ hgrid
  have h4 : readU (tariffRecord p) (1 + 7 * i + 4) 2 = p.bands[i].greenPrice := by
    rw [readU_tariffBand p hi (by omega), bandBytes, readU_behind _ _ (by simp), fieldU_length, readU_behind _ _ (by simp),
      fieldU_length]
    exact readU_fieldU_append _ hgreen
  have h6 : readByte (tariffRecord p) (1 + 7 * i + 6) = bandFlags p.bands[i] := by
    rw [readByte, readU_tariffBand p hi (by omega), bandBytes, readU_behind _ _ (by simp), fieldU_length,
      readU_behind _ _ (by simp), fieldU_length, readU_behind _ _ (by simp), fieldU_length]
    exact readByte_cons _ _
  obtain ⟨hpeak, hcheap⟩ := bandFlags_bits p.bands[i]
  have hflag : (takeNat 0 1439 p.bands[i].start).2 = decide (1439 < p.bands[i].start) := by
    rw [Bool.eq_iff_iff, takeNat_changed _ _ _ (Nat.zero_le _), decide_eq_true_eq]
    omega
  unfold takeBand Claims.bandTaken
  dsimp only
  rw [h0, h2, h4, h6, hpeak, hcheap, hflag, takeNat_one, Nat.zero_max]

/-- What a TARIFF write takes of a profile that its record carries, and whether anything was changed. -/
theorem takeProfile_record {p : Profile} (hcount : p.bands.length ≤ 8)
    (hbands : ∀ x ∈ p.bands, x.start < 65536 ∧ x.gridPrice < 65536 ∧ x.greenPrice < 65536) :
    takeProfile (tariffRecord p) = (⟨Claims.bandTaken p.first, p.rest.map Claims.bandTaken⟩,
      p.bands.any fun x => decide (1439 < x.start)) := by
  have hpositive : p.bands.length = p.rest.length + 1 := rfl
  have hread : readU (tariffRecord p) 0 1 = p.bands.length := by
    rw [tariffRecord_eq]
    exact readU_fieldU_append _ (by omega)
  have hunchanged : (takeNat 1 8 p.bands.length).2 = false := by
    rw [← Bool.not_eq_true, takeNat_changed _ _ _ (by omega)]
    omega
  have htaken : max 1 (min 8 p.bands.length) - 1 = p.rest.length := by omega
  have hband (i : Nat) (hi : i < p.bands.length) :
      takeBand (tariffRecord p) i = (Claims.bandTaken p.bands[i], decide (1439 < p.bands[i].start)) := by
    obtain ⟨hstart, hgrid, hgreen⟩ := hbands p.bands[i] (List.getElem_mem hi)
    exact takeBand_record hi hstart hgrid hgreen
  have hrest : ((List.range p.rest.length).map fun i => takeBand (tariffRecord p) (i + 1)) =
      p.rest.map fun x => (Claims.bandTaken x, decide (1439 < x.start)) := by
    refine List.ext_getElem (by simp) fun i hi hi' => ?_
    have hrestIndex : i < p.rest.length := by simpa using hi'
    rw [List.getElem_map, List.getElem_range, List.getElem_map, hband (i + 1) (by omega)]
    rfl
  have hfirst := hband 0 (by omega)
  unfold takeProfile takeCount
  dsimp only
  rw [hread, hunchanged, takeNat_one, htaken, hrest, hfirst]
  simp only [List.map_map, List.any_map, Bool.false_or]
  rfl

/-! ### A count out of its range -/

theorem takeBand_cons (count other : Byte) (bands : List Byte) (i : Nat) :
    takeBand (count :: bands) i = takeBand (other :: bands) i := by
  unfold takeBand
  dsimp only
  rw [readU_cons count _ _ (by omega), readU_cons count _ _ (by omega), readU_cons count _ _ (by omega),
    readByte_cons_succ count _ (by omega), readU_cons other _ _ (by omega), readU_cons other _ _ (by omega),
    readU_cons other _ _ (by omega), readByte_cons_succ other _ (by omega)]

theorem takeCount_cons (count : Byte) (bands : List Byte) : takeCount (count :: bands) = takeNat 1 8 count.toNat := by
  have hread : readU (count :: bands) 0 1 = count.toNat := by simp [readU, slice, natOfBytes]
  rw [takeCount, hread]

/-- A count out of its range is taken as the nearer end, and the answer is CLAMPED. -/
theorem takeProfile_count_out (count : Byte) (bands : List Byte) (h : count = 0 ∨ 8 < count.toNat) :
    takeProfile (count :: bands) = ((takeProfile ((if count = 0 then 1 else 8) :: bands)).1, true) := by
  have hout : takeNat 1 8 count.toNat = ((takeNat 1 8 (if count = 0 then (1 : Byte) else 8).toNat).1, true) := by
    rcases h with rfl | h
    · rfl
    · have hzero : count ≠ 0 := fun hzero => by
        rw [hzero] at h
        exact absurd h (by decide)
      rw [if_neg hzero]
      refine Prod.ext ?_ ?_
      · show max 1 (min 8 count.toNat) = 8
        omega
      · show (takeNat 1 8 count.toNat).2 = true
        rw [takeNat_changed _ _ _ (by omega)]
        omega
  have hband (i : Nat) : takeBand (count :: bands) i = takeBand ((if count = 0 then 1 else 8) :: bands) i :=
    takeBand_cons _ _ _ _
  unfold takeProfile
  dsimp only
  simp only [takeCount_cons, hout, hband, Bool.true_or]

/-- A TARIFF record of a profile in its ranges fits, and reads back as the profile. -/
theorem takeProfile_readBack {p : Profile} (h : p.inRange) :
    tariffFits (tariffRecord p) = true ∧ takeProfile (tariffRecord p) = (p, false) := by
  obtain ⟨hcount, hbands⟩ := h
  have hfits : ∀ x ∈ p.bands, x.start < 65536 ∧ x.gridPrice < 65536 ∧ x.greenPrice < 65536 := fun x hx => by
    obtain ⟨hstart, hgrid, hgreen⟩ := hbands x hx
    omega
  have hsame : ∀ x ∈ p.bands, Claims.bandTaken x = x := fun x hx => by
    obtain ⟨hstart, -, -⟩ := hbands x hx
    obtain ⟨start, gridPrice, greenPrice, peak, cheap⟩ := x
    show Band.mk (min 1439 start) _ _ _ _ = _
    rw [Nat.min_eq_right hstart]
  have hpositive : p.bands.length = p.rest.length + 1 := rfl
  have hread : readU (tariffRecord p) 0 1 = p.bands.length := by
    rw [tariffRecord_eq]
    exact readU_fieldU_append _ (by omega)
  constructor
  · rw [tariffFits_iff, tariffRecord_length, hread]
    omega
  · have hunchanged : (p.bands.any fun x => decide (1439 < x.start)) = false := by
      rw [List.any_eq_false]
      intro x hx
      obtain ⟨hstart, -, -⟩ := hbands x hx
      rw [decide_eq_true_eq]
      omega
    rw [takeProfile_record hcount hfits, hunchanged, hsame p.first List.mem_cons_self,
      List.map_congr_left fun x hx => hsame x (List.mem_cons_of_mem _ hx), List.map_id']

end Sys2Proof.Machine
end

section
/-! An undefined code in a written record is taken as the value held before (O34, R181). -/

namespace Sys2Proof.Machine

/-! ### The codes -/

theorem takeCode_sense_undefined {code : Byte} (held : Sense) (h : 3 < code.toNat) : takeCode (senseOf code) held = (held, true) := by
  have hread : senseOf code = none := by
    unfold senseOf
    split <;> [omega; omega; omega; omega; rfl]
  rw [hread]
  rfl

theorem takeCode_control_undefined {code : Byte} (held : Control) (h : 1 < code.toNat) :
    takeCode (controlOf code) held = (held, true) := by
  have hread : controlOf code = none := by
    unfold controlOf
    split <;> [omega; omega; rfl]
  rw [hread]
  rfl

theorem takeCode_yesNo_undefined {code : Byte} (held : Bool) (h : 1 < code.toNat) :
    takeCode (yesNoOf code) held = (held, true) := by
  have hread : yesNoOf code = none := by
    unfold yesNoOf
    split <;> [omega; omega; rfl]
  rw [hread]
  rfl

/-! ### SITE -/

section
variable (old : SiteTable) (record : List Byte) (code : Byte)

theorem takeSite_shedSense (hlength : record.length = 78) (h : 3 < code.toNat) :
    takeSite old (record.set 23 code) = ({ (takeSite old record).1 with shedSense := old.shedSense }, true) := by
  have hcode : readByte (record.set 23 code) 23 = code := readByte_set_self code (by omega)
  unfold takeSite
  dsimp only
  simp (disch := omega) only [readU_set, readByte_set, hcode, takeCode_sense_undefined, List.any_cons, id_eq, Bool.or_true, Bool.true_or]

theorem takeSite_islandSense (hlength : record.length = 78) (h : 3 < code.toNat) :
    takeSite old (record.set 24 code) = ({ (takeSite old record).1 with islandSense := old.islandSense }, true) := by
  have hcode : readByte (record.set 24 code) 24 = code := readByte_set_self code (by omega)
  unfold takeSite
  dsimp only
  simp (disch := omega) only [readU_set, readByte_set, hcode, takeCode_sense_undefined, List.any_cons, id_eq, Bool.or_true, Bool.true_or]

end

/-! ### BATTERY and BAY -/

theorem takeBattery_control (old : BatteryTable) (record : List Byte) (code : Byte) (hlength : record.length = 22)
    (h : 1 < code.toNat) :
    takeBattery old (record.set 18 code) = ({ (takeBattery old record).1 with control := old.control }, true) := by
  have hcode : readByte (record.set 18 code) 18 = code := readByte_set_self code (by omega)
  unfold takeBattery
  dsimp only
  simp (disch := omega) only [readU_set, hcode, takeCode_control_undefined, List.any_cons, id_eq, Bool.or_true, Bool.true_or]

theorem takeBay_enabled (old : BayConfig) (record : List Byte) (code : Byte) (hlength : record.length = 4) (h : 1 < code.toNat) :
    takeBay old (record.set 0 code) = ({ (takeBay old record).1 with enabled := old.enabled }, true) := by
  have hcode : readByte (record.set 0 code) 0 = code := readByte_set_self code (by omega)
  unfold takeBay
  dsimp only
  simp (disch := omega) only [readU_set, hcode, takeCode_yesNo_undefined, Bool.true_or]

/-! ### CANOPY -/

section
variable (record : List Byte) (code : Byte)

/-- A string's part is left alone by a byte replaced outside it. -/
theorem takeString_set (old : StringConfig) {k off : Nat} (h : k < off ∨ off + 9 ≤ k) :
    takeString old (record.set k code) off = takeString old record off := by
  unfold takeString
  dsimp only
  rw [readByte_set _ _ (by omega), readU_set _ _ _ (by omega), readU_set _ _ _ (by omega)]

theorem takeString_enabled (old : StringConfig) {off : Nat} (hoff : off < record.length) (h : 1 < code.toNat) :
    takeString old (record.set off code) off = ({ (takeString old record off).1 with enabled := old.enabled }, true) := by
  have hcode : readByte (record.set off code) off = code := readByte_set_self code hoff
  unfold takeString
  dsimp only
  simp (disch := omega) only [readU_set, hcode, takeCode_yesNo_undefined, Bool.true_or]

theorem takeCanopy_enabled (old : CanopyTable) (hlength : record.length = 82) (h : 1 < code.toNat) :
    takeCanopy old (record.set 0 code) = ({ (takeCanopy old record).1 with enabled := old.enabled }, true) := by
  have hcode : readByte (record.set 0 code) 0 = code := readByte_set_self code (by omega)
  unfold takeCanopy
  dsimp only
  simp (disch := omega) only [readU_set, hcode, takeCode_yesNo_undefined, takeString_set, Bool.true_or]

theorem takeCanopy_stringEnabled (old : CanopyTable) (hlength : record.length = 82) (h : 1 < code.toNat) (j : StringNo) :
    takeCanopy old (record.set (10 + 9 * j.val) code) =
      ({ (takeCanopy old record).1 with
          strings := (takeCanopy old record).1.strings.set j
            { (takeCanopy old record).1.strings[j] with enabled := old.strings[j].enabled } },
        true) := by
  have hj : j.val < 8 := j.isLt
  have hother (i : Fin 8) (hi : i ≠ j) :
      takeString old.strings[i] (record.set (10 + 9 * j.val) code) (10 + 9 * i.val) =
        takeString old.strings[i] record (10 + 9 * i.val) := by
    have hne : i.val ≠ j.val := fun heq => hi (Fin.ext heq)
    exact takeString_set record code _ (by omega)
  have hown := takeString_enabled record code old.strings[j] (off := 10 + 9 * j.val) (by omega) h
  have hstrings : (Vector.ofFn fun i : Fin 8 => (takeString old.strings[i] (record.set (10 + 9 * j.val) code) (10 + 9 * i.val)).1) =
      (Vector.ofFn fun i : Fin 8 => (takeString old.strings[i] record (10 + 9 * i.val)).1).set j
        { (takeString old.strings[j] record (10 + 9 * j.val)).1 with enabled := old.strings[j].enabled } := by
    refine Vector.ext fun i hi => ?_
    rw [Vector.getElem_ofFn, Vector.getElem_set]
    split
    next heq =>
      have hij : (⟨i, hi⟩ : Fin 8) = j := Fin.ext heq.symm
      subst hij
      rw [hown]
    next hne =>
      rw [Vector.getElem_ofFn, hother ⟨i, hi⟩ fun hij => hne (congrArg Fin.val hij).symm]
  have hflag : ((List.finRange 8).any fun i : Fin 8 =>
      (takeString old.strings[i] (record.set (10 + 9 * j.val) code) (10 + 9 * i.val)).2) = true :=
    List.any_eq_true.mpr ⟨j, List.mem_finRange j, by rw [hown]⟩
  have hget : (Vector.ofFn fun i : Fin 8 => (takeString old.strings[i] record (10 + 9 * i.val)).1)[j] =
      (takeString old.strings[j] record (10 + 9 * j.val)).1 := Vector.getElem_ofFn _
  unfold takeCanopy
  dsimp only
  rw [hstrings, hflag, Bool.or_true, hget, readByte_set _ _ (by omega), readU_set _ _ _ (by omega), readU_set _ _ _ (by omega),
    readU_set _ _ _ (by omega)]

end

/-- An enumerated field with an undefined code is taken as the value held before, in every written table. -/
theorem codesAreTaken : Claims.codesAreTaken := by
  refine ⟨fun old record code hlength h => ⟨takeSite_shedSense old record code hlength h,
      takeSite_islandSense old record code hlength h⟩, fun old record code => takeBattery_control old record code,
    fun old record code hlength h => ⟨takeCanopy_enabled record code old hlength h,
      takeCanopy_stringEnabled record code old hlength h⟩, fun old record code => takeBay_enabled old record code,
    fun old address code index divider h => ?_⟩
  rw [takeStation_undefined old address index divider h]
  cases old <;> rfl

end Sys2Proof.Machine
end

section
/-! The values that MEASURE and SESSION show, in the layout of the SAMPLE and the DEMAND; the record layouts assembled (O34). -/

namespace Sys2Proof.Machine

/-! ### Signed fields at their places -/

theorem readI_behind {front : List Byte} (back : List Byte) {off : Nat} (w : Nat) (h : front.length ≤ off) :
    readI (front ++ back) off w = readI back (off - front.length) w := by
  rw [readI, readI, readU_behind back w h]

theorem readI_fieldI_append {w : Nat} {z : Int} (back : List Byte) (hw : 0 < w) (h : fitsI w z) :
    readI (fieldI w z ++ back) 0 w = z := readI_fieldI [] back hw h

theorem readU_field32_append (v : BitVec 32) (back : List Byte) : readU (field32 v ++ back) 0 4 = v.toNat :=
  readU_bytesOf [] back v.isLt

theorem fitsI_four {z : Int} (hlow : -2147483648 ≤ z) (hhigh : z < 2147483648) : fitsI 4 z := ⟨by omega, by omega⟩

theorem fitsI_four_nat {n : Nat} (h : n < 2147483648) : fitsI 4 (n : Int) := fitsI_four (by omega) (by omega)

/-! ### MEASURE: the layout of a SAMPLE -/

section
variable {p : Int} {n m : Nat}

theorem readSample_grid (r : BitVec 32) (hlow : -2147483648 ≤ p) (hhigh : p < 2147483648) :
    readSample .gridMeter (valueBytes (some (.grid p r))) = some (.grid p r) := by
  have hlength : (valueBytes (some (.grid p r))).length = 14 := by simp [valueBytes]
  have hp : readI (valueBytes (some (.grid p r))) 0 4 = p := by
    rw [valueBytes, List.append_assoc]
    exact readI_fieldI_append _ (by omega) (fitsI_four hlow hhigh)
  have hr : readU (valueBytes (some (.grid p r))) 4 4 = r.toNat := by
    rw [valueBytes, List.append_assoc, readU_behind _ _ (by simp), fieldI_length]
    exact readU_field32_append r _
  unfold readSample
  rw [if_neg (by rw [hlength, sampleLength]; omega), hp, hr, BitVec.ofNat_toNat, BitVec.setWidth_eq]

theorem readSample_shop (h : n < 2147483648) : readSample .shopMeter (valueBytes (some (.shop n))) = some (.shop n) := by
  have hlength : (valueBytes (some (.shop n))).length = 14 := by simp [valueBytes]
  have hp : readI (valueBytes (some (.shop n))) 0 4 = n := readI_fieldI_append _ (by omega) (fitsI_four_nat h)
  unfold readSample
  rw [if_neg (by rw [hlength, sampleLength]; omega), hp, Int.toNat_natCast]

theorem readSample_pv (j : StringNo) (hn : n < 2147483648) (hm : m < 2147483648) :
    readSample (.pvString j) (valueBytes (some (.pv n m))) = some (.pv n m) := by
  have hlength : (valueBytes (some (.pv n m))).length = 14 := by simp [valueBytes]
  have hp : readI (valueBytes (some (.pv n m))) 0 4 = n := by
    rw [valueBytes, List.append_assoc]
    exact readI_fieldI_append _ (by omega) (fitsI_four_nat hn)
  have hr : readI (valueBytes (some (.pv n m))) 4 4 = m := by
    rw [valueBytes, List.append_assoc, readI_behind _ _ (by simp), fieldI_length]
    exact readI_fieldI_append _ (by omega) (fitsI_four_nat hm)
  unfold readSample
  rw [if_neg (by rw [hlength, sampleLength]; omega), hp, hr, Int.toNat_natCast, Int.toNat_natCast]

theorem readSample_battery {soc c d : Nat} (hlow : -2147483648 ≤ p) (hhigh : p < 2147483648) (hsoc : soc ≤ 1000)
    (hc : c < 2147483648) (hd : d < 2147483648) :
    readSample .battery (valueBytes (some (.battery p soc c d))) = some (.battery p soc c d) := by
  have hlength : (valueBytes (some (.battery p soc c d))).length = 14 := by simp [valueBytes]
  have hbytes : valueBytes (some (.battery p soc c d)) = fieldI 4 p ++ (fieldU 2 soc ++ (fieldI 4 c ++ (fieldI 4 d ++ []))) := by
    simp [valueBytes]
  unfold readSample
  rw [if_neg (by rw [hlength, sampleLength]; omega), hbytes]
  have hp : readI (fieldI 4 p ++ (fieldU 2 soc ++ (fieldI 4 c ++ (fieldI 4 d ++ [])))) 0 4 = p :=
    readI_fieldI_append _ (by omega) (fitsI_four hlow hhigh)
  have hs : readU (fieldI 4 p ++ (fieldU 2 soc ++ (fieldI 4 c ++ (fieldI 4 d ++ [])))) 4 2 = soc := by
    rw [readU_behind _ _ (by simp), fieldI_length]
    exact readU_fieldU_append _ (by omega)
  have hcharge : readI (fieldI 4 p ++ (fieldU 2 soc ++ (fieldI 4 c ++ (fieldI 4 d ++ [])))) 6 4 = c := by
    rw [readI_behind _ _ (by simp), fieldI_length, readI_behind _ _ (by simp), fieldU_length]
    exact readI_fieldI_append _ (by omega) (fitsI_four_nat hc)
  have hdischarge : readI (fieldI 4 p ++ (fieldU 2 soc ++ (fieldI 4 c ++ (fieldI 4 d ++ [])))) 10 4 = d := by
    rw [readI_behind _ _ (by simp), fieldI_length, readI_behind _ _ (by simp), fieldU_length, readI_behind _ _ (by simp),
      fieldI_length]
    exact readI_fieldI_append _ (by omega) (fitsI_four_nat hd)
  rw [hp, hs, hcharge, hdischarge, Int.toNat_natCast, Int.toNat_natCast, Nat.min_eq_right hsoc]

end

/-- The values that MEASURE shows are in the layout of the SAMPLE they came in. -/
theorem readSample_valueBytes (role : Role) (v : Values) (hfit : v.fit role)
    (hgrid : ∀ p r, v = .grid p r → -2147483648 ≤ p ∧ p < 2147483648) (hshop : ∀ p, v = .shop p → p < 2147483648)
    (hpv : ∀ p r, v = .pv p r → p < 2147483648 ∧ r < 2147483648)
    (hbattery : ∀ p soc c d, v = .battery p soc c d → -2147483648 ≤ p ∧ p < 2147483648 ∧ c < 2147483648 ∧ d < 2147483648) :
    readSample role (valueBytes (some v)) = some v := by
  cases v with
  | grid p r =>
    cases role with
    | gridMeter =>
      obtain ⟨hlow, hhigh⟩ := hgrid p r rfl
      exact readSample_grid r hlow hhigh
    | charger _ | shopMeter | pvString _ | battery => exact hfit.elim
  | shop p =>
    cases role with
    | shopMeter => exact readSample_shop (hshop p rfl)
    | charger _ | gridMeter | pvString _ | battery => exact hfit.elim
  | pv p r =>
    cases role with
    | pvString j =>
      obtain ⟨hp, hr⟩ := hpv p r rfl
      exact readSample_pv j hp hr
    | charger _ | gridMeter | shopMeter | battery => exact hfit.elim
  | battery p soc c d =>
    cases role with
    | battery =>
      obtain ⟨hlow, hhigh, hc, hd⟩ := hbattery p soc c d rfl
      exact readSample_battery hlow hhigh hfit hc hd
    | charger _ | gridMeter | shopMeter | pvString _ => exact hfit.elim

/-! ### SESSION: the layout of a DEMAND -/

theorem chargerStateOf_code (x : ChargerState) : chargerStateOf x.code = some x := by cases x <;> rfl

theorem phases_read (x : Phases) : (if byteOf x.toNat = 1 then Phases.one else Phases.three) = x := by cases x <;> rfl

/-- The figures of a charger, each read from its place in a DEMAND (10.2). -/
structure FiguresRead (f : Figures) (record : List Byte) : Prop where
  length : ¬record.length < demandLength
  state : readByte record 0 = f.state.code
  requested : readU record 1 2 = f.requested
  minimum : readU record 3 2 = f.minimum
  maximum : readU record 5 2 = f.maximum
  phases : readByte record 7 = byteOf f.phases.toNat
  power : readI record 8 4 = f.power
  register : readU record 12 4 = f.register.toNat

/-- The bytes that SESSION shows for figures, one field behind another. -/
def figureFields (f : Figures) : List Byte :=
  [f.state.code] ++ (fieldU 2 f.requested ++ (fieldU 2 f.minimum ++ (fieldU 2 f.maximum ++ ([byteOf f.phases.toNat] ++
    (fieldI 4 f.power ++ (field32 f.register ++ []))))))

theorem figureBytes_eq (f : Figures) : figureBytes (some f) = figureFields f := by
  unfold figureBytes figureFields
  simp only [List.append_assoc, List.append_nil]

theorem readByte_singleton_append (b : Byte) (back : List Byte) : readByte ([b] ++ back) 0 = b := readByte_cons b back

theorem figureFields_length (f : Figures) : (figureFields f).length = 16 := by
  unfold figureFields
  simp only [List.length_append, List.length_singleton, fieldU_length, fieldI_length, field32_length, List.length_nil]

theorem figuresRead {f : Figures} (h : f.inRange) : FiguresRead f (figureFields f) := by
  obtain ⟨hrequested, hminimum, hmaximum, hpower⟩ := h
  have hlength := figureFields_length f
  constructor
  case length =>
    rw [hlength]
    exact lt_irrefl 16
  all_goals unfold figureFields
  case state => exact readByte_singleton_append _ _
  case requested =>
    simp (disch := simp) only [readU_behind, List.length_singleton, Nat.reduceSub]
    exact readU_fieldU_append _ (by omega)
  case minimum =>
    simp (disch := simp) only [readU_behind, List.length_singleton, fieldU_length, Nat.reduceSub]
    exact readU_fieldU_append _ (by omega)
  case maximum =>
    simp (disch := simp) only [readU_behind, List.length_singleton, fieldU_length, Nat.reduceSub]
    exact readU_fieldU_append _ (by omega)
  case phases =>
    simp (disch := simp) only [readByte_behind, List.length_singleton, fieldU_length, Nat.reduceSub]
    exact readByte_singleton_append _ _
  case power =>
    simp (disch := simp) only [readI_behind, List.length_singleton, fieldU_length, Nat.reduceSub]
    exact readI_fieldI_append _ (by omega) (fitsI_four_nat (by omega))
  case register =>
    simp (disch := simp) only [readU_behind, List.length_singleton, fieldU_length, fieldI_length, Nat.reduceSub]
    exact readU_field32_append f.register _

/-- Figures in their ranges are taken from a DEMAND as they are. -/
theorem readDemand_of_read {f : Figures} (h : f.inRange) {record : List Byte} (hread : FiguresRead f record) :
    readDemand record f.takenAt = some f := by
  obtain ⟨hlength, hstate, h1, h3, h5, h7, h8, h12⟩ := hread
  obtain ⟨hrequested, hminimum, hmaximum, hpower⟩ := h
  have hmin : min 800 f.minimum = f.minimum := by omega
  have hmax : max f.minimum (min 800 f.maximum) = f.maximum := by omega
  have hreq : min f.maximum (min 800 f.requested) = f.requested := by omega
  have hpow : min 100000 f.power = f.power := Nat.min_eq_right hpower
  unfold readDemand
  rw [if_neg hlength, hstate, chargerStateOf_code, h1, h3, h5, h7, h8, h12, phases_read, hmin, Option.map_some]
  dsimp only
  rw [hmax, hreq, Int.toNat_natCast, hpow, BitVec.ofNat_toNat, BitVec.setWidth_eq]

/-- The figures that SESSION shows are in the layout of the DEMAND they came in. -/
theorem readDemand_figureBytes (f : Figures) (h : f.inRange) : readDemand (figureBytes (some f)) f.takenAt = some f := by
  rw [figureBytes_eq]
  exact readDemand_of_read h (figuresRead h)

/-! ### The event mask -/

/-- The event mask reads back. -/
theorem writeEventMask_record (s u : State) (tag : Byte) (record : List Byte) (h : s.tableRecords .eventMask = [record]) :
    u.writeEventMask ([tag, 2, 8, 0] ++ record) = ({ u with mr.mask := s.mr.mask }, .ok) := by
  obtain rfl : field16 s.mr.mask = record := by simpa [State.tableRecords] using h
  have hmask : readU (writeRecord ([tag, 2, 8, 0] ++ field16 s.mr.mask)) 0 2 = s.mr.mask.toNat := by
    have hread := readU_field16 s.mr.mask []
    rwa [List.append_nil] at hread
  rw [State.writeEventMask, if_neg (by simp), if_neg (by simp [writeRecord, field16]), hmask, BitVec.ofNat_toNat,
    BitVec.setWidth_eq]

/-! ### A table in its ranges is taken as it is -/

theorem pair_of_taken {α : Type} {x : α × Bool} {t taken : α} (hvalue : x.1 = taken) (hflag : x.2 = true ↔ taken ≠ t)
    (hsame : taken = t) : x = (t, false) := by
  refine Prod.ext (hvalue.trans hsame) ?_
  rw [← Bool.not_eq_true, hflag, not_not]
  exact hsame

theorem siteFits_of_inRange {t : SiteTable} (h : t.inRange) : Claims.siteFits t := by
  obtain ⟨-, hhigh, htolerance, hsilence, hclose, hsilent, hlink, hhold, hshop, hperiod, hvolts, himport, hpeak, hshed, hfallback,
    hmargin, hdecay, hfloor, hbudget, hguard, hdwell, hrefresh, hsettle⟩ := h
  unfold Claims.siteFits
  simp only [List.forall_mem_append, List.forall_mem_cons]
  refine ⟨?_, ⟨?_, fun n hn => ?_⟩, ?_⟩
  · simp; omega
  · simp; omega
  · obtain ⟨i, hi, rfl⟩ := List.mem_iff_getElem.mp hn
    have hlength : i < 8 := by simpa using hi
    have hbound : t.dwell[i] ≤ 65535 := hdwell ⟨i, hlength⟩
    rw [Vector.getElem_toList]
    omega
  · simp; omega

theorem siteTaken_of_inRange {t : SiteTable} (h : t.inRange) : Claims.siteTaken t = t := by
  obtain ⟨hown, hhigh, htolerance, hsilence, hclose, hsilent, hlink, hhold, hshop, hperiod, hvolts, himport, hpeak, hshed, hfallback,
    hmargin, hdecay, hfloor, hbudget, hguard, hdwell, hrefresh, hsettle⟩ := h
  rw [siteTaken_eq_iff]
  refine ⟨hown, ?_, ?_, ?_, ?_, ?_, ?_, ?_, ?_, ?_, ?_, ?_, ?_, ?_, ?_, ?_, ?_, ?_, ?_, ?_, ?_⟩ <;> omega

theorem takeSite_inRange_record (old : SiteTable) {t : SiteTable} (h : t.inRange) : takeSite old (siteRecord t) = (t, false) := by
  obtain ⟨hvalue, hflag⟩ := takeSite_of_read old (siteRead (siteFits_of_inRange h))
  exact pair_of_taken hvalue hflag (siteTaken_of_inRange h)

theorem takeBattery_inRange_record (old : BatteryTable) {t : BatteryTable} (h : t.inRange) :
    takeBattery old (batteryRecord t) = (t, false) := by
  obtain ⟨hcharge, hdischarge, henter, hexit, hstop, hresume, htarget, hstep, hlow, hhigh⟩ := h
  obtain ⟨hvalue, hflag⟩ := takeBattery_of_read old (batteryRead (t := t) (by omega) (by omega) (by omega) (by simp; omega))
  refine pair_of_taken hvalue hflag ((batteryTaken_eq_iff t).mpr ⟨?_, ?_, ?_, ?_, ?_, ?_, ?_, ?_, ?_⟩) <;> omega

theorem takeCanopy_inRange_record (old : CanopyTable) {t : CanopyTable} (h : t.inRange) :
    takeCanopy old (canopyBytes t) = (t, false) := by
  obtain ⟨hlimit, hdeadband, ⟨hlow, hhigh⟩, hstrings⟩ := h
  have hread := canopyRead (t := t) (by omega) (by omega) (by omega) fun j => by
    obtain ⟨hrating, hfloor⟩ := hstrings j
    omega
  obtain ⟨hvalue, hflag⟩ := takeCanopy_of_read old hread
  refine pair_of_taken hvalue hflag ((canopyTaken_eq_iff t).mpr ⟨by omega, by omega, by omega, fun j => ?_⟩)
  obtain ⟨hrating, hfloor⟩ := hstrings j
  rw [StringConfig.written_eq_iff]
  omega

/-! ### All together -/

/-- Fields out of range are taken as the nearer end, in every written table. -/
theorem fieldsAreTaken : Claims.fieldsAreTaken := by
  refine ⟨fun old t h => takeSite_of_read old (siteRead h),
    fun old t hcharge hdischarge hrefresh hwords => takeBattery_of_read old (batteryRead hcharge hdischarge hrefresh hwords),
    fun old s hlimit hdeadband hperiod hstrings => ?_, fun p hcount hbands => ?_, takeProfile_count_out,
    fun old address code index divider h => takeStation_defined old address index divider h⟩
  · rw [canopyRecord_taken]
    exact takeCanopy_of_read old (canopyRead hlimit hdeadband hperiod hstrings)
  · rw [takeProfile_record hcount hbands]
    exact ⟨rfl, by simp⟩

/-- Settles O34. -/
theorem recordsReadBack : Obligations.RecordsReadBack := by
  unfold Obligations.RecordsReadBack
  refine ⟨fieldsAreTaken, codesAreTaken, fun old site h => takeSite_inRange_record old h,
    fun old e haddress hlow hhigh => takeStation_record old haddress hlow hhigh, takeStation_empty,
    fun old c h => takeBay_bayRecord old h, fun p h => takeProfile_readBack h,
    fun old t h => takeBattery_inRange_record old h, fun old s h => ?_, readSample_valueBytes, writeEventMask_record,
    readDemand_figureBytes⟩
  rw [canopyRecord_taken]
  exact takeCanopy_inRange_record old h

end Sys2Proof.Machine
end

section
/-! A second of uptime in every timer (O45). -/

namespace Sys2Proof.Machine

/-! ### Countdowns and session timers -/

theorem counted_tick (c : Countdown) : Claims.counted c c.tick := by
  obtain ⟨left, due⟩ := c
  unfold Countdown.tick
  refine ⟨fun h => ?_, fun h => ?_, fun h => ?_⟩
  · have hleft : 2 ≤ left := h
    rw [if_pos hleft]
    exact ⟨by dsimp only; omega, rfl⟩
  · obtain rfl : left = 1 := h
    rfl
  · obtain rfl : left = 0 := h
    rfl

/-- The mark of a session timer at a second of uptime (R10). -/
theorem sessionTimer_ranOut (site : SiteTable) (state : SessionState) (passed : Nat) :
    ((site.durationIn state).any fun d => decide (d ≤ passed)) = true ↔
      (state = .connected ∨ state = .active) ∧ site.silenceTimeout ≤ passed ∨ state = .silent ∧ site.silentClose ≤ passed ∨
        state = .closing ∧ site.closeHold ≤ passed := by
  cases state <;> simp [SiteTable.durationIn]

/-! ### The state of the second -/

section
variable (s : State)

theorem State.advanced_dwells : s.advanced.ae.dwells =
    s.ae.dwells.map fun d => if d.running then { d with timer := d.timer.tick } else d := by
  simp only [State.advanced, State.countTimers, State.mapBays]

theorem State.advanced_allocTimer : s.advanced.ae.timer = s.ae.timer.tick := by
  simp only [State.advanced, State.countTimers, State.mapBays]

theorem State.advanced_canopyTimer : s.advanced.cc.timer = s.cc.timer.tick := by
  simp only [State.advanced, State.countTimers, State.mapBays]

theorem State.advanced_mu : s.advanced.mu = { s.mu with uptime := s.mu.uptime + 1, clock := s.mu.clock.map SiteTime.next } := by
  simp only [State.advanced, State.countTimers, State.mapBays]

theorem State.advanced_siu : s.advanced.siu = s.siu := by
  simp only [State.advanced, State.countTimers, State.mapBays]

theorem State.advanced_fs : s.advanced.fs = s.fs := by
  simp only [State.advanced, State.countTimers, State.mapBays]

theorem State.advanced_mr : s.advanced.mr = s.mr := by
  simp only [State.advanced, State.countTimers, State.mapBays]

/-- What a second leaves of the allocation part of a bay: its guard counts. -/
theorem second_alloc (b : BayNo) :
    (s.second.bay b).alloc = { (s.bay b).alloc with guard := (s.bay b).alloc.guard.tick } := by
  rw [State.second_eq, State.tick_bay, State.advanced_bay]
  split <;> rfl

/-- What a second leaves of the session part of a bay: its timer counts, and its allowance may be spent. -/
theorem second_session (b : BayNo) : ∃ link, (s.second.bay b).session =
    { (s.bay b).session with
      timer := (s.bay b).session.timer.map fun t =>
        t.tick (s.mu.uptime + 1) (s.mr.site.durationIn (s.bay b).session.state)
      link } := by
  rw [State.second_eq, State.tick_bay, State.advanced_bay]
  split
  · exact ⟨_, rfl⟩
  · exact ⟨_, rfl⟩

theorem second_dwell (k : ClassNo) : s.second.ae.dwells[k] =
    if s.ae.dwells[k].running then { s.ae.dwells[k] with timer := s.ae.dwells[k].timer.tick } else s.ae.dwells[k] := by
  have hkept : s.advanced.tick.ae.dwells[k] = s.advanced.ae.dwells[k] := s.advanced.tick_frame (.dwell k) (by simp)
  rw [State.second_eq, hkept, State.advanced_dwells]
  exact Vector.getElem_map _ k.isLt

/-- A second of uptime in every timer. -/
theorem second_counted : Claims.secondCounted s s.second := by
  have hframe := s.advanced.tick_frame
  have halloc : s.second.ae.timer = s.ae.timer.tick :=
    (hframe .allocTimer (by simp)).trans s.advanced_allocTimer
  have hcanopy : s.second.cc.timer = s.cc.timer.tick :=
    (hframe .canopyTimer (by simp)).trans s.advanced_canopyTimer
  have hlinks : s.second.links = s.advanced.links := hframe .links (by simp)
  refine ⟨?_, ?_, fun k => ⟨fun hrun => ?_, fun hstop => ?_⟩, fun b => ?_, ?_⟩
  · rw [halloc]
    exact counted_tick _
  · rw [hcanopy]
    exact counted_tick _
  · rw [second_dwell, if_pos hrun]
    exact ⟨counted_tick _, hrun, rfl⟩
  · rw [second_dwell, if_neg (by rw [hstop]; decide)]
  · obtain ⟨link, hsession⟩ := second_session s b
    refine ⟨?_, ?_, ?_, fun hnone => ?_, fun start due hsome => ?_⟩
    · rw [second_alloc]
      exact counted_tick _
    · rw [second_alloc]
    · rw [hsession]
    · rw [hsession, hnone]
      rfl
    · refine ⟨_, ?_, sessionTimer_ranOut _ _ _⟩
      rw [hsession, hsome]
      rfl
  · rw [hlinks, s.advanced_links]
    rfl

end

end Sys2Proof.Machine
end

section
/-! What a metering tick adds to the accounts of the bays (O45). -/

namespace Sys2Proof.Machine

/-! ### The figures that a tick reads -/

section
variable {s t : State}

/-- The fresh values of a role rest on stations, records and the hold time alone (R31, R34). -/
theorem freshValues_of_same (hfs : t.fs = s.fs) (hsiu : t.siu = s.siu) (hsite : t.mr.site = s.mr.site) (role : Role) :
    t.freshValues role = s.freshValues role := by
  have hrecord : t.recordFor role = s.recordFor role := by
    unfold State.recordFor State.stationFor State.findStation
    rw [hfs, hsiu]
  unfold State.freshValues
  rw [hrecord, hsite]

theorem solarSum_of_same (h : ∀ role, t.freshValues role = s.freshValues role) : t.solarSum = s.solarSum := by
  have hpower : t.stringPower = s.stringPower := funext fun j => by
    unfold State.stringPower
    rw [h]
  rw [State.solarSum, State.solarSum, hpower]

theorem shopLoad_of_same (h : ∀ role, t.freshValues role = s.freshValues role) (hsite : t.mr.site = s.mr.site) :
    t.shopLoad = s.shopLoad := by
  unfold State.shopLoad
  rw [h, hsite]

theorem batteryFigures_of_same (h : ∀ role, t.freshValues role = s.freshValues role) : t.batteryFigures = s.batteryFigures := by
  unfold State.batteryFigures
  rw [h]

end

/-! ### The entry of the band in force (R122) -/

theorem addToLast_append (entries : List BandEntry) (e : BandEntry) (joules cost : Nat) :
    addToLast joules cost (entries ++ [e]) = entries ++ [⟨e.band, e.joules + joules, e.cost + cost⟩] := by
  induction entries with
  | nil => rfl
  | cons x entries ih =>
    rw [List.cons_append, addToLast, ih, List.cons_append]
    simp

section
variable {old new : Metering} {ref : BandRef} {joules cost : Nat}

theorem accumulate_entered (entries : List BandEntry) (merged : Bool)
    (h : accumulate entries merged ref joules cost = (new.bands, new.merged))
    (hbands : old.bands = entries) (hmerged : old.merged = merged) : Claims.bandEntered old new ref joules cost := by
  rcases accumulate_cases entries merged ref joules cost with ⟨⟨e', he', heband⟩, hadd⟩ | ⟨hnone, ⟨hroom, hnew⟩ | ⟨hfull, hlast⟩⟩
  · rw [h, Prod.mk.injEq] at hadd
    obtain ⟨hnewBands, hnewMerged⟩ := hadd
    refine ⟨fun front e back hsplit hband hothers => ⟨?_, hnewMerged.trans hmerged.symm⟩, fun habsent => ?_,
      fun seven eighth hsplit _ habsent => ?_⟩
    · have hfront := addAt_of_absent joules cost (entries := front) (band := ref) fun x hx =>
        hothers x (List.mem_append_left _ hx)
      have hback := addAt_of_absent joules cost (entries := back) (band := ref) fun x hx =>
        hothers x (List.mem_append_right _ hx)
      rw [hnewBands, ← hbands, hsplit, addAt, List.map_append, List.map_cons, ← addAt, ← addAt, hfront, hback, if_pos hband, ← hband]
      rfl
    · exact absurd heband (habsent e' (hbands ▸ he'))
    · exact absurd heband (habsent e' (hbands ▸ he'))
  · rw [h, Prod.mk.injEq] at hnew
    obtain ⟨hnewBands, hnewMerged⟩ := hnew
    refine ⟨fun front e back hsplit hband _ => ?_, fun _ _ => ⟨by rw [hnewBands, hbands], hnewMerged.trans hmerged.symm⟩,
      fun seven eighth hsplit hseven _ => ?_⟩
    · exact absurd hband (hnone e (by rw [← hbands, hsplit]; simp))
    · rw [← hbands, hsplit, List.length_append, hseven] at hroom
      exact absurd hroom (by simp [bandSlots])
  · rw [h, Prod.mk.injEq] at hlast
    obtain ⟨hnewBands, hnewMerged⟩ := hlast
    refine ⟨fun front e back hsplit hband _ => ?_, fun _ hroom => ?_, fun seven eighth hsplit _ _ => ⟨?_, hnewMerged⟩⟩
    · exact absurd hband (hnone e (by rw [← hbands, hsplit]; simp))
    · rw [hbands] at hroom
      exact absurd hroom (Nat.not_lt.mpr hfull)
    · rw [hnewBands, ← hbands, hsplit]
      exact addToLast_append seven eighth joules cost

/-- Where the bands are listed once and at most 8, the costs grow by the cost of the tick. -/
theorem bandEntered_costs (h : Claims.bandEntered old new ref joules cost) (hnodup : (old.bands.map (·.band)).Nodup)
    (hlength : old.bands.length ≤ bandSlots) :
    (new.bands.map (·.cost)).sum = (old.bands.map (·.cost)).sum + cost := by
  obtain ⟨hentry, htail, hlast⟩ := h
  by_cases hany : ∃ e ∈ old.bands, e.band = ref
  · obtain ⟨e, he, hband⟩ := hany
    obtain ⟨front, back, hsplit⟩ := List.append_of_mem he
    rw [hsplit, List.map_append, List.map_cons, List.nodup_middle, List.nodup_cons] at hnodup
    have hothers : ∀ x ∈ front ++ back, x.band ≠ ref := fun x hx heq => by
      refine hnodup.1 ?_
      rw [hband, ← heq, ← List.map_append]
      exact List.mem_map_of_mem hx
    obtain ⟨hnew, -⟩ := hentry front e back hsplit hband hothers
    rw [hnew, hsplit]
    simp only [List.map_append, List.map_cons, List.sum_append, List.sum_cons]
    omega
  · have habsent : ∀ x ∈ old.bands, x.band ≠ ref := fun x hx heq => hany ⟨x, hx, heq⟩
    by_cases hroom : old.bands.length < 8
    · obtain ⟨hnew, -⟩ := htail habsent hroom
      rw [hnew]
      simp
    · have hfull : old.bands.length = 8 := Nat.le_antisymm hlength (Nat.le_of_not_lt hroom)
      have hne : old.bands ≠ [] := fun hnil => by simp [hnil] at hfull
      have hsplit := (List.dropLast_append_getLast hne).symm
      obtain ⟨hnew, -⟩ := hlast _ _ hsplit (by rw [List.length_dropLast, hfull]) habsent
      rw [hnew]
      conv_rhs => rw [hsplit]
      simp only [List.map_append, List.map_cons, List.map_nil, List.sum_append, List.sum_cons, List.sum_nil]
      omega

end

/-! ### The accounts of one bay -/

/-- What is left of a bay's allowance. -/
def SessionLink.left : Option SessionLink → Nat
  | some l => l.remaining
  | none => 0

/-- The free energy of a tick is taken from the allowance left, on grid energy first (R121). -/
theorem freeOf_eq (link : Option SessionLink) (t : TickShare) :
    freeOf link t = (min t.grid (SessionLink.left link),
      min (t.solar + t.battery) (SessionLink.left link - min t.grid (SessionLink.left link))) := by
  cases link with
  | none => simp [freeOf, SessionLink.left]
  | some l => rfl

theorem countSecond_waits (outcome : GrantOutcome) (n : Nat) : countSecond outcome.waits n =
    if outcome = .waitingBudget ∨ outcome = .waitingGuard ∨ outcome = .waitingShed then min 4294967295 (n + 1) else n := by
  cases outcome <;> rfl

theorem countSecond_shed (outcome : GrantOutcome) (n : Nat) : countSecond (outcome == .waitingShed) n =
    if outcome = .waitingShed then min 4294967295 (n + 1) else n := by
  cases outcome <;> rfl

/-- The accounts of a bay that a tick meters with a share of its energies: waiting seconds, free energy, allowance, and the entry of
the band in force. -/
structure Metered (x y : Bay) (ref : BandRef) (band : Band) (share : TickShare) : Prop where
  energies : y.metering.energy = x.metering.energy + share.energy
  solars : y.metering.solar = x.metering.solar + share.solar
  batteries : y.metering.battery = x.metering.battery + share.battery
  grids : y.metering.grid = x.metering.grid + share.grid
  peak : y.metering.peak = max x.metering.peak x.alloc.grant
  wait : y.metering.wait =
    if x.alloc.outcome = .waitingBudget ∨ x.alloc.outcome = .waitingGuard ∨ x.alloc.outcome = .waitingShed then
      min 4294967295 (x.metering.wait + 1) else x.metering.wait
  shed : y.metering.shed =
    if x.alloc.outcome = .waitingShed then min 4294967295 (x.metering.shed + 1) else x.metering.shed
  free : y.metering.free = x.metering.free + (freeOf x.session.link share).1 + (freeOf x.session.link share).2
  link : y.session.link = x.session.link.map fun l =>
    { l with remaining := l.remaining - ((freeOf x.session.link share).1 + (freeOf x.session.link share).2) }
  entered : Claims.bandEntered x.metering y.metering ref share.energy (tickCost band share (freeOf x.session.link share))

theorem meterWith_metered (x : Bay) (ref : BandRef) (band : Band) (share : TickShare) :
    Metered x (x.meterWith ref band share) ref band share where
  energies := rfl
  solars := rfl
  batteries := rfl
  grids := rfl
  peak := rfl
  wait := countSecond_waits _ _
  shed := countSecond_shed _ _
  free := (Nat.add_assoc _ _ _).symm
  link := rfl
  entered := accumulate_entered x.metering.bands x.metering.merged rfl rfl rfl

/-! ### The tick of a second -/

section
variable (s : State)

theorem advanced_tickEnergy (b : BayNo) : (s.advanced.bay b).tickEnergy = (s.bay b).tickEnergy := by
  rw [s.advanced_bay]
  rfl

theorem advanced_tickEnergies (b : BayNo) : s.advanced.tickEnergies[b] = (s.bay b).tickEnergy := by
  rw [State.tickEnergies, ← advanced_tickEnergy]
  exact Vector.getElem_ofFn _

/-- The split of a second is that of R118 on the figures before it. -/
theorem advanced_tickSplit : s.advanced.tickSplit =
    siteSplit (((List.finRange 32).map fun b => (s.bay b).tickEnergy).sum) s.solarSum s.batteryDischarge s.shopLoad := by
  have hsite : s.advanced.mr.site = s.mr.site := by rw [s.advanced_mr]
  have hfresh := freshValues_of_same s.advanced_fs s.advanced_siu hsite
  have henergies : (fun b => (s.advanced.bay b).tickEnergy) = fun b => (s.bay b).tickEnergy := funext (advanced_tickEnergy s)
  unfold State.tickSplit State.batteryDischarge
  rw [henergies, solarSum_of_same hfresh, shopLoad_of_same hfresh hsite, batteryFigures_of_same hfresh]

theorem advanced_tickShare (b : BayNo) : s.advanced.tickShare b =
    ⟨(s.bay b).tickEnergy, s.advanced.tickSolar[b], s.advanced.tickBattery[b],
      (s.bay b).tickEnergy - s.advanced.tickSolar[b] - s.advanced.tickBattery[b]⟩ := by
  rw [State.tickShare, State.tickRest_getElem, advanced_tickEnergies]

theorem second_bands : s.second.bandRef = s.advanced.bandRef ∧ s.second.bandInForce = s.advanced.bandInForce := by
  have hframe := s.advanced.tick_frame
  rw [State.second_eq]
  refine bandInForce_of_same (hframe .clock (by simp)) (hframe .profiles (by simp)) (hframe .site (by simp))

theorem Metered.of_timed {x y : Bay} {now : Uptime} {site : SiteTable} {ref : BandRef} {band : Band} {share : TickShare}
    (h : Metered (x.timed now site) y ref band share) : Metered x y ref band share :=
  ⟨h.energies, h.solars, h.batteries, h.grids, h.peak, h.wait, h.shed, h.free, h.link, h.entered⟩

/-- A second meters the bays with an open session. -/
theorem second_metered (b : BayNo) (h : (s.bay b).session.state.isOpen = true) :
    Metered (s.bay b) (s.second.bay b) s.second.bandRef s.second.bandInForce
      ⟨(s.bay b).tickEnergy, s.advanced.tickSolar[b], s.advanced.tickBattery[b],
        (s.bay b).tickEnergy - s.advanced.tickSolar[b] - s.advanced.tickBattery[b]⟩ := by
  obtain ⟨href, hband⟩ := second_bands s
  have hopen : (s.advanced.bay b).session.state.isOpen = true := by
    rw [s.advanced_bay]
    exact h
  rw [href, hband, State.second_eq, State.tick_bay, if_pos hopen, advanced_tickShare, s.advanced_bay]
  exact (meterWith_metered _ _ _ _).of_timed

theorem second_unmetered (b : BayNo) (h : (s.bay b).session.state.isOpen = false) :
    (s.second.bay b).metering = (s.bay b).metering ∧ (s.second.bay b).session.link = (s.bay b).session.link := by
  have hclosed : ¬(s.advanced.bay b).session.state.isOpen = true := by
    rw [s.advanced_bay, Bool.not_eq_true]
    exact h
  rw [State.second_eq, State.tick_bay, if_neg hclosed, s.advanced_bay]
  exact ⟨rfl, rfl⟩

theorem tick_shares_sum : ((List.finRange 32).map fun b : BayNo => s.tickSolar[b]).sum = s.tickSplit.solarCh ∧
    ((List.finRange 32).map fun b : BayNo => s.tickBattery[b]).sum = s.tickSplit.batteryCh := by
  rw [← Fin.sum_univ_def, ← Fin.sum_univ_def]
  exact ⟨sum_shares s.solarCh_le, sum_shares s.batteryCh_le⟩

end

/-- The site split's sources make up what the chargers draw (R118). -/
theorem siteSplit_sources (ch pv bd shop : Nat) : (siteSplit ch pv bd shop).solarCh + (siteSplit ch pv bd shop).batteryCh +
    (siteSplit ch pv bd shop).gridCh = ch := by
  simp only [siteSplit]
  omega

end Sys2Proof.Machine
end

section
/-! METERING_TICK (O45). -/

namespace Sys2Proof.Machine

/-- The accounts of a metered bay, in the terms of the spec's rules (R120 to R124). -/
theorem Metered.figures {x y : Bay} {ref : BandRef} {band : Band} {share : TickShare} (h : Metered x y ref band share)
    {left : Nat} (hleft : SessionLink.left x.session.link = left) :
    y.metering.free = x.metering.free + min share.grid left + min (share.solar + share.battery) (left - min share.grid left) ∧
      y.session.link = x.session.link.map (fun l =>
        { l with remaining := l.remaining -
          (min share.grid left + min (share.solar + share.battery) (left - min share.grid left)) }) ∧
      (x.metering.balanced → (y.metering.bands.map (·.cost)).sum = (x.metering.bands.map (·.cost)).sum +
        (share.grid - min share.grid left) * band.gridPrice +
        (share.solar + share.battery - min (share.solar + share.battery) (left - min share.grid left)) * band.greenPrice) ∧
      Claims.bandEntered x.metering y.metering ref share.energy
        ((share.grid - min share.grid left) * band.gridPrice +
          (share.solar + share.battery - min (share.solar + share.battery) (left - min share.grid left)) * band.greenPrice) := by
  subst hleft
  have hfree := h.free
  have hlink := h.link
  have hentered := h.entered
  rw [freeOf_eq] at hfree hlink hentered
  refine ⟨hfree, hlink, fun hbalanced => ?_, hentered⟩
  obtain ⟨-, -, -, hnodup, hlength⟩ := hbalanced
  exact (bandEntered_costs hentered hnodup hlength).trans (Nat.add_assoc _ _ _).symm

theorem exec_meteringTick {s : State} (hp : s.powered = true) : exec .meteringTick s = .next s.second :=
  exec_quiet (c := .meteringTick) rfl hp (by
    have hframe := s.second_frame
    have hevents : s.second.mr.events = s.mr.events := hframe .events (by simp [timerParts])
    have hmask : s.second.mr.mask = s.mr.mask := hframe .mask (by simp [timerParts])
    rw [State.unmasked, State.unmasked, hevents, hmask])

/-- What a second leaves of a bay beside its accounts and its timers. -/
theorem second_bay_kept (s : State) (b : BayNo) : (s.second.bay b).session.state = (s.bay b).session.state ∧
    (s.second.bay b).session.figures = (s.bay b).session.figures ∧
    (s.second.bay b).alloc.grant = (s.bay b).alloc.grant ∧ (s.second.bay b).alloc.outcome = (s.bay b).alloc.outcome := by
  obtain ⟨link, hsession⟩ := second_session s b
  rw [hsession, second_alloc]
  exact ⟨rfl, rfl, rfl, rfl⟩

theorem second_clock (s : State) : s.second.mu.uptime = s.mu.uptime + 1 ∧
    s.second.mu.clock = s.mu.clock.map SiteTime.next := by
  have hframe := s.advanced.tick_frame
  have huptime : s.second.mu.uptime = s.advanced.mu.uptime := hframe .uptime (by simp)
  have hclock : s.second.mu.clock = s.advanced.mu.clock := hframe .clock (by simp)
  rw [huptime, hclock, s.advanced_mu]
  exact ⟨rfl, rfl⟩

theorem second_last (s : State) : s.second.mu.lastBand = s.advanced.bandRef ∧ s.second.mu.lastSplit = s.advanced.tickSplit :=
  ⟨rfl, rfl⟩

/-! ### Shares by largest remainder (R119) -/

/-- The claim on shares by its cases: nothing to share in, each share the floor or 1 J above it, and the order in which these are
handed out. -/
structure LargestRemainders (total : Nat) (weight share : BayNo → Nat) : Prop where
  zero : ((List.finRange 32).map weight).sum = 0 → ∀ b, share b = 0
  floors : ((List.finRange 32).map weight).sum ≠ 0 → ∀ b, share b = total * weight b / ((List.finRange 32).map weight).sum ∨
    share b = total * weight b / ((List.finRange 32).map weight).sum + 1
  served : ((List.finRange 32).map weight).sum ≠ 0 → ∀ b c,
    share b = total * weight b / ((List.finRange 32).map weight).sum + 1 →
      share c = total * weight c / ((List.finRange 32).map weight).sum →
        total * weight c % ((List.finRange 32).map weight).sum < total * weight b % ((List.finRange 32).map weight).sum ∨
          (total * weight c % ((List.finRange 32).map weight).sum = total * weight b % ((List.finRange 32).map weight).sum ∧ b < c)

theorem sharedOut_iff (total : Nat) (weight share : BayNo → Nat) :
    Claims.sharedOut total weight share ↔ LargestRemainders total weight share := by
  simp only [Claims.sharedOut]
  by_cases hzero : ((List.finRange 32).map weight).sum = 0
  · rw [if_pos hzero]
    exact ⟨fun h => ⟨fun _ => h, absurd hzero, absurd hzero⟩, fun h => h.zero hzero⟩
  · rw [if_neg hzero]
    exact ⟨fun ⟨hfloors, hserved⟩ => ⟨fun h => absurd h hzero, fun _ => hfloors, fun _ => hserved⟩,
      fun h => ⟨h.floors hzero, h.served hzero⟩⟩

theorem shares_largestRemainders (total : Nat) (weights : Vector Nat 32) :
    LargestRemainders total (fun b => weights[b]) fun b => (shares total weights)[b] := by
  have hsum : ((List.finRange 32).map fun b : BayNo => weights[b]).sum = weightSum weights := (Fin.sum_univ_def _).symm
  constructor <;> rw [hsum]
  case zero => exact shares_of_zero total weights
  case floors =>
    intro h b
    rw [shares_getElem total weights h b, floorShare]
    split
    · exact .inr rfl
    · exact .inl rfl
  case served => exact fun h b c => served_of_unit h

/-- The energies of a tick: its split, the shares of the bays, and the accounts that take them. -/
structure Ticked (s t : State) (energy solar battery : BayNo → Nat) : Prop where
  split : t.mu.lastSplit = siteSplit (((List.finRange 32).map energy).sum) s.solarSum s.batteryDischarge s.shopLoad
  band : t.mu.lastBand = t.bandRef
  solarSum : ((List.finRange 32).map solar).sum = t.mu.lastSplit.solarCh
  batterySum : ((List.finRange 32).map battery).sum = t.mu.lastSplit.batteryCh
  solarShared : LargestRemainders t.mu.lastSplit.solarCh energy solar
  batteryShared : LargestRemainders t.mu.lastSplit.batteryCh (fun b => energy b - solar b) battery
  within : ∀ b, solar b + battery b ≤ energy b
  metered : ∀ b, (s.bay b).session.state.isOpen = true →
    Metered (s.bay b) (t.bay b) t.bandRef t.bandInForce ⟨energy b, solar b, battery b, energy b - solar b - battery b⟩
  unmetered : ∀ b, (s.bay b).session.state.isOpen = false →
    (t.bay b).metering = (s.bay b).metering ∧ (t.bay b).session.link = (s.bay b).session.link

theorem second_ticked (s : State) : Ticked s s.second (fun b => (s.bay b).tickEnergy) (fun b => s.advanced.tickSolar[b])
    fun b => s.advanced.tickBattery[b] := by
  obtain ⟨hlast, hsplit⟩ := second_last s
  obtain ⟨href, -⟩ := second_bands s
  obtain ⟨hsolar, hbattery⟩ := tick_shares_sum s.advanced
  have hweights : (fun b : BayNo => s.advanced.tickEnergies[b]) = fun b => (s.bay b).tickEnergy :=
    funext fun b => advanced_tickEnergies s b
  have hrests : (fun b : BayNo => s.advanced.tickRest[b]) = fun b => (s.bay b).tickEnergy - s.advanced.tickSolar[b] :=
    funext fun b => by rw [State.tickRest_getElem, advanced_tickEnergies]
  have hsolarShared := shares_largestRemainders s.advanced.tickSplit.solarCh s.advanced.tickEnergies
  have hbatteryShared := shares_largestRemainders s.advanced.tickSplit.batteryCh s.advanced.tickRest
  rw [← hsplit] at hsolar hbattery hsolarShared hbatteryShared
  rw [hweights] at hsolarShared
  rw [hrests] at hbatteryShared
  refine ⟨hsplit.trans (advanced_tickSplit s), hlast.trans href.symm, hsolar, hbattery, hsolarShared, hbatteryShared, fun b => ?_,
    second_metered s, second_unmetered s⟩
  have hsolarLe := s.advanced.tickSolar_le b
  have hbatteryLe := s.advanced.tickBattery_le b
  rw [State.tickRest_getElem] at hbatteryLe
  rw [advanced_tickEnergies] at hsolarLe hbatteryLe
  omega

/-- Settles O45. -/
theorem meteringTick : Obligations.MeteringTick := by
  unfold Obligations.MeteringTick
  refine ⟨fun s hp => ⟨_, exec_meteringTick hp, second_counted s⟩, fun s hp => ?_⟩
  obtain ⟨huptime, hclock⟩ := second_clock s
  refine ⟨s.second, fun b => s.advanced.tickSolar[b], fun b => s.advanced.tickBattery[b], exec_meteringTick hp, huptime, hclock,
    ?accounts, second_bay_kept s, ?frame⟩
  case frame =>
    refine State.changesOnly_mono s.second_frame fun part hpart => ?_
    simp only [timerParts, Set.mem_union, Set.mem_insert_iff, Set.mem_singleton_iff] at hpart ⊢
    tauto
  case accounts =>
    intro energy split
    have henergy : energy = fun b => (s.bay b).tickEnergy := funext fun b => by
      show (match (s.bay b).session.state, (s.bay b).session.figures with
        | .connected, some f | .active, some f | .closing, some f => f.power
        | _, _ => 0) = _
      unfold Bay.tickEnergy
      cases (s.bay b).session.state <;> cases (s.bay b).session.figures <;> rfl
    clear_value energy
    have hticked := second_ticked s
    rw [← henergy] at hticked
    have hdischarge : s.batteryDischarge = (match s.batteryFigures with | some f => f.power.toNat | none => 0) := by
      unfold State.batteryDischarge
      cases s.batteryFigures <;> rfl
    have hsplit : split = _ := hticked.split
    have hsources := siteSplit_sources (((List.finRange 32).map energy).sum) s.solarSum s.batteryDischarge s.shopLoad
    rw [← hsplit] at hsources
    unfold siteSplit at hsplit
    refine ⟨?_, ?_, ?_, ?_, ?_, ?_, hsources.trans ?_, hticked.band, hticked.solarSum, hticked.batterySum, ?_, ?_,
      fun b => ⟨hticked.within b, fun hopen => ?_, hticked.unmetered b⟩⟩
    · rw [hsplit]
    · rw [hsplit]
    · rw [hsplit]
    · rw [hsplit]
      exact hdischarge
    · rw [hsplit]
    · rw [hsplit]
    · rw [hsplit]
    · rw [sharedOut_iff]
      exact hticked.solarShared
    · rw [sharedOut_iff]
      exact hticked.batteryShared
    · have h := hticked.metered b hopen
      refine ⟨h.energies, h.solars, h.batteries, h.grids, h.peak, ?_⟩
      intro waits left freeGrid freeGreen
      have hleft : SessionLink.left (s.bay b).session.link = left := by
        show _ = (match (s.bay b).session.link with | some l => l.remaining | none => 0)
        cases (s.bay b).session.link <;> rfl
      exact ⟨h.wait, h.shed, h.figures hleft⟩

end Sys2Proof.Machine
end

section
/-! The figures that the SIU gives, and the band in force, in every state (O48). -/

namespace Sys2Proof.Machine

/-! ### The entry that stands for a role -/

/-- A search over all indexes finds the lowest one that answers. -/
theorem findSome?_finRange {n : Nat} {α : Type} (f : Fin n → Option α) (x : α) :
    (List.finRange n).findSome? f = some x ↔ ∃ i, f i = some x ∧ ∀ j, j < i → f j = none := by
  have hordered : (List.finRange n).Pairwise (· < ·) := List.pairwise_lt_finRange n
  rw [List.findSome?_eq_some_iff]
  constructor
  · rintro ⟨front, i, back, hsplit, hi, hfront⟩
    refine ⟨i, hi, fun j hj => hfront j ?_⟩
    have hmem : j ∈ front ++ i :: back := hsplit ▸ List.mem_finRange j
    rw [hsplit, List.pairwise_append, List.pairwise_cons] at hordered
    obtain ⟨-, ⟨hback, -⟩, -⟩ := hordered
    rcases List.mem_append.mp hmem with h | h
    · exact h
    · rcases List.mem_cons.mp h with rfl | h
      · exact absurd hj (lt_irrefl _)
      · exact absurd (hback j h) (lt_asymm hj)
  · rintro ⟨i, hi, hbefore⟩
    obtain ⟨front, back, hsplit⟩ := List.append_of_mem (List.mem_finRange i)
    refine ⟨front, i, back, hsplit, hi, fun j hj => hbefore j ?_⟩
    rw [hsplit, List.pairwise_append] at hordered
    exact hordered.2.2 j hj i List.mem_cons_self

section
variable {s : State} {role : Role}

/-- The entry that stands for a role is the one of lowest position (R34). -/
theorem stationFor_eq_some (pos : Position) (e : Station) : s.stationFor role = some (pos, e) ↔
    (s.fs.stations[pos] = some e ∧ e.role = role) ∧
      ∀ (lower : Position) (other : Station), lower < pos → s.fs.stations[lower] = some other → other.role ≠ role := by
  have hentry (i : Position) (x : Position × Station) :
      (match s.fs.stations[i] with
        | some e => if e.role == role then some (i, e) else none
        | none => none) = some x ↔ s.fs.stations[i] = some x.2 ∧ x.2.role = role ∧ x.1 = i := by
    cases hi : s.fs.stations[i] with
    | none => simp
    | some e' =>
      by_cases hrole : e'.role = role
      · simp only [hrole, beq_self_eq_true, if_true, Option.some.injEq]
        constructor
        · rintro rfl
          exact ⟨rfl, hrole, rfl⟩
        · rintro ⟨rfl, -, h⟩
          exact Prod.ext h.symm rfl
      · simp only [beq_iff_eq, hrole, if_false, reduceCtorEq, Option.some.injEq, false_iff, not_and]
        rintro rfl h
        exact absurd h hrole
  have hnone (i : Position) :
      (match s.fs.stations[i] with
        | some e => if e.role == role then some (i, e) else none
        | none => none) = none ↔ ∀ other, s.fs.stations[i] = some other → other.role ≠ role := by
    cases hi : s.fs.stations[i] with
    | none => simp
    | some e' => simp
  unfold State.stationFor State.findStation
  rw [findSome?_finRange]
  constructor
  · rintro ⟨i, hi, hbefore⟩
    obtain ⟨hstation, hrole, rfl⟩ := (hentry i _).mp hi
    exact ⟨⟨hstation, hrole⟩, fun lower other hlower => (hnone lower).mp (hbefore lower hlower) other⟩
  · rintro ⟨⟨hstation, hrole⟩, hbefore⟩
    exact ⟨pos, (hentry pos _).mpr ⟨hstation, hrole, rfl⟩, fun lower hlower => (hnone lower).mpr fun other => hbefore lower other hlower⟩

theorem stationFor_eq_none : s.stationFor role = none ↔
    ∀ (pos : Position) (e : Station), s.fs.stations[pos] = some e → e.role ≠ role := by
  rw [← Option.isNone_iff_eq_none, stationFor_isNone, Claims.noStation]

/-! ### The figures of a role (R31, R34) -/

/-- What the SIU gives for a role is what the claim on its record says. -/
theorem eq_freshValues {v : Option Values} (h : Claims.figuresOf s role v) : v = s.freshValues role := by
  obtain ⟨hlowest, hnone⟩ := h
  unfold State.freshValues State.recordFor
  cases hstation : s.stationFor role with
  | none => exact hnone (stationFor_eq_none.mp hstation)
  | some x =>
    obtain ⟨pos, e⟩ := x
    obtain ⟨⟨he, hrole⟩, hbefore⟩ := (stationFor_eq_some pos e).mp hstation
    rw [hlowest pos e he hrole hbefore]
    show _ = match s.siu.records[pos] with | some r => if r.fresh s.mr.site.holdTime then r.values else none | none => none
    cases s.siu.records[pos] with
    | none => rfl
    | some r =>
      show (if r.age ≤ s.mr.site.holdTime then r.values else none) =
        if (r.values.isSome && decide (r.age ≤ s.mr.site.holdTime)) = true then r.values else none
      cases r.values with
      | none => simp
      | some v => simp

end

theorem siteFigures (s : State) : Claims.siteFigures s := by
  refine ⟨fun v hv => ?_, fun v hv => ?_, fun j v hv => ?_, rfl, fun v hv => ?_⟩
  all_goals
    have hfresh := eq_freshValues hv
    subst hfresh
  · unfold State.gridPower
    refine ⟨fun power register h => by rw [h], fun h => by rw [h]⟩
  · unfold State.shopLoad State.shopFresh
    refine ⟨fun power h => by rw [h]; exact ⟨rfl, rfl⟩, fun h => by rw [h]; exact ⟨rfl, rfl⟩⟩
  · unfold State.stringPower
    refine ⟨fun power rating h => by rw [h], fun h => by rw [h]⟩
  · unfold State.batteryFigures
    refine ⟨fun power soc charge discharge h => by rw [h], fun h => by rw [h]⟩

/-! ### The band in force (R112, R113) -/

/-- The position found for a minute of day: the highest band that starts at or below it, else the last. -/
theorem positionAt_spec {bands : List Band} (hne : bands ≠ []) (m : Nat) :
    (∃ x, bands[positionAt bands m]? = some x ∧ x.start ≤ m ∧
        ∀ later band, positionAt bands m < later → bands[later]? = some band → m < band.start) ∨
      (∀ x ∈ bands, m < x.start) ∧ positionAt bands m + 1 = bands.length := by
  have hmem (x : Band) (i : Nat) : (x, i) ∈ bands.zipIdx.filter (fun x => decide (x.1.start ≤ m)) ↔
      bands[i]? = some x ∧ x.start ≤ m := by
    rw [List.mem_filter, List.mem_zipIdx_iff_getElem?, decide_eq_true_eq]
  have hordered : ((bands.zipIdx.filter fun x => decide (x.1.start ≤ m)).map (·.2)).Pairwise (· < ·) := by
    have hsublist : ((bands.zipIdx.filter fun x => decide (x.1.start ≤ m)).map (·.2)).Sublist (List.range' 0 bands.length) := by
      rw [← List.zipIdx_map_snd]
      exact List.filter_sublist.map _
    exact List.Pairwise.sublist hsublist List.pairwise_lt_range'
  unfold positionAt
  generalize bands.zipIdx.filter (fun x => decide (x.1.start ≤ m)) = found at hmem hordered ⊢
  cases hlast : found.getLast? with
  | none =>
    rw [List.getLast?_eq_none_iff] at hlast
    subst hlast
    refine .inr ⟨fun x hx => ?_, ?_⟩
    · obtain ⟨i, hi, rfl⟩ := List.mem_iff_getElem.mp hx
      by_contra hle
      have hin := (hmem bands[i] i).mpr ⟨List.getElem?_eq_getElem hi, Nat.le_of_not_lt hle⟩
      cases hin
    · exact Nat.succ_pred_eq_of_pos (List.length_pos_iff.mpr hne)
  | some x =>
    obtain ⟨front, rfl⟩ := List.getLast?_eq_some_iff.mp hlast
    obtain ⟨hx, hle⟩ := (hmem x.1 x.2).mp (by simp)
    refine .inl ⟨x.1, hx, hle, fun later band hlater hband => ?_⟩
    by_contra hstart
    have hin := (hmem band later).mpr ⟨hband, Nat.le_of_not_lt hstart⟩
    rw [List.map_append, List.pairwise_append] at hordered
    rcases List.mem_append.mp hin with hfront | hback
    · have hlt := hordered.2.2 later (List.mem_map_of_mem hfront) x.2 (by simp)
      exact absurd hlater (Nat.lt_asymm hlt)
    · rw [List.mem_singleton] at hback
      rw [← hback] at hlater
      exact absurd hlater (Nat.lt_irrefl _)

theorem positionAt_lt {bands : List Band} (hne : bands ≠ []) (m : Nat) : positionAt bands m < bands.length := by
  rcases positionAt_spec hne m with ⟨x, hx, -, -⟩ | ⟨-, hlast⟩
  · exact (List.getElem?_eq_some_iff.mp hx).1
  · omega

theorem Profile.bands_ne_nil (p : Profile) : p.bands ≠ [] := List.cons_ne_nil _ _

theorem bandRef_position_lt (s : State) : s.bandRef.position < (s.profile s.bandRef.profile).bands.length := by
  unfold State.bandRef
  cases s.mu.clock with
  | none => exact Nat.succ_pos _
  | some now => exact positionAt_lt (Profile.bands_ne_nil _) _

theorem bandFound (s : State) : Claims.bandFound s := by
  unfold Claims.bandFound
  intro profile bands
  have hprofile : profile = s.profile := funext fun name => by cases name <;> rfl
  have hbands : bands = (s.profile s.bandRef.profile).bands := by
    show (profile s.bandRef.profile).bands = _
    rw [hprofile]
  clear_value bands
  subst hbands
  have hforce : (s.profile s.bandRef.profile).bands[s.bandRef.position]? = some s.bandInForce := by
    rw [State.bandInForce, List.getElem?_eq_getElem (bandRef_position_lt s), List.getD_eq_getElem _ _ (bandRef_position_lt s)]
  refine ⟨hforce, fun hclock => ?_, fun now hclock => ?_⟩
  · unfold State.bandRef
    rw [hclock]
  · have href : s.bandRef = ⟨profileOfDay s.mr.site.weekend now.day,
        positionAt (s.profile (profileOfDay s.mr.site.weekend now.day)).bands (now.second / 60)⟩ := by
      unfold State.bandRef
      rw [hclock]
    refine ⟨?_, ?_⟩
    · rw [href]
      show profileOfDay s.mr.site.weekend now.day = .b ↔ _
      unfold profileOfDay
      split <;> simp_all
    · rw [href] at hforce ⊢
      dsimp only at hforce ⊢
      rcases positionAt_spec (Profile.bands_ne_nil (s.profile (profileOfDay s.mr.site.weekend now.day))) (now.second / 60) with
        ⟨x, hx, hle, hlater⟩ | ⟨hall, hlast⟩
      · rw [hx, Option.some.injEq] at hforce
        exact .inl ⟨hforce ▸ hle, hlater⟩
      · exact .inr ⟨hall, hlast⟩

end Sys2Proof.Machine
end

section
/-! The snapshot of an allocation pass, and the pass that it puts in flight (R45 to R53, O48, O49). -/

namespace Sys2Proof.Machine

/-! ### What a pass reads -/

/-- Two states that a pass reads alike: bays, inputs, site table, stations, metering and battery. -/
structure SameForPass (s t : State) : Prop where
  bays : t.bays = s.bays
  siu : t.siu = s.siu
  site : t.mr.site = s.mr.site
  fs : t.fs = s.fs
  mu : t.mu = s.mu
  bd : t.bd = s.bd

section
variable {s t u : State}

theorem SameForPass.trans (h : SameForPass s t) (k : SameForPass t u) : SameForPass s u :=
  ⟨k.bays.trans h.bays, k.siu.trans h.siu, k.site.trans h.site, k.fs.trans h.fs, k.mu.trans h.mu, k.bd.trans h.bd⟩

theorem SameForPass.bay (h : SameForPass s t) (b : BayNo) : t.bay b = s.bay b := by
  rw [State.bay, State.bay, h.bays]

theorem SameForPass.freshValues (h : SameForPass s t) (role : Role) : t.freshValues role = s.freshValues role :=
  freshValues_of_same h.fs h.siu h.site role

theorem SameForPass.gridPower (h : SameForPass s t) : t.gridPower = s.gridPower := by
  unfold State.gridPower
  rw [h.freshValues]

theorem SameForPass.bandInForce (h : SameForPass s t) : t.bandInForce = s.bandInForce :=
  (bandInForce_of_same (by rw [h.mu]) ⟨by rw [h.mu], by rw [h.mu]⟩ h.site).2

theorem SameForPass.standing (h : SameForPass s t) (b : BayNo) : t.standing b = s.standing b := by
  unfold State.standing
  rw [h.bay, h.siu, h.site]

theorem SameForPass.passLines (h : SameForPass s t) (basis : Basis) (granted : List (Candidate × Nat)) :
    t.passLines basis granted = s.passLines basis granted := by
  have hline : t.passLine basis granted = s.passLine basis granted := funext fun b => by
    unfold State.passLine State.chargerOf State.stationFor State.findStation
    rw [h.bay, h.standing, h.site, h.fs]
  rw [State.passLines, State.passLines, hline]

theorem SameForPass.bayOrder (h : SameForPass s t) : t.bayOrder = s.bayOrder := by
  unfold State.bayOrder
  simp only [h.standing]

theorem SameForPass.walkOrder (h : SameForPass s t) (hlists : t.ae.lists = s.ae.lists) : t.walkOrder = s.walkOrder := by
  unfold State.walkOrder
  simp only [h.standing, hlists]

theorem SameForPass.budgetedPass (h : SameForPass s t) (basis : Basis) (trim : Nat) (found : Vector (List BayNo × Bool) 8)
    (lines : Nat → Vector PassLine 32) : t.budgetedPass basis trim found lines = s.budgetedPass basis trim found lines := by
  unfold State.budgetedPass
  rw [h.gridPower, h.bandInForce, shopLoad_of_same h.freshValues h.site, solarSum_of_same h.freshValues, h.siu, h.site, h.bd]

end

/-! ### The import target and the trim (R48, R49) -/

section
variable (s : State)

/-- The import target of a pass taken now (R48). -/
def State.importTargetNow : Nat := importTarget s.mr.site s.bandInForce.peak s.siu.shed.active s.gridPower.isSome

/-- The import trim after a pass that forms one (R49). -/
def State.trimNow : Nat := nextTrim s.mr.site s.importTargetNow s.ae.trim s.gridPower

theorem updateTrim_same : SameForPass s s.updateTrim := by
  constructor <;> simp [State.updateTrim]

theorem updateTrim_ae : s.updateTrim.ae = { s.ae with trim := s.trimNow } := by
  simp only [State.updateTrim, State.raiseIf_ae]
  rfl

theorem updateTrim_isPending (e : Event) : s.updateTrim.isPending e =
    (s.isPending e || (importOver s.importTargetNow s.gridPower && decide (Event.importOver = e))) := by
  unfold State.updateTrim
  dsimp only
  rw [State.raiseIf_isPending]
  rfl

/-! ### The snapshot -/

/-- The state of a snapshot: the timer stands, the settle ends where it does, and the rotation lists are maintained (R45, R52, R69). -/
def State.snapshot : State :=
  State.maintainLists { s with ae.timer := Countdown.load 0, ae.settling := s.ae.settling && !s.settleEnds }

theorem startPass_eq : s.startPass = s.snapshot.runPass s.rotations := rfl

theorem snapshot_same : SameForPass s s.snapshot := ⟨rfl, rfl, rfl, rfl, rfl, rfl⟩

theorem snapshot_marked_same : SameForPass s s.snapshot.applyMarks.updateTrim :=
  SameForPass.trans (s := s) (t := s.snapshot.applyMarks) ⟨rfl, rfl, rfl, rfl, rfl, rfl⟩ (updateTrim_same _)

theorem snapshot_lists (k : ClassNo) : s.snapshot.ae.lists[k] = s.maintained k := by
  simp [State.snapshot, State.maintainLists]
  rfl

theorem trimNow_of_same {t : State} (h : SameForPass s t) (htrim : t.ae.trim = s.ae.trim) : t.trimNow = s.trimNow := by
  unfold State.trimNow State.importTargetNow
  rw [h.site, h.bandInForce, h.siu, h.gridPower, htrim]

/-- The pass that a snapshot puts in flight, by its basis; a NORMAL one works on the candidates in the order of its walk. -/
def State.passFormed (walk : List Candidate) : AllocPass :=
  match s.snapshot.passBasis with
  | .settle => s.unbudgetedPass .settle 0 s.rotations (s.passLines .settle [])
  | .frozen => s.budgetedPass .frozen s.trimNow s.rotations fun _ => s.passLines .frozen []
  | .fallback =>
    s.unbudgetedPass .fallback s.mr.site.fallbackBudget s.rotations
      (s.passLines .fallback (fallbackGrants s.mr.site.volts s.mr.site.fallbackBudget s.bayOrder))
  | .normal =>
    s.budgetedPass .normal s.trimNow s.rotations fun budget =>
      s.passLines .normal (allocate s.mr.site.volts budget walk)

theorem startPass_settle (h : s.snapshot.passBasis = .settle) : s.startPass =
    { s.snapshot with ae.pass := some (s.passFormed s.startPass.walkOrder) } := by
  rw [startPass_eq, State.passFormed, State.runPass]
  simp only [h]
  rfl

theorem startPass_fallback (h : s.snapshot.passBasis = .fallback) : s.startPass =
    { s.snapshot with ae.pass := some (s.passFormed s.startPass.walkOrder) } := by
  rw [startPass_eq, State.passFormed, State.runPass]
  simp only [h, snapshot_same s |>.bayOrder, snapshot_same s |>.passLines]
  rfl

theorem startPass_frozen (h : s.snapshot.passBasis = .frozen) : s.startPass =
    { s.snapshot.updateTrim with ae.pass := some (s.passFormed s.startPass.walkOrder) } := by
  have hsame := (snapshot_same s).trans (updateTrim_same s.snapshot)
  have htrim : s.snapshot.updateTrim.ae.trim = s.trimNow := by
    rw [updateTrim_ae]
    exact trimNow_of_same s (snapshot_same s) rfl
  rw [startPass_eq, State.passFormed, State.runPass]
  simp only [h, hsame.passLines, hsame.budgetedPass, htrim]

theorem startPass_normal (h : s.snapshot.passBasis = .normal) : s.startPass =
    { s.snapshot.applyMarks.updateTrim with ae.pass := some (s.passFormed s.startPass.walkOrder) } := by
  have hsame := snapshot_marked_same s
  have htrim : s.snapshot.applyMarks.updateTrim.ae.trim = s.trimNow := by
    rw [updateTrim_ae]
    exact trimNow_of_same s (t := s.snapshot.applyMarks) ⟨rfl, rfl, rfl, rfl, rfl, rfl⟩ rfl
  have hstart : s.startPass = { s.snapshot.applyMarks.updateTrim with
      ae.pass := some (s.budgetedPass .normal s.trimNow s.rotations fun budget =>
        s.passLines .normal (allocate s.mr.site.volts budget s.snapshot.applyMarks.updateTrim.walkOrder)) } := by
    rw [startPass_eq, State.runPass]
    simp only [h, hsame.passLines, hsame.budgetedPass, htrim, hsame.site]
  have hwalk : s.startPass.walkOrder = s.snapshot.applyMarks.updateTrim.walkOrder := by
    rw [hstart]
    exact SameForPass.walkOrder ⟨rfl, rfl, rfl, rfl, rfl, rfl⟩ rfl
  rw [hwalk, hstart, State.passFormed]
  simp only [h]

end

end Sys2Proof.Machine
end

section
/-! What an allocation pass leaves: basis, trim, rotation lists, and the snapshot that the pass in flight holds (O48). -/

namespace Sys2Proof.Machine

/-! ### Candidates (R51) -/

/-- The claim on a candidate is the standing that the model gives its bay. -/
theorem isCandidate_iff {s : State} {c : Candidate} : Claims.isCandidate s c ↔ s.standing c.bay = .candidate c := by
  unfold Claims.isCandidate State.standing
  dsimp only
  constructor
  · rintro ⟨f, hf, hactive, henabled, hguard, hshed, hcls, hphases, himin, himax⟩
    rw [if_neg (by simp [hactive, henabled]), if_neg (by omega), if_neg hshed, hf]
    obtain ⟨bay, cls, imin, imax, phases⟩ := c
    dsimp only at hcls hphases himin himax ⊢
    rw [hcls, hphases, himin, himax]
    rfl
  · intro h
    split at h
    · cases h
    next hrunning =>
      split at h
      · cases h
      next hguard =>
        split at h
        · cases h
        next hshed =>
          cases hf : (s.bay c.bay).session.figures with
          | none => simp [hf] at h
          | some f =>
            rw [hf] at h
            simp only [Standing.candidate.injEq] at h
            rw [not_or, not_not, Bool.not_eq_false] at hrunning
            obtain ⟨hactive, henabled⟩ := hrunning
            obtain ⟨bay, cls, imin, imax, phases⟩ := c
            simp only [Candidate.mk.injEq, true_and] at h hf ⊢
            obtain ⟨hcls, himin, himax, hphases⟩ := h
            exact ⟨f, rfl, hactive, henabled, Nat.eq_zero_of_not_pos hguard, hshed, hcls.symm, hphases.symm, himin.symm, himax.symm⟩

theorem candidate?_isSome {s : State} {b : BayNo} :
    (s.standing b).candidate?.isSome = true ↔ ∃ c, Claims.isCandidate s c ∧ c.bay = b := by
  rw [Option.isSome_iff_exists]
  refine ⟨fun ⟨c, hc⟩ => ?_, fun ⟨c, hc, hbay⟩ => ⟨c, ?_⟩⟩
  · rw [Standing.candidate?_eq_some] at hc
    obtain ⟨f, -, hform⟩ := State.standing_candidate hc
    have hbay : c.bay = b := by rw [hform]
    exact ⟨c, isCandidate_iff.mpr (hbay ▸ hc), hbay⟩
  · rw [Standing.candidate?_eq_some, ← hbay]
    exact isCandidate_iff.mp hc

section
variable (s : State)

/-! ### The basis and the settle (R47, R69) -/

theorem snapshot_passBasis : s.snapshot.passBasis =
    if (s.ae.settling && !s.settleEnds) = true then .settle
    else if s.siu.freeze = true then .frozen
    else if s.mr.plan.isSome = true then .fallback
    else .normal := rfl

theorem settles_iff : (s.ae.settling && !s.settleEnds) = true ↔
    s.ae.settling = true ∧ ¬((s.gridPower.isSome = true ∧ s.shopFresh = true) ∨
      s.mr.site.settleTimeout ≤ (s.mu.uptime - s.ae.settleStart).toNat) := by
  unfold State.settleEnds
  rw [Bool.and_eq_true, Bool.not_eq_true', ← Bool.not_eq_true, Bool.or_eq_true, Bool.and_eq_true, decide_eq_true_eq]
  rfl

/-! ### What a pass leaves, by its basis -/

/-- Whether a basis forms a target and a trim (R47 to R49). -/
def Basis.formsTarget : Basis → Bool
  | .normal | .frozen => true
  | .settle | .fallback => false

/-- What a pass leaves: its lists, marks, settle, trim and event, and the pass in flight. -/
structure PassLeft (t : State) (basis : Basis) : Prop where
  same : SameForPass s t
  pass : t.ae.pass = some (s.passFormed t.walkOrder)
  lists : ∀ k : ClassNo, t.ae.lists[k] =
    if basis = .normal ∧ s.ae.dwells[k].mark = true then s.turned (s.maintained k) else s.maintained k
  dwells : ∀ k : ClassNo, t.ae.dwells[k] =
    { s.ae.dwells[k] with mark := if basis = .normal then false else s.ae.dwells[k].mark }
  settling : t.ae.settling = (s.ae.settling && !s.settleEnds)
  trim : t.ae.trim = if basis.formsTarget then s.trimNow else s.ae.trim
  event : basis.formsTarget = true → importOver s.importTargetNow s.gridPower = true → t.isPending .importOver = true

theorem snapshot_trimNow : s.snapshot.trimNow = s.trimNow ∧ s.snapshot.importTargetNow = s.importTargetNow ∧
    s.snapshot.applyMarks.trimNow = s.trimNow ∧ s.snapshot.applyMarks.importTargetNow = s.importTargetNow := by
  have hsnapshot : SameForPass s s.snapshot := snapshot_same s
  have hmarked : SameForPass s s.snapshot.applyMarks := ⟨rfl, rfl, rfl, rfl, rfl, rfl⟩
  refine ⟨trimNow_of_same s hsnapshot rfl, ?_, trimNow_of_same s hmarked rfl, ?_⟩
  · unfold State.importTargetNow
    rw [hsnapshot.site, hsnapshot.bandInForce, hsnapshot.siu, hsnapshot.gridPower]
  · unfold State.importTargetNow
    rw [hmarked.site, hmarked.bandInForce, hmarked.siu, hmarked.gridPower]

/-- A pass that keeps the rotate marks and forms no target. -/
theorem passLeft_unbudgeted {basis : Basis} (hbasis : basis = .settle ∨ basis = .fallback)
    (h : s.startPass = { s.snapshot with ae.pass := some (s.passFormed s.startPass.walkOrder) }) :
    PassLeft s s.startPass basis := by
  have hnormal : basis ≠ .normal := by rcases hbasis with rfl | rfl <;> decide
  have hforms : basis.formsTarget = false := by rcases hbasis with rfl | rfl <;> rfl
  constructor
  case same => rw [h]; exact ⟨rfl, rfl, rfl, rfl, rfl, rfl⟩
  case pass => exact congrArg (fun t => t.ae.pass) h
  case lists =>
    intro k
    rw [if_neg (fun hand => hnormal hand.1), ← snapshot_lists, h]
  case dwells =>
    intro k
    rw [if_neg hnormal, h]
    rfl
  case settling => rw [h]; rfl
  case trim => rw [hforms, h]; rfl
  case event => intro htrue; rw [hforms] at htrue; cases htrue

theorem passLeft_frozen (h : s.snapshot.passBasis = .frozen) : PassLeft s s.startPass .frozen := by
  have hstart := startPass_frozen s h
  obtain ⟨htrim, htarget, -, -⟩ := snapshot_trimNow s
  have hae : s.startPass.ae = { s.snapshot.ae with trim := s.trimNow, pass := some (s.passFormed s.startPass.walkOrder) } := by
    rw [congrArg State.ae hstart]
    dsimp only
    rw [updateTrim_ae, htrim]
  constructor
  case same =>
    have hsame := (snapshot_same s).trans (updateTrim_same s.snapshot)
    rw [hstart]
    exact ⟨hsame.bays, hsame.siu, hsame.site, hsame.fs, hsame.mu, hsame.bd⟩
  case pass => rw [hae]
  case lists =>
    intro k
    rw [if_neg (by simp), ← snapshot_lists, hae]
  case dwells =>
    intro k
    rw [if_neg (by simp), hae]
    rfl
  case settling => rw [hae]; rfl
  case trim => rw [hae]; rfl
  case event =>
    intro _ hover
    have hpending : s.startPass.isPending .importOver = s.snapshot.updateTrim.isPending .importOver := by rw [hstart]; rfl
    rw [hpending, updateTrim_isPending, htarget, (snapshot_same s).gridPower, hover]
    simp

theorem passLeft_normal (h : s.snapshot.passBasis = .normal) : PassLeft s s.startPass .normal := by
  have hstart := startPass_normal s h
  obtain ⟨-, -, htrim, htarget⟩ := snapshot_trimNow s
  have hae : s.startPass.ae =
      { s.snapshot.applyMarks.ae with trim := s.trimNow, pass := some (s.passFormed s.startPass.walkOrder) } := by
    rw [congrArg State.ae hstart]
    dsimp only
    rw [updateTrim_ae, htrim]
  constructor
  case same =>
    have hsame := snapshot_marked_same s
    rw [hstart]
    exact ⟨hsame.bays, hsame.siu, hsame.site, hsame.fs, hsame.mu, hsame.bd⟩
  case pass => rw [hae]
  case lists =>
    intro k
    have hlist : s.snapshot.applyMarks.ae.lists[k] =
        if s.snapshot.ae.dwells[k].mark then s.snapshot.turned s.snapshot.ae.lists[k] else s.snapshot.ae.lists[k] := by
      simp [State.applyMarks]
    rw [hae]
    dsimp only
    rw [hlist, snapshot_lists]
    simp only [true_and]
    rfl
  case dwells =>
    intro k
    rw [if_pos rfl, hae]
    exact Vector.getElem_map _ k.isLt
  case settling => rw [hae]; rfl
  case trim => rw [hae]; rfl
  case event =>
    intro _ hover
    have hpending : s.startPass.isPending .importOver = s.snapshot.applyMarks.updateTrim.isPending .importOver := by
      rw [hstart]; rfl
    rw [hpending, updateTrim_isPending, htarget, SameForPass.gridPower (s := s) (t := s.snapshot.applyMarks)
      ⟨rfl, rfl, rfl, rfl, rfl, rfl⟩, hover]
    simp

theorem startPass_left : PassLeft s s.startPass s.snapshot.passBasis := by
  cases h : s.snapshot.passBasis with
  | settle => exact passLeft_unbudgeted s (.inl rfl) (startPass_settle s h)
  | fallback => exact passLeft_unbudgeted s (.inr rfl) (startPass_fallback s h)
  | frozen => exact passLeft_frozen s h
  | normal => exact passLeft_normal s h

end

end Sys2Proof.Machine
end

section
/-! ALLOCATION_PASS_START: the snapshot that a pass in flight holds, and what it forms from it (O48). -/

namespace Sys2Proof.Machine

section
variable (s : State) (walk : List Candidate)

/-! ### The pass formed -/

theorem passFormed_basis : (s.passFormed walk).basis = s.snapshot.passBasis := by
  unfold State.passFormed
  cases s.snapshot.passBasis <;> rfl

/-- The lines of a pass stand on grants that it formed. -/
theorem passFormed_lines : ∃ granted, (s.passFormed walk).lines = s.passLines (s.passFormed walk).basis granted := by
  unfold State.passFormed
  cases s.snapshot.passBasis <;> exact ⟨_, rfl⟩

/-- The marks and the site table fields that a pass holds, and the figures by its basis (R46, R61, R65, R69). -/
theorem passFormed_figures :
    (s.passFormed walk).gridFresh = s.gridPower.isSome ∧ (s.passFormed walk).shed = s.siu.shed.active ∧
      (s.passFormed walk).peak = s.bandInForce.peak ∧ (s.passFormed walk).volts = s.mr.site.volts ∧
      (s.passFormed walk).restartGuard = s.mr.site.restartGuard ∧ (s.passFormed walk).grantRefresh = s.mr.site.grantRefresh ∧
      ((s.passFormed walk).basis = .normal ∨ (s.passFormed walk).basis = .frozen →
        (s.passFormed walk).shop = s.shopLoad ∧ (s.passFormed walk).solar = s.solarSum) ∧
      ((s.passFormed walk).basis = .settle ∨ (s.passFormed walk).basis = .fallback →
        (s.passFormed walk).target = 0 ∧ (s.passFormed walk).shop = 0 ∧ (s.passFormed walk).solar = 0 ∧
          (s.passFormed walk).avail = 0 ∧ (s.passFormed walk).offer = 0 ∧ (s.passFormed walk).trim = s.ae.trim) := by
  unfold State.passFormed
  cases s.snapshot.passBasis with
  | settle | fallback => exact ⟨rfl, rfl, rfl, rfl, rfl, rfl, fun h => by simp [State.unbudgetedPass] at h, fun _ => ⟨rfl, rfl, rfl, rfl, rfl, rfl⟩⟩
  | frozen | normal => exact ⟨rfl, rfl, rfl, rfl, rfl, rfl, fun _ => ⟨rfl, rfl⟩, fun h => by simp [State.budgetedPass] at h⟩

/-- The target, trim, available power and budget of a pass that forms them (R48 to R50). -/
theorem passFormed_budget (h : (s.passFormed walk).basis = .normal ∨ (s.passFormed walk).basis = .frozen) :
    (s.passFormed walk).target = s.importTargetNow ∧ (s.passFormed walk).trim = s.trimNow ∧
      (s.passFormed walk).avail = (s.importTargetNow : Int) - s.mr.site.margin - s.trimNow - s.shopLoad + s.solarSum ∧
      (s.passFormed walk).offer = s.bd.offerBd ∧
      ((s.passFormed walk).budget : Int) = max 0 ((s.passFormed walk).avail + s.bd.offerBd) := by
  rw [passFormed_basis] at h
  unfold State.passFormed
  rcases h with h | h <;> rw [h] <;> exact ⟨rfl, rfl, rfl, rfl, by rw [max_comm]; exact Int.toNat_eq_max _⟩

theorem passFormed_settle (h : s.snapshot.passBasis = .settle) : (s.passFormed walk).budget = 0 := by
  unfold State.passFormed
  rw [h]
  rfl

theorem passFormed_fallback (h : s.snapshot.passBasis = .fallback) :
    (s.passFormed walk).budget = s.mr.site.fallbackBudget ∧
      (s.passFormed walk).lines =
        s.passLines .fallback (fallbackGrants s.mr.site.volts (s.passFormed walk).budget s.bayOrder) := by
  unfold State.passFormed
  rw [h]
  exact ⟨rfl, rfl⟩

theorem passFormed_normal (h : s.snapshot.passBasis = .normal) :
    (s.passFormed walk).lines = s.passLines .normal (allocate s.mr.site.volts (s.passFormed walk).budget walk) := by
  unfold State.passFormed
  rw [h]
  rfl

end

/-! ### The snapshot that it holds -/

theorem passLines_getElem (s : State) (basis : Basis) (granted : List (Candidate × Nat)) (b : BayNo) :
    (s.passLines basis granted)[b] = s.passLine basis granted b := Vector.getElem_ofFn _

theorem passLine_candidate (s : State) (basis : Basis) (granted : List (Candidate × Nat)) (b : BayNo) :
    (s.passLine basis granted b).candidate = true ↔
      (basis = .normal ∨ basis = .fallback) ∧ ∃ c, Claims.isCandidate s c ∧ c.bay = b := by
  unfold State.passLine
  dsimp only
  rw [Bool.and_eq_true, candidate?_isSome, Bool.or_eq_true, beq_iff_eq, beq_iff_eq]

theorem passLine_charger (s : State) (basis : Basis) (granted : List (Candidate × Nat)) (b : BayNo) :
    ((s.passLine basis granted b).charger = none ↔
        ∀ (pos : Position) (e : Station), s.fs.stations[pos] = some e → e.role ≠ .charger b) ∧
      ∀ pos : Position, (s.passLine basis granted b).charger = some pos ↔
        (∃ e, s.fs.stations[pos] = some e ∧ e.role = .charger b) ∧
          ∀ (lower : Position) (e : Station), lower < pos → s.fs.stations[lower] = some e → e.role ≠ .charger b := by
  have hcharger : (s.passLine basis granted b).charger = (s.stationFor (.charger b)).map (·.1) := rfl
  rw [hcharger, Option.map_eq_none_iff]
  refine ⟨stationFor_eq_none, fun pos => ?_⟩
  rw [Option.map_eq_some_iff]
  constructor
  · rintro ⟨⟨pos', e⟩, hstation, rfl⟩
    obtain ⟨hentry, hbefore⟩ := (stationFor_eq_some pos' e).mp hstation
    exact ⟨⟨e, hentry⟩, hbefore⟩
  · rintro ⟨⟨e, hentry⟩, hbefore⟩
    exact ⟨(pos, e), (stationFor_eq_some pos e).mpr ⟨hentry, hbefore⟩, rfl⟩

theorem passLine_phases {s : State} {b : BayNo} {f : Figures} (basis : Basis) (granted : List (Candidate × Nat))
    (h : (s.bay b).session.figures = some f) : (s.passLine basis granted b).phases = f.phases := by
  unfold State.passLine
  dsimp only
  rw [h]

theorem passLine_maxPower {s : State} {c : Candidate} (basis : Basis) (granted : List (Candidate × Nat))
    (h : Claims.isCandidate s c) :
    (s.passLine basis granted c.bay).maxPower = (c.imax * s.mr.site.volts * c.phases.toNat + 9) / 10 := by
  have hstanding : (s.standing c.bay).candidate? = some c := Standing.candidate?_eq_some.mpr (isCandidate_iff.mp h)
  unfold State.passLine
  dsimp only
  rw [hstanding]
  rfl

theorem passFormed_holdsSnapshot (s : State) (walk : List Candidate) : Claims.holdsSnapshot s (s.passFormed walk) := by
  obtain ⟨granted, hlines⟩ := passFormed_lines s walk
  obtain ⟨hgrid, hshed, hpeak, hvolts, hguard, hrefresh, hread, hunread⟩ := passFormed_figures s walk
  generalize s.passFormed walk = p at *
  have hline (b : BayNo) : p.lines[b] = s.passLine p.basis granted b := by rw [hlines, passLines_getElem]
  refine ⟨⟨hgrid, hshed, hpeak, hvolts, hguard, hrefresh, hread, hunread⟩, fun b => ?_, fun c hc _ => ?_⟩
  · rw [hline]
    obtain ⟨hnone, hsome⟩ := passLine_charger s p.basis granted b
    exact ⟨beq_iff_eq, rfl, fun f hf => passLine_phases _ _ hf, passLine_candidate _ _ _ _, hnone, hsome⟩
  · rw [hline]
    exact passLine_maxPower _ _ hc

/-! ### The target and the trim in the terms of the spec's rules -/

theorem importTargetNow_eq (s : State) : s.importTargetNow =
    (let l1 := if s.bandInForce.peak then s.mr.site.peakTarget else s.mr.site.importLimit
     let l2 := if s.siu.shed.active then min l1 s.mr.site.shedTarget else l1
     if s.gridPower = none then min l2 s.mr.site.fallbackTarget else l2) := by
  unfold State.importTargetNow importTarget
  cases s.gridPower <;> rfl

theorem trimNow_over {s : State} {w : Int} (hw : s.gridPower = some w) (h : (s.importTargetNow : Int) < w) :
    s.trimNow = min s.importTargetNow (s.ae.trim + (w - s.importTargetNow).toNat) ∧
      importOver s.importTargetNow s.gridPower = true := by
  unfold State.trimNow nextTrim importOver
  rw [hw]
  dsimp only
  rw [if_pos h]
  exact ⟨by omega, decide_eq_true h⟩

theorem trimNow_within {s : State} (h : ∀ w, s.gridPower = some w → w ≤ (s.importTargetNow : Int)) :
    s.trimNow = min (s.ae.trim - s.mr.site.trimDecay) s.importTargetNow := by
  unfold State.trimNow nextTrim
  cases hw : s.gridPower with
  | none => rfl
  | some w =>
    dsimp only
    rw [if_neg (by have := h w hw; omega)]

/-! ### The rotation lists -/

theorem mem_maintained (s : State) (k : ClassNo) (b : BayNo) :
    b ∈ s.maintained k ↔ (s.bay b).session.state = .active ∧ (s.bay b).config.cls = k := by
  have hbelongs : s.belongs k b = true ↔ (s.bay b).session.state = .active ∧ (s.bay b).config.cls = k := by
    rw [State.belongs, Bool.and_eq_true, beq_iff_eq, beq_iff_eq]
  refine ⟨fun h => hbelongs.mp (State.maintained_belongs h), fun h => ?_⟩
  unfold State.maintained
  dsimp only
  by_cases hkept : b ∈ s.ae.lists[k].filter (s.belongs k)
  · exact List.mem_append_left _ hkept
  · refine List.mem_append_right _ (List.mem_filter.mpr ⟨List.mem_finRange b, ?_⟩)
    rw [hbelongs.mpr h, Bool.true_and, Bool.not_eq_true', ← Bool.not_eq_true, List.contains_iff_mem]
    exact hkept

end Sys2Proof.Machine
end

section
/-! ALLOCATION_PASS_START (O48). -/

namespace Sys2Proof.Machine

/-- What a pass left stands where the Allocation Engine, what the pass reads and the pending events do. -/
theorem PassLeft.of_same {s u t : State} {basis : Basis} (h : PassLeft s u basis) (hsame : SameForPass u t)
    (hae : t.ae = u.ae) (hpending : ∀ e, t.isPending e = u.isPending e) : PassLeft s t basis where
  same := h.same.trans hsame
  pass := by rw [hae, h.pass, SameForPass.walkOrder hsame (by rw [hae])]
  lists k := by rw [hae, h.lists k]
  dwells k := by rw [hae, h.dwells k]
  settling := by rw [hae, h.settling]
  trim := by rw [hae, h.trim]
  event hforms hover := by rw [hpending, h.event hforms hover]

theorem exec_allocationPassStart {s : State} (hp : s.powered = true) (hdue : s.ae.timer.due = true) (hnone : s.ae.pass = none) :
    ∃ t, exec .allocationPassStart s = .next t ∧ PassLeft s t s.snapshot.passBasis ∧
      s.changesOnly t
        ({.allocTimer, .settle, .allocPass, .trim} ∪ Set.range Part.rotation ∪ Set.range Part.dwell ∪ raisedParts) := by
  have hwork : (fun t : State => if t.allocDue then t.startPass else t) s = s.startPass :=
    if_pos (by rw [State.allocDue, hdue, hnone]; rfl)
  have hexec := exec_powered (c := .allocationPassStart) (s := s) rfl hp
  generalize (fun t : State => if t.allocDue then t.startPass else t) = work at hwork hexec
  have hframe := inEvent_frame (work := work) (a := passParts) (hwork ▸ s.startPass_frame)
  refine ⟨_, hexec, (startPass_left s).of_same ?_ (by rw [inEvent_ae, hwork]) (fun e => by rw [inEvent_isPending, hwork]), ?_⟩
  · rw [← hwork]
    constructor <;> simp
  · refine State.changesOnly_mono hframe fun part hpart => ?_
    simp only [passParts, raisedParts, Set.mem_union, Set.mem_insert_iff, Set.mem_singleton_iff] at hpart ⊢
    tauto

/-- Settles O48. -/
theorem passBegins : Obligations.PassBegins := by
  unfold Obligations.PassBegins
  refine ⟨fun s => ⟨siteFigures s, bandFound s⟩, fun s hp hdue hnone => ?_⟩
  obtain ⟨t, hexec, hleft, hframe⟩ := exec_allocationPassStart hp hdue hnone
  have hsnapshot := passFormed_holdsSnapshot s t.walkOrder
  have hbasis := passFormed_basis s t.walkOrder
  have hbudget := passFormed_budget s t.walkOrder
  have hsettle := passFormed_settle s t.walkOrder
  have hfallback := passFormed_fallback s t.walkOrder
  obtain ⟨-, hpass, hlists, hdwells, hsettling, htrim, hevent⟩ := hleft
  generalize s.passFormed t.walkOrder = p at *
  rw [← hbasis] at hlists hdwells htrim hevent hsettle hfallback
  have hrows := hbasis.trans (snapshot_passBasis s)
  refine ⟨t, p, hexec, hpass, hsnapshot, ?figures, fun k b => ?member, fun k => ?list, hframe⟩
  case member =>
    rw [hlists k, ← mem_maintained]
    split
    · exact (s.turned_perm _).mem_iff
    · exact Iff.rfl
  case list =>
    intro belongs stay list admitted
    have hbelongs : s.belongs k = belongs := funext fun b => by
      rw [Bool.eq_iff_iff, State.belongs, Bool.and_eq_true, beq_iff_eq, beq_iff_eq]
      exact decide_eq_true_iff.symm
    have hlist : s.maintained k = list := by
      unfold State.maintained
      dsimp only
      rw [hbelongs]
      refine congrArg (stay ++ ·) (List.filter_congr fun b _ => ?_)
      rw [List.contains_eq_mem, decide_not]
    have hturned : s.turned list = list.filter (fun b => !admitted b) ++ list.filter admitted := by
      have hadmitted : (fun b => (s.bay b).alloc.outcome == .admitted) = admitted := funext fun b => by
        rw [Bool.eq_iff_iff, beq_iff_eq]
        exact decide_eq_true_iff.symm
      unfold State.turned
      dsimp only
      rw [← hadmitted]
    rw [hlists k, hlist, hturned]
    exact ⟨rfl, hdwells k⟩
  case figures =>
    intro settles l1 l2 target
    have hsettles : (s.ae.settling && !s.settleEnds) = true ↔ settles := settles_iff s
    have htarget : s.importTargetNow = target := importTargetNow_eq s
    refine ⟨fun h => ?_, fun h hfreeze => ?_, fun h hfreeze hplan => ?_, fun h hfreeze hplan => ?_, ?_, fun h => ?_, fun h => ?_⟩
    · rw [if_pos (hsettles.mpr h)] at hrows
      exact ⟨hrows, hsettle hrows⟩
    · rw [if_neg (fun hs => h (hsettles.mp hs)), if_pos hfreeze] at hrows
      exact hrows
    · rw [if_neg (fun hs => h (hsettles.mp hs)), if_neg (by rw [hfreeze]; decide),
        if_pos (Option.isSome_iff_ne_none.mpr hplan)] at hrows
      exact ⟨hrows, (hfallback hrows).1⟩
    · rw [if_neg (fun hs => h (hsettles.mp hs)), if_neg (by rw [hfreeze]; decide), if_neg (by rw [hplan]; decide)] at hrows
      exact hrows
    · rw [hsettling, hsettles]
    · have hforms : p.basis.formsTarget = true := by rcases h with h | h <;> rw [h] <;> rfl
      obtain ⟨htargetP, htrimP, havail, hoffer, hbudgetP⟩ := hbudget h
      rw [hforms, if_pos rfl] at htrim
      rw [htrim, ← htarget]
      refine ⟨htargetP, htrimP, fun w hw hover => ?_, fun hwithin => trimNow_within hwithin, havail, hoffer, hbudgetP⟩
      obtain ⟨hgrown, himport⟩ := trimNow_over hw hover
      exact ⟨hgrown, hevent hforms himport⟩
    · have hforms : p.basis.formsTarget = false := by rcases h with h | h <;> rw [h] <;> rfl
      rw [htrim, hforms]
      rfl

end Sys2Proof.Machine
end

section
/-! First-fit admission and the common steps of a NORMAL pass, each by what decides it (R56 to R58, O49). -/

namespace Sys2Proof.Machine

/-! ### First-fit admission (R56) -/

/-- The members of a sublist, picked from a list without duplicates, are the sublist. -/
theorem filter_mem_of_sublist {α : Type} [DecidableEq α] {l l' : List α} (h : l.Sublist l') (hn : l'.Nodup) :
    l'.filter (fun x => decide (x ∈ l)) = l := by
  induction h with
  | slnil => rfl
  | @cons l₁ l₂ a h ih =>
    rw [List.nodup_cons] at hn
    have ha : a ∉ l₁ := fun hmem => hn.1 (h.subset hmem)
    rw [List.filter_cons, if_neg (by simpa using ha), ih hn.2]
  | @cons_cons l₁ l₂ a h ih =>
    rw [List.nodup_cons] at hn
    rw [List.filter_cons, if_pos (by simp)]
    refine congrArg (a :: ·) (Eq.trans (List.filter_congr fun x hx => ?_) (ih hn.2))
    have hne : x ≠ a := fun heq => hn.1 (heq ▸ hx)
    simp [hne]

section
variable (volts : Nat)

theorem admitWalk_append (front back : List Candidate) (r : Nat) :
    (admitWalk volts (front ++ back) r).1 =
      (admitWalk volts front r).1 ++ (admitWalk volts back (admitWalk volts front r).2).1 := by
  induction front generalizing r with
  | nil => rfl
  | cons c front ih =>
    rw [List.cons_append, admitWalk, admitWalk]
    split
    · exact congrArg (c :: ·) (ih _)
    · exact ih r

variable {volts}

/-- A candidate is admitted exactly where its minimum fits beside those admitted before it. -/
theorem mem_admitWalk_iff {front back : List Candidate} {c : Candidate} (hn : (front ++ c :: back).Nodup) (r : Nat) :
    c ∈ (admitWalk volts (front ++ c :: back) r).1 ↔
      ((front.filter fun d => decide (d ∈ (admitWalk volts (front ++ c :: back) r).1)).map fun d => d.minPower volts).sum +
        c.minPower volts ≤ r := by
  have hpower := admitWalk_power volts front r
  have hfront := admitWalk_sublist volts front r
  have hback (n : Nat) := admitWalk_sublist volts (c :: back) n
  rw [admitWalk_append]
  generalize hr : (admitWalk volts front r).2 = left at hpower ⊢
  generalize (admitWalk volts front r).1 = before at hpower hfront ⊢
  obtain ⟨hfrontNodup, hbackNodup, hdisjoint⟩ := List.nodup_append.mp hn
  have hnot : c ∉ before := fun hmem => hdisjoint c (hfront.subset hmem) c List.mem_cons_self rfl
  have hkept : (front.filter fun d => decide (d ∈ before ++ (admitWalk volts (c :: back) left).1)) = before := by
    refine Eq.trans (List.filter_congr fun d hd => ?_) (filter_mem_of_sublist hfront hfrontNodup)
    have hd' : d ∉ (admitWalk volts (c :: back) left).1 := fun hmem => hdisjoint d hd d ((hback left).subset hmem) rfl
    simp [hd']
  have hown : c ∈ (admitWalk volts (c :: back) left).1 ↔ c.minPower volts ≤ left := by
    rw [List.nodup_cons] at hbackNodup
    rw [admitWalk]
    split
    next hfits => simp [hfits]
    next hfits => exact ⟨fun hmem => absurd ((admitWalk_sublist volts back left).subset hmem) hbackNodup.1, fun h => absurd h hfits⟩
  rw [hkept, List.mem_append, or_iff_right hnot, hown]
  omega

end

/-! ### The common steps (R57, R58) -/

section
variable (volts : Nat)

/-- The step of the class at a place of the fill: the greatest that fits, and 0 behind a class that did not reach its largest gap. -/
def fillStep : List (List Candidate) → Nat → Nat → Nat
  | [], _, _ => 0
  | cs :: _, r, 0 => classStep volts cs r
  | cs :: rest, r, k + 1 =>
    if classStep volts cs r = maxGap cs then fillStep rest (r - stepCost volts cs (classStep volts cs r)) k else 0

/-- The power of classes, each at its own step. -/
def stepsPower : List (List Candidate) → (Nat → Nat) → Nat
  | [], _ => 0
  | cs :: rest, f => stepPower volts cs (f 0) + stepsPower rest fun j => f (j + 1)

/-- Steps before a place as they are, one at the place, and 0 behind it. -/
def stepsAt (f : Nat → Nat) (k x j : Nat) : Nat := if j < k then f j else if j = k then x else 0

theorem stepsAt_succ (f : Nat → Nat) (k x j : Nat) : stepsAt f (k + 1) x (j + 1) = stepsAt (fun i => f (i + 1)) k x j := by
  simp [stepsAt]

theorem stepPower_zero (cs : List Candidate) : stepPower volts cs 0 = minimumPower volts cs := by
  simp [stepPower, minimumPower, Candidate.raised, Candidate.minPower]

theorem minimum_le_stepPower (cs : List Candidate) (x : Nat) : minimumPower volts cs ≤ stepPower volts cs x :=
  List.sum_le_sum fun _ _ => powerOf_mono (Nat.le_add_right _ _) _ _

theorem stepsPower_zero (classes : List (List Candidate)) :
    stepsPower volts classes (fun _ => 0) = minimumPower volts classes.flatten := by
  induction classes with
  | nil => rfl
  | cons cs rest ih =>
    rw [stepsPower, ih, stepPower_zero]
    simp [minimumPower]

/-- The grants of the fill are those of the steps. -/
theorem fill_grant {classes : List (List Candidate)} {r : Nat} {g : Candidate × Nat} (h : g ∈ fill volts classes r) :
    ∃ k cs, classes[k]? = some cs ∧ g.1 ∈ cs ∧ g.2 = g.1.raised (fillStep volts classes r k) := by
  induction classes generalizing r with
  | nil => simp [fill] at h
  | cons cs rest ih =>
    rw [fill] at h
    split at h
    next hfull =>
      rcases List.mem_append.mp h with hg | hg
      · obtain ⟨c, hc, rfl⟩ := List.mem_map.mp hg
        exact ⟨0, cs, rfl, hc, rfl⟩
      · obtain ⟨k, cs', hk, hc, hgrant⟩ := ih hg
        exact ⟨k + 1, cs', hk, hc, by rw [hgrant, fillStep, if_pos hfull]⟩
    next hstopped =>
      rcases List.mem_append.mp h with hg | hg
      · obtain ⟨c, hc, rfl⟩ := List.mem_map.mp hg
        exact ⟨0, cs, rfl, hc, rfl⟩
      · obtain ⟨c, hc, rfl⟩ := List.mem_map.mp hg
        obtain ⟨cs', hmem, hc⟩ := List.mem_flatten.mp hc
        obtain ⟨k, hk⟩ := List.mem_iff_getElem?.mp hmem
        exact ⟨k + 1, cs', hk, hc, by simp [fillStep, hstopped, Candidate.raised]⟩

theorem fill_candidates (classes : List (List Candidate)) (r : Nat) : (fill volts classes r).map (·.1) = classes.flatten := by
  induction classes generalizing r with
  | nil => rfl
  | cons cs rest ih =>
    rw [fill]
    split
    · rw [List.map_append, ih]
      simp [Function.comp_def]
    · simp [Function.comp_def]

variable {volts}

/-- The step of the first class: the greatest from 0 to its largest gap whose cost the remainder holds. -/
theorem classStep_greatest (cs : List Candidate) (r : Nat) : classStep volts cs r ≤ maxGap cs ∧
    stepPower volts cs (classStep volts cs r) ≤ minimumPower volts cs + r ∧
    ∀ x, classStep volts cs r < x → x ≤ maxGap cs → minimumPower volts cs + r < stepPower volts cs x := by
  obtain ⟨hle, -, hgreatest⟩ := greatest_spec (fun x => decide (stepCost volts cs x ≤ r)) (maxGap cs)
  have hcost := stepCost_classStep volts cs r
  refine ⟨hle, ?_, fun x hx hgap => ?_⟩
  · rw [stepCost] at hcost
    rw [minimumPower]
    omega
  · have hover : ¬stepCost volts cs x ≤ r := of_decide_eq_false (hgreatest x hx hgap)
    rw [stepCost] at hover
    rw [minimumPower]
    omega

/-- Behind a class that did not reach its largest gap the step is 0. -/
theorem fillStep_stopped {classes : List (List Candidate)} {r k : Nat}
    (h : ¬∀ j, j < k → fillStep volts classes r j = maxGap (classes.getD j [])) : fillStep volts classes r k = 0 := by
  induction classes generalizing r k with
  | nil => rfl
  | cons cs rest ih =>
    cases k with
    | zero => exact absurd (fun j hj => absurd hj (Nat.not_lt_zero j)) h
    | succ k =>
      rw [fillStep]
      split
      next hfull =>
        refine ih fun hall => h fun j hj => ?_
        cases j with
        | zero => exact hfull
        | succ j =>
          rw [fillStep, if_pos hfull]
          exact hall j (by omega)
      next => rfl

/-- Behind classes that reached their largest gaps the step is the greatest that the budget allows. -/
theorem fillStep_greatest {classes : List (List Candidate)} {r k : Nat} {cs : List Candidate} (hk : classes[k]? = some cs)
    (h : ∀ j, j < k → fillStep volts classes r j = maxGap (classes.getD j [])) :
    fillStep volts classes r k ≤ maxGap cs ∧
      stepsPower volts classes (stepsAt (fillStep volts classes r) k (fillStep volts classes r k)) ≤
        minimumPower volts classes.flatten + r ∧
      ∀ x, fillStep volts classes r k < x → x ≤ maxGap cs →
        minimumPower volts classes.flatten + r < stepsPower volts classes (stepsAt (fillStep volts classes r) k x) := by
  induction classes generalizing r k with
  | nil => cases hk
  | cons first rest ih =>
    have hminimum : minimumPower volts (first :: rest).flatten = minimumPower volts first + minimumPower volts rest.flatten := by
      simp [minimumPower]
    cases k with
    | zero =>
      obtain rfl : first = cs := by simpa using hk
      have hpower (x : Nat) : stepsPower volts (first :: rest) (stepsAt (fillStep volts (first :: rest) r) 0 x) =
          stepPower volts first x + minimumPower volts rest.flatten := by
        rw [← stepsPower_zero, stepsPower]
        rfl
      obtain ⟨hle, hfits, hover⟩ := classStep_greatest (volts := volts) first r
      rw [hpower, hminimum]
      refine ⟨hle, ?_, fun x hx hgap => ?_⟩
      · rw [fillStep]
        omega
      · have := hover x hx hgap
        rw [hpower]
        omega
    | succ k =>
      have hfull : classStep volts first r = maxGap first := h 0 (Nat.succ_pos k)
      have hstep (j : Nat) : fillStep volts (first :: rest) r (j + 1) =
          fillStep volts rest (r - stepCost volts first (classStep volts first r)) j := by rw [fillStep, if_pos hfull]
      have hcost := stepCost_classStep volts first r
      have hpower (x : Nat) : stepsPower volts (first :: rest) (stepsAt (fillStep volts (first :: rest) r) (k + 1) x) =
          stepPower volts first (classStep volts first r) +
            stepsPower volts rest
              (stepsAt (fillStep volts rest (r - stepCost volts first (classStep volts first r))) k x) := by
        rw [stepsPower]
        simp only [stepsAt_succ, hstep]
        rfl
      have hmore := minimum_le_stepPower volts first (classStep volts first r)
      have hminimumFirst : stepCost volts first (classStep volts first r) =
          stepPower volts first (classStep volts first r) - minimumPower volts first := rfl
      obtain ⟨hle, hfits, hover⟩ := ih (r := r - stepCost volts first (classStep volts first r)) (k := k) (by simpa using hk)
        fun j hj => by
          rw [← hstep]
          exact h (j + 1) (by omega)
      rw [hstep, hpower, hminimum]
      refine ⟨hle, by omega, fun x hx hgap => ?_⟩
      have := hover x hx hgap
      rw [hpower]
      omega

end

end Sys2Proof.Machine
end

section
/-! What a pass gives a bay, by its standing and the grants formed (R51, R56, R60, R61, O49). -/

namespace Sys2Proof.Machine

/-! ### Standings (R51, R59, R60) -/

section
variable {s : State} {b : BayNo}

theorem standing_out (h : ¬((s.bay b).session.state = .active ∧ (s.bay b).config.enabled = true)) : s.standing b = .out := by
  unfold State.standing
  exact if_pos (by rw [not_and_or, Bool.not_eq_true] at h; exact h)

theorem standing_guarded (h : (s.bay b).session.state = .active ∧ (s.bay b).config.enabled = true)
    (hguard : 0 < (s.bay b).alloc.guard.left) : s.standing b = .guarded := by
  unfold State.standing
  dsimp only
  rw [if_neg (by simp [h]), if_pos hguard]

theorem standing_shed (h : (s.bay b).session.state = .active ∧ (s.bay b).config.enabled = true)
    (hguard : (s.bay b).alloc.guard.left = 0)
    (hshed : s.siu.shed.active = true ∧ s.mr.site.shedFloor < (s.bay b).config.cls.val) : s.standing b = .shed := by
  unfold State.standing
  dsimp only
  rw [if_neg (by simp [h]), if_neg (by omega), if_pos hshed]

end

/-! ### The line of a bay -/

section
variable {s : State} {granted : List (Candidate × Nat)} {basis : Basis}
  (hgranted : ∀ g ∈ granted, s.standing g.1.bay = .candidate g.1)
include hgranted

/-- A bay that is no candidate takes no grant. -/
theorem passLine_of_not_candidate {b : BayNo} (h : ∀ c, s.standing b ≠ .candidate c) : (s.passLine basis granted b).grant = 0 := by
  have hnone : (granted.find? fun g => g.1.bay == b) = none := by
    rw [List.find?_eq_none]
    intro g hg hbay
    rw [beq_iff_eq] at hbay
    exact h g.1 (hbay ▸ hgranted g hg)
  unfold State.passLine
  dsimp only
  rw [hnone]

/-- A candidate with a grant takes it. -/
theorem passLine_of_granted {c : Candidate} (hc : s.standing c.bay = .candidate c) (hmem : c ∈ granted.map (·.1)) :
    ∃ g ∈ granted, g.1 = c ∧ (s.passLine basis granted c.bay).grant = g.2 ∧
      (s.passLine basis granted c.bay).outcome = lineOutcome basis (.candidate c) true := by
  obtain ⟨g', hg', hfirst⟩ := List.mem_map.mp hmem
  cases hfind : granted.find? fun g => g.1.bay == c.bay with
  | none =>
    rw [List.find?_eq_none] at hfind
    exact absurd (by simp [hfirst]) (hfind g' hg')
  | some g =>
    have hg := List.mem_of_find?_eq_some hfind
    have hbay : g.1.bay = c.bay := by simpa using List.find?_some hfind
    have hsame : g.1 = c := by
      have hstanding := hgranted g hg
      rw [hbay, hc, Standing.candidate.injEq] at hstanding
      exact hstanding.symm
    refine ⟨g, hg, hsame, ?_, ?_⟩
    · unfold State.passLine
      dsimp only
      rw [hfind]
    · unfold State.passLine
      dsimp only
      rw [hfind, hc]
      rfl

/-- A candidate without a grant takes 0. -/
theorem passLine_of_ungranted {c : Candidate} (hc : s.standing c.bay = .candidate c)
    (hmem : c ∉ granted.map (·.1)) :
    (s.passLine basis granted c.bay).grant = 0 ∧
      (s.passLine basis granted c.bay).outcome = lineOutcome basis (.candidate c) false := by
  have hfind : (granted.find? fun g => g.1.bay == c.bay) = none := by
    rw [List.find?_eq_none]
    intro g hg hbay
    rw [beq_iff_eq] at hbay
    have hstanding := hgranted g hg
    rw [hbay, hc, Standing.candidate.injEq] at hstanding
    exact hmem (hstanding ▸ List.mem_map_of_mem hg)
  unfold State.passLine
  dsimp only
  rw [hfind, hc]
  exact ⟨rfl, rfl⟩

/-- The outcome and grant of a bay that is no candidate, by its standing (R51, R59, R60). -/
theorem passLine_waiting (b : BayNo) :
    ((s.bay b).session.state = .active ∧ (s.bay b).config.enabled = true → 0 < (s.bay b).alloc.guard.left →
        (s.passLine basis granted b).outcome = .waitingGuard ∧ (s.passLine basis granted b).grant = 0) ∧
      ((s.bay b).session.state = .active ∧ (s.bay b).config.enabled = true → (s.bay b).alloc.guard.left = 0 →
        s.siu.shed.active = true ∧ s.mr.site.shedFloor < (s.bay b).config.cls.val →
        (s.passLine basis granted b).outcome = .waitingShed ∧ (s.passLine basis granted b).grant = 0) ∧
      (¬((s.bay b).session.state = .active ∧ (s.bay b).config.enabled = true) →
        (s.passLine basis granted b).outcome = .none ∧ (s.passLine basis granted b).grant = 0) := by
  have houtcome {x : Standing} (h : s.standing b = x) :
      (s.passLine basis granted b).outcome = lineOutcome basis x (granted.find? fun g => g.1.bay == b).isSome := by
    rw [← h]
    rfl
  refine ⟨fun hrunning hguard => ?_, fun hrunning hguard hshed => ?_, fun hrunning => ?_⟩
  · have h := standing_guarded hrunning hguard
    exact ⟨houtcome h, passLine_of_not_candidate hgranted (by simp [h])⟩
  · have h := standing_shed hrunning hguard hshed
    exact ⟨houtcome h, passLine_of_not_candidate hgranted (by simp [h])⟩
  · have h := standing_out hrunning
    exact ⟨houtcome h, passLine_of_not_candidate hgranted (by simp [h])⟩

end

/-! ### The orders in which candidates are met -/

section
variable {s : State}

/-- The bays of the candidates that a walk meets are met in its order. -/
theorem walk_bays_sublist (l : List BayNo) : ((l.filterMap fun b => (s.standing b).candidate?).map (·.bay)).Sublist l := by
  induction l with
  | nil => exact List.Sublist.slnil
  | cons b l ih =>
    rw [List.filterMap_cons]
    cases hb : (s.standing b).candidate? with
    | none => exact ih.cons b
    | some c =>
      obtain ⟨f, -, hform⟩ := State.standing_candidate (Standing.candidate?_eq_some.mp hb)
      have hbay : c.bay = b := by rw [hform]
      show ((c.bay) :: _).Sublist _
      rw [hbay]
      exact ih.cons_cons b

theorem mem_walk_iff {l : List BayNo} {c : Candidate} :
    c ∈ l.filterMap (fun b => (s.standing b).candidate?) ↔ c.bay ∈ l ∧ Claims.isCandidate s c := by
  rw [isCandidate_iff]
  refine ⟨fun h => ⟨?_, standing_of_mem_walk h⟩, fun ⟨hmem, hc⟩ => ?_⟩
  · exact (walk_bays_sublist l).subset (List.mem_map_of_mem h)
  · exact List.mem_filterMap.mpr ⟨c.bay, hmem, Standing.candidate?_eq_some.mpr hc⟩

theorem mem_bayOrder_iff {c : Candidate} : c ∈ s.bayOrder ↔ Claims.isCandidate s c := by
  rw [State.bayOrder, mem_walk_iff]
  exact and_iff_right (List.mem_finRange _)

theorem bayOrder_ordered : (s.bayOrder.map (·.bay)).Pairwise (· < ·) :=
  List.Pairwise.sublist (walk_bays_sublist _) (List.pairwise_lt_finRange 32)

theorem bayOrder_nodup : s.bayOrder.Nodup :=
  List.Nodup.of_map _ (bayOrder_ordered.imp fun h => h.ne)

end

end Sys2Proof.Machine
end

section
/-! The grants of a pass (O49). -/

namespace Sys2Proof.Machine

/-! ### The classes of a NORMAL pass -/

section
variable (admitted : List Candidate)

theorem byClass_getElem? {k : Nat} {cs : List Candidate} (h : (byClass admitted)[k]? = some cs) :
    ∃ j : ClassNo, j.val = k ∧ cs = admitted.filter fun c => c.cls == j := by
  rw [byClass, List.getElem?_map, Option.map_eq_some_iff] at h
  obtain ⟨j, hj, rfl⟩ := h
  obtain ⟨hk, hget⟩ := List.getElem?_eq_some_iff.mp hj
  rw [List.getElem_finRange] at hget
  exact ⟨j, by rw [← hget]; rfl, rfl⟩

theorem byClass_at (j : ClassNo) : (byClass admitted)[j.val]? = some (admitted.filter fun c => c.cls == j) := by
  rw [byClass, List.getElem?_map, List.getElem?_eq_getElem (by simp), List.getElem_finRange]
  rfl

theorem mem_byClass_iff {c : Candidate} : c ∈ (byClass admitted).flatten ↔ c ∈ admitted := by
  refine ⟨mem_byClass, fun h => List.mem_flatten.mpr ⟨_, List.mem_of_getElem? (byClass_at admitted c.cls), ?_⟩⟩
  exact List.mem_filter.mpr ⟨h, beq_self_eq_true _⟩

theorem stepsPower_finRange (volts : Nat) {n : Nat} (g : Fin n → List Candidate) (f : Nat → Nat) :
    stepsPower volts ((List.finRange n).map g) f = ((List.finRange n).map fun j => stepPower volts (g j) (f j.val)).sum := by
  induction n generalizing f with
  | zero => rfl
  | succ n ih =>
    rw [List.finRange_succ, List.map_cons, List.map_map, stepsPower, List.map_cons, List.map_map, List.sum_cons]
    exact congrArg (stepPower volts (g 0) (f 0) + ·) (ih (fun j => g j.succ) fun j => f (j + 1))

/-- The steps of the classes, on the remainder that admission leaves (R57, R58). -/
def classSteps (volts r : Nat) (k : ClassNo) : Nat := fillStep volts (byClass admitted) r k.val

/-- The step of a class is the greatest that the budget allows where the classes before it reached their largest gaps, and else 0. -/
theorem classSteps_spec {volts budget r : Nat} (hbudget : minimumPower volts admitted + r = budget) (k : ClassNo)
    (power : Nat → Nat)
    (hpower : ∀ x, power x = ((List.finRange 8).map fun j : ClassNo =>
      Claims.classPower volts admitted j
        (if j < k then classSteps admitted volts r j else if j = k then x else 0)).sum) :
    if ∀ j : ClassNo, j < k → classSteps admitted volts r j = Claims.classGap admitted j then
      classSteps admitted volts r k ≤ Claims.classGap admitted k ∧ power (classSteps admitted volts r k) ≤ budget ∧
        ∀ x, classSteps admitted volts r k < x → x ≤ Claims.classGap admitted k → budget < power x
    else classSteps admitted volts r k = 0 := by
  have hclass (j : ClassNo) : (byClass admitted).getD j.val [] = admitted.filter fun c => c.cls == j := by
    rw [List.getD_eq_getElem?_getD, byClass_at]
    rfl
  have hgap (j : ClassNo) : Claims.classGap admitted j = maxGap (admitted.filter fun c => c.cls == j) := rfl
  have hpowerAt (x : Nat) : power x =
      stepsPower volts (byClass admitted) (stepsAt (fillStep volts (byClass admitted) r) k.val x) := by
    rw [hpower, byClass, stepsPower_finRange]
    refine congrArg List.sum (List.map_congr_left fun j _ => congrArg (Claims.classPower volts admitted j) ?_)
    rw [stepsAt]
    simp only [Fin.lt_def, Fin.ext_iff]
    rfl
  have htotal : minimumPower volts (byClass admitted).flatten + r = budget := by
    rw [← hbudget, minimumPower, sum_byClass]
    rfl
  have hbefore : (∀ j : ClassNo, j < k → classSteps admitted volts r j = Claims.classGap admitted j) ↔
      ∀ j, j < k.val → fillStep volts (byClass admitted) r j = maxGap ((byClass admitted).getD j []) := by
    refine ⟨fun h j hj => ?_, fun h j hj => ?_⟩
    · have hclassNo := h ⟨j, hj.trans k.isLt⟩ hj
      rw [hgap, ← hclass] at hclassNo
      exact hclassNo
    · rw [hgap, ← hclass]
      exact h j.val hj
  split
  next hfull =>
    obtain ⟨hle, hfits, hover⟩ := fillStep_greatest (byClass_at admitted k) (hbefore.mp hfull)
    rw [htotal, ← hpowerAt] at hfits
    refine ⟨hle, hfits, fun x hx hxgap => ?_⟩
    have h := hover x hx hxgap
    rwa [htotal, ← hpowerAt] at h
  next hstopped => exact fillStep_stopped fun h => hstopped (hbefore.mpr h)

/-- A grant of a NORMAL pass stands its class's step above its candidate's minimum. -/
theorem fill_byClass_grant {volts r : Nat} {g : Candidate × Nat} (h : g ∈ fill volts (byClass admitted) r) :
    g.2 = g.1.imin + min (g.1.imax - g.1.imin) (classSteps admitted volts r g.1.cls) := by
  obtain ⟨k, cs, hk, hmem, hgrant⟩ := fill_grant volts h
  obtain ⟨j, rfl, rfl⟩ := byClass_getElem? admitted hk
  have hcls : g.1.cls = j := by simpa using (List.mem_filter.mp hmem).2
  rw [hgrant, hcls]
  rfl

end

/-! ### The lines of a NORMAL pass -/

section
variable {s : State} {volts budget : Nat} {walk : List Candidate}

theorem allocate_candidates : (allocate volts budget walk).map (·.1) =
    (byClass (admitWalk volts walk budget).1).flatten := fill_candidates volts _ _

variable (hwalk : ∀ c ∈ walk, s.standing c.bay = .candidate c)
include hwalk

theorem allocate_standing : ∀ g ∈ allocate volts budget walk, s.standing g.1.bay = .candidate g.1 :=
  fun g hg => hwalk g.1 (allocate_mem hg).1

/-- A candidate is ADMITTED exactly where admission took it; the others wait for budget without a grant. -/
theorem normal_admitted {c : Candidate} (hc : c ∈ walk) :
    ((s.passLine .normal (allocate volts budget walk) c.bay).outcome = .admitted ↔ c ∈ (admitWalk volts walk budget).1) ∧
      (c ∉ (admitWalk volts walk budget).1 →
        (s.passLine .normal (allocate volts budget walk) c.bay).outcome = .waitingBudget ∧
          (s.passLine .normal (allocate volts budget walk) c.bay).grant = 0) := by
  have hmem : c ∈ (allocate volts budget walk).map (·.1) ↔ c ∈ (admitWalk volts walk budget).1 := by
    rw [allocate_candidates, mem_byClass_iff]
  have hstanding := allocate_standing (volts := volts) (budget := budget) hwalk
  by_cases hadmitted : c ∈ (admitWalk volts walk budget).1
  · obtain ⟨g, -, -, -, houtcome⟩ := passLine_of_granted (basis := .normal) hstanding (hwalk c hc) (hmem.mpr hadmitted)
    exact ⟨⟨fun _ => hadmitted, fun _ => houtcome⟩, fun h => absurd hadmitted h⟩
  · obtain ⟨hgrant, houtcome⟩ := passLine_of_ungranted (basis := .normal) hstanding (hwalk c hc) (fun h => hadmitted (hmem.mp h))
    refine ⟨⟨fun h => ?_, fun h => absurd h hadmitted⟩, fun _ => ⟨houtcome, hgrant⟩⟩
    rw [houtcome] at h
    cases h

/-- An admitted candidate's grant stands its class's step above its minimum. -/
theorem normal_grant {c : Candidate} (hc : c ∈ (admitWalk volts walk budget).1) :
    (s.passLine .normal (allocate volts budget walk) c.bay).grant =
      c.imin + min (c.imax - c.imin)
        (classSteps (admitWalk volts walk budget).1 volts (admitWalk volts walk budget).2 c.cls) := by
  have hmem : c ∈ (allocate volts budget walk).map (·.1) := by
    rw [allocate_candidates, mem_byClass_iff]
    exact hc
  obtain ⟨g, hg, rfl, hgrant, -⟩ := passLine_of_granted (basis := .normal)
    (allocate_standing (volts := volts) (budget := budget) hwalk)
    (hwalk c ((admitWalk_sublist volts walk budget).subset hc)) hmem
  rw [hgrant]
  exact fill_byClass_grant _ hg

/-! ### The lines of a FALLBACK pass -/

theorem fallbackGrants_standing : ∀ g ∈ fallbackGrants volts budget walk, s.standing g.1.bay = .candidate g.1 :=
  fun g hg => hwalk g.1 (fallbackGrants_mem hg).1

/-- A candidate of a FALLBACK pass takes its minimum where admission took it, and else 0 (R61). -/
theorem fallback_line {c : Candidate} (hc : c ∈ walk) :
    (s.passLine .fallback (fallbackGrants volts budget walk) c.bay).outcome = .fallback ∧
      (s.passLine .fallback (fallbackGrants volts budget walk) c.bay).grant =
        if c ∈ (admitWalk volts walk budget).1 then c.imin else 0 := by
  have hmem : c ∈ (fallbackGrants volts budget walk).map (·.1) ↔ c ∈ (admitWalk volts walk budget).1 := by
    simp [fallbackGrants]
  have hstanding := fallbackGrants_standing (volts := volts) (budget := budget) hwalk
  split
  next hadmitted =>
    obtain ⟨g, hg, rfl, hgrant, houtcome⟩ :=
      passLine_of_granted (basis := .fallback) hstanding (hwalk c hc) (hmem.mpr hadmitted)
    obtain ⟨d, -, rfl⟩ := List.mem_map.mp hg
    exact ⟨houtcome, hgrant⟩
  next hmissed =>
    obtain ⟨hgrant, houtcome⟩ :=
      passLine_of_ungranted (basis := .fallback) hstanding (hwalk c hc) fun h => hmissed (hmem.mp h)
    exact ⟨houtcome, hgrant⟩

end

end Sys2Proof.Machine
end

section
/-! ALLOCATION_PASS_START: the candidates and the grants of a pass (O49). -/

namespace Sys2Proof.Machine

/-! ### The walk over the rotation lists -/

section
variable {s t : State} {basis : Basis} (hleft : PassLeft s t basis)
include hleft

theorem PassLeft.mem_lists (k : ClassNo) (b : BayNo) :
    b ∈ t.ae.lists[k] ↔ (s.bay b).session.state = .active ∧ (s.bay b).config.cls = k := by
  rw [hleft.lists k, ← mem_maintained]
  split
  · exact (s.turned_perm _).mem_iff
  · exact Iff.rfl

theorem PassLeft.rotationInv (h : RotationInv s) : RotationInv t := by
  rw [rotationInv_iff] at h
  obtain ⟨hnodup, -⟩ := h
  refine rotationInv_of_belongs (s := s) (fun k => ?_) fun k b hb => ?_
  · rw [hleft.lists k]
    split
    · exact (s.turned_perm _).nodup_iff.mpr (State.maintained_nodup (hnodup k))
    · exact State.maintained_nodup (hnodup k)
  · obtain ⟨hactive, hcls⟩ := (hleft.mem_lists k b).mp hb
    rw [State.belongs, hactive, hcls]
    simp

theorem PassLeft.mem_walkOrder {c : Candidate} : c ∈ t.walkOrder ↔ Claims.isCandidate s c := by
  have hcandidate : Claims.isCandidate t c ↔ Claims.isCandidate s c := by
    rw [isCandidate_iff, isCandidate_iff, hleft.same.standing]
  rw [State.walkOrder, mem_walk_iff, hcandidate]
  refine and_iff_right_of_imp fun hc => ?_
  obtain ⟨f, -, hactive, -⟩ := hc
  have hlist := (hleft.mem_lists (s.bay c.bay).config.cls c.bay).mpr ⟨hactive, rfl⟩
  exact List.mem_flatten.mpr ⟨_, by simp, hlist⟩

theorem PassLeft.walkOrder_nodup (h : RotationInv s) : t.walkOrder.Nodup :=
  List.Nodup.of_map _ ((hleft.rotationInv h).sublist (walk_bays_sublist _))

theorem PassLeft.walkOrder_standing : ∀ c ∈ t.walkOrder, s.standing c.bay = .candidate c :=
  fun _ hc => isCandidate_iff.mp (hleft.mem_walkOrder.mp hc)

end

/-- The grants of every pass are of its candidates. -/
theorem passFormed_granted {s : State} {walk : List Candidate} (hwalk : ∀ c ∈ walk, s.standing c.bay = .candidate c) :
    ∃ granted, (s.passFormed walk).lines = s.passLines (s.passFormed walk).basis granted ∧
      ∀ g ∈ granted, s.standing g.1.bay = .candidate g.1 := by
  unfold State.passFormed
  cases s.snapshot.passBasis with
  | settle => exact ⟨[], rfl, by simp⟩
  | frozen => exact ⟨[], rfl, by simp⟩
  | fallback => exact ⟨_, rfl, fallbackGrants_standing fun c hc => bayOrder_standing hc⟩
  | normal => exact ⟨_, rfl, allocate_standing hwalk⟩

/-! ### Admission and steps of a NORMAL pass -/

section
variable {s : State} {p : AllocPass} {walk : List Candidate} {volts : Nat}
  (hlines : p.lines = s.passLines .normal (allocate volts p.budget walk))
  (hwalk : ∀ c ∈ walk, s.standing c.bay = .candidate c)
include hlines hwalk

theorem normal_outcome {c : Candidate} (hc : c ∈ walk) :
    (p.lines[c.bay].outcome == .admitted) = decide (c ∈ (admitWalk volts walk p.budget).1) := by
  rw [hlines, passLines_getElem, Bool.eq_iff_iff, beq_iff_eq, decide_eq_true_eq]
  exact (normal_admitted hwalk hc).1

theorem normal_admits (hn : walk.Nodup) (front : List Candidate) (c : Candidate) (back : List Candidate)
    (hsplit : walk = front ++ c :: back) :
    (p.lines[c.bay].outcome = .admitted ↔
        ((front.filter fun d => p.lines[d.bay].outcome == .admitted).map fun d => d.minPower volts).sum + c.minPower volts ≤
          p.budget) ∧
      (p.lines[c.bay].outcome = .admitted ∨ (p.lines[c.bay].outcome = .waitingBudget ∧ p.lines[c.bay].grant = 0)) := by
  have hc : c ∈ walk := by simp [hsplit]
  obtain ⟨hadmitted, hmissed⟩ := normal_admitted (volts := volts) (budget := p.budget) hwalk hc
  rw [← passLines_getElem, ← hlines] at hadmitted hmissed
  have hfront : (front.filter fun d => p.lines[d.bay].outcome == .admitted) =
      front.filter fun d => decide (d ∈ (admitWalk volts walk p.budget).1) :=
    List.filter_congr fun d hd => normal_outcome hlines hwalk (by simp [hsplit, hd])
  rw [hfront, hadmitted]
  refine ⟨?_, ?_⟩
  · subst hsplit
    exact mem_admitWalk_iff hn p.budget
  · by_cases h : c ∈ (admitWalk volts walk p.budget).1
    · exact .inl h
    · exact .inr (hmissed h)

theorem normal_filter (hn : walk.Nodup) : (walk.filter fun c => p.lines[c.bay].outcome == .admitted) =
    (admitWalk volts walk p.budget).1 :=
  (List.filter_congr fun _ hc => normal_outcome hlines hwalk hc).trans
    (filter_mem_of_sublist (admitWalk_sublist volts walk p.budget) hn)

theorem normal_steps {admitted : List Candidate} (hadmitted : admitted = (admitWalk volts walk p.budget).1) :
    ∀ c ∈ admitted, p.lines[c.bay].grant =
      c.imin + min (c.imax - c.imin) (classSteps admitted volts (admitWalk volts walk p.budget).2 c.cls) := by
  subst hadmitted
  intro c hc
  rw [hlines, passLines_getElem]
  exact normal_grant hwalk hc

end

/-! ### The minimums of a FALLBACK pass (R61) -/

section
variable {s : State} {p : AllocPass} {walk : List Candidate} {volts : Nat}
  (hlines : p.lines = s.passLines .fallback (fallbackGrants volts p.budget walk))
  (hwalk : ∀ c ∈ walk, s.standing c.bay = .candidate c)
include hlines hwalk

theorem fallback_power {front : List Candidate} (hfront : ∀ d ∈ front, d ∈ walk) :
    (front.map fun d => powerOf p.lines[d.bay].grant volts d.phases).sum =
      ((front.filter fun d => decide (d ∈ (admitWalk volts walk p.budget).1)).map fun d => d.minPower volts).sum := by
  induction front with
  | nil => rfl
  | cons d front ih =>
    obtain ⟨-, hgrant⟩ := fallback_line (volts := volts) (budget := p.budget) hwalk (hfront d List.mem_cons_self)
    rw [← passLines_getElem, ← hlines] at hgrant
    rw [List.map_cons, List.sum_cons, ih fun x hx => hfront x (List.mem_cons_of_mem _ hx), hgrant, List.filter_cons]
    by_cases h : d ∈ (admitWalk volts walk p.budget).1
    · rw [if_pos h, if_pos (by simpa using h)]
      rfl
    · rw [if_neg h, if_neg (by simpa using h), powerOf_zero, Nat.zero_add]

theorem fallback_admits (hn : walk.Nodup) (front : List Candidate) (c : Candidate) (back : List Candidate)
    (hsplit : walk = front ++ c :: back) :
    p.lines[c.bay].outcome = .fallback ∧
      p.lines[c.bay].grant =
        (if (front.map fun d => powerOf p.lines[d.bay].grant volts d.phases).sum + c.minPower volts ≤ p.budget then c.imin
          else 0) := by
  have hc : c ∈ walk := by simp [hsplit]
  obtain ⟨houtcome, hgrant⟩ := fallback_line (volts := volts) (budget := p.budget) hwalk hc
  rw [← passLines_getElem, ← hlines] at houtcome hgrant
  rw [fallback_power hlines hwalk fun d hd => by simp [hsplit, hd], hgrant]
  refine ⟨houtcome, ?_⟩
  subst hsplit
  exact if_congr (mem_admitWalk_iff hn p.budget) rfl rfl

end

/-- Settles O49. -/
theorem grantsOfAPass : Obligations.GrantsOfAPass := by
  unfold Obligations.GrantsOfAPass
  intro s hp hdue hnone hrotation
  obtain ⟨t, hexec, hleft, -⟩ := exec_allocationPassStart hp hdue hnone
  have hwalk := hleft.walkOrder_standing
  have hn := hleft.walkOrder_nodup hrotation
  obtain ⟨granted, hlines, hgranted⟩ := passFormed_granted hwalk
  obtain ⟨-, -, -, hvolts, -⟩ := passFormed_figures s t.walkOrder
  have hbasis := passFormed_basis s t.walkOrder
  have hnormal := passFormed_normal s t.walkOrder
  have hfallback := passFormed_fallback s t.walkOrder
  have hpass := hleft.pass
  generalize s.passFormed t.walkOrder = p at *
  rw [← hbasis, ← hvolts] at hnormal hfallback
  refine ⟨t, p, hexec, hpass, hvolts, fun c => hleft.mem_walkOrder, walk_bays_sublist _, fun c => mem_bayOrder_iff,
    bayOrder_ordered, fun h => ?normal, fun h => ?fallback, fun b => ?waiting⟩
  case normal =>
    intro admitted
    have hadmitted : admitted = (admitWalk p.volts t.walkOrder p.budget).1 := normal_filter (hnormal h) hwalk hn
    have hbudget := admitWalk_power p.volts t.walkOrder p.budget
    refine ⟨normal_admits (hnormal h) hwalk hn, _, normal_steps (hnormal h) hwalk hadmitted, fun k => ?_⟩
    intro power
    rw [← hadmitted] at hbudget
    exact classSteps_spec admitted hbudget k power fun x => rfl
  case fallback =>
    obtain ⟨-, hgrants⟩ := hfallback h
    exact fallback_admits hgrants (fun c hc => bayOrder_standing hc) bayOrder_nodup
  case waiting =>
    have hline : p.lines[b] = s.passLine p.basis granted b := by rw [hlines, passLines_getElem]
    rw [hline]
    exact passLine_waiting hgranted b

end Sys2Proof.Machine
end
